-- ==== Sys2Proof/Word.lean ====
section
/-! DEFINITION. The word types of the bus and of the records (spec 00, Words, bytes and lanes). -/

namespace Sys2Proof

/-- A word of the bus and of every record: 32 bits, little-endian (spec 00). -/
abbrev W32 := BitVec 32

/-- The 16-bit subject field of an event record and the short argument of a command record (R180, R181). -/
abbrev W16 := BitVec 16

/-- One byte: an argument byte, a sequence, a generation (spec 00, Indices). -/
abbrev Byte := BitVec 8

end Sys2Proof
end

