-- ==== Sys2Proof/Machine/Arith.lean ====
section
/-! DEFINITION. The arithmetic the rules share: the round function, saturation, the heater clock's differences, and the
fields of records. -/

namespace Sys2Proof.Machine

/-- The round function of R1: q(n, d) = floor((2n + d) / (2d)) for d > 0. -/
def q (n d : Int) : Int := (2 * n + d) / (2 * d)

/-- Saturation: the nearer end of lo..hi where `x` lies outside it (spec 00, The round function). -/
def saturate (lo hi x : Int) : Int := if x < lo then lo else if hi < x then hi else x

/-- The range of every temperature the bridge computes (spec 00, Numbers and units). -/
def tempMin : Int := -5000
def tempMax : Int := 15000

/-- Saturation to the temperature range. -/
def satTemp (x : Int) : Int := saturate tempMin tempMax x

/-- The value lies within lo..hi, both ends included. -/
def within (lo hi x : Int) : Bool := decide (lo ≤ x) && decide (x ≤ hi)

/-- A duration between two readings of the heater clock, (later − earlier) mod 2^32 in milliseconds (spec 00, Time). -/
def elapsed (later earlier : W32) : Nat := (later - earlier).toNat

/-- A count that stays at `top` once it has reached it. -/
def satAdd (top n k : Nat) : Nat := if top ≤ n + k then top else n + k

/-- The unsigned field of `width` bits of a word whose lowest bit is `lo` (spec 10). -/
def bits (w : W32) (lo width : Nat) : Nat := (w.toNat / 2 ^ lo) % 2 ^ width

/-- One bit of a word. -/
def bit (w : W32) (lo : Nat) : Bool := bits w lo 1 == 1

/-- An unsigned 16-bit field read as signed (R178). -/
def signed16 (n : Nat) : Int := if n < 32768 then (n : Int) else (n : Int) - 65536

/-- A 32-bit field read as signed (R178). -/
def signed32 (w : W32) : Int := w.toInt

/-- A value placed in a record at bit `lo`, cut to `width` bits. -/
def place (v lo width : Nat) : Nat := (v % 2 ^ width) * 2 ^ lo

/-- A word made of placed fields; bits of no field are 0 (R178). -/
def mkWord (fields : List Nat) : W32 := BitVec.ofNat 32 fields.sum

/-- A signed value in two's complement across 16 bits (R178). -/
def enc16 (x : Int) : Nat := (x % 65536).toNat

/-- A 16-bit signed field that may be absent: the marker 0x8000 stands for absent (R178). -/
def encOpt16 : Option Int → Nat
  | some x => enc16 x
  | none => 0x8000

/-- A signed value in a 32-bit value field (R181). -/
def encInt (x : Int) : W32 := BitVec.ofInt 32 x

/-- A count, index, sequence or code in a 32-bit value field (R181). -/
def encNat (n : Nat) : W32 := BitVec.ofNat 32 n

/-- The marker of an absent 32-bit value field or heater time (R178). -/
def absent32 : W32 := 0xFFFF8000#32

/-- The marker of an absent subject or 16-bit index (R178, R181). -/
def absent16 : W16 := 0x8000#16

/-- A heater time that may be absent (R178). -/
def encTime : Option W32 → W32
  | some t => t
  | none => absent32

/-- A flag as a number. -/
def flag (b : Bool) : Nat := if b then 1 else 0

end Sys2Proof.Machine
end

