-- ==== Sys2Proof/Syntax.lean ====
section
/-! DEFINITION. The commands of the block: one constructor per row of spec/opcode_table.json, with the operands that
the spec says the step carries (the table itself gives none). -/

namespace Sys2Proof

/-- One beat of an access: a word of data and its four byte enables, lane 0 first (spec 00, Byte lanes). The data of
a read beat plays no part. -/
structure Beat where
  data : W32
  be : BitVec 4
deriving DecidableEq, Repr

/-- What an access drives onto the bus: a single beat at any address, or an aligned burst of four beats over the 16
bytes of one block (spec 01, Ports and pass-through). -/
inductive Drive where
  | single (addr : W32) (b : Beat)
  | burst (block : BitVec 28) (b0 b1 b2 b3 : Beat)
deriving DecidableEq, Repr

/-- The address driven; a burst's is that of its first beat. -/
def Drive.addr : Drive → W32
  | .single a _ => a
  | .burst block _ _ _ _ => block ++ 0#4

/-- The beats in address order. -/
def Drive.beats : Drive → List Beat
  | .single _ b => [b]
  | .burst _ b0 b1 b2 b3 => [b0, b1, b2, b3]

/-- A host access at the upstream port (R2): a read or a write, and what it drives. -/
structure HostAccess where
  write : Bool
  drive : Drive
deriving DecidableEq, Repr

/-- The address of a host access. -/
abbrev HostAccess.addr (a : HostAccess) : W32 := a.drive.addr

/-- The beats of a host access, in address order. -/
abbrev HostAccess.beats (a : HostAccess) : List Beat := a.drive.beats

/-- What one beat of a completion carries: read data, the acknowledgement of a write, or an error (R2). -/
inductive BeatResp where
  | data (w : W32)
  | ack
  | error
deriving DecidableEq, Repr

/-- Memory's completion of a four-beat fetch: four words, or an error on some beat, after which no data is usable (R13). -/
inductive FetchReply where
  | words (w0 w1 w2 w3 : W32)
  | error
deriving DecidableEq, Repr

/-- The commands. Each docstring names the row of the table and its rule. -/
inductive Instr where
  /-- POWER_ON (R14): power is applied with RESET# held or not. -/
  | powerOn (resetHeld : Bool)
  /-- RESET_ASSERT (R14). -/
  | resetAssert
  /-- RESET_RELEASE (R14). -/
  | resetRelease
  /-- CLEAR_END (R14, R15): the clear ends and the strap pins are sampled at these levels. -/
  | clearEnd (root : BitVec 4) (autoload : Bool)
  /-- HEATER_CLOCK_TICK (R26). -/
  | heaterClockTick
  /-- COMMIT_AGE_ADVANCE (R93) of one pass. -/
  | commitAgeAdvance (pass : Fin 8)
  /-- HOST_ACCESS (R2). -/
  | hostAccess (a : HostAccess)
  /-- MEMORY_PORT_GRANT (R12). -/
  | memoryPortGrant
  /-- HOST_ACCESS_COMPLETE (R2): memory's beats for the host access on the memory port. -/
  | hostAccessComplete (resp : List BeatResp)
  /-- MAP_READ (R7): a host read that drives this. -/
  | mapRead (d : Drive)
  /-- LATCH_HOLD_EXPIRY (R9). -/
  | latchHoldExpiry
  /-- MAP_WRITE (R11): a host write that drives this. -/
  | mapWrite (d : Drive)
  /-- MAP_WRITE_HOLDOFF_EXPIRY (R11). -/
  | mapWriteHoldoffExpiry
  /-- LOAD_START_VALUE (R16): a granted host write of 1 to the start word. -/
  | loadStartValue
  /-- LOAD_STOP_VALUE (R16): a granted host write of 2 to the start word. -/
  | loadStopValue
  /-- CONFIG_FETCH_COMPLETE (R17). -/
  | configFetchComplete (reply : FetchReply)
  /-- RESULT_WORD_WRITE_COMPLETE (R23). -/
  | resultWordWriteComplete (error : Bool)
  /-- FRAME_SLOT_WRITE (R27): one write beat at an offset of the frame intake window. -/
  | frameSlotWrite (offset : BitVec 10) (beat : Beat)
  /-- FRAME_TAKE (R34). -/
  | frameTake
  /-- FRAME_CONVERSION_COMPLETE (R49). -/
  | frameConversionComplete
  /-- FRESHNESS_TIMER_EXPIRY (R41) of one scanner. -/
  | freshnessTimerExpiry (scanner : Fin 8)
  /-- LINE_SLOT_WRITE (R73): one write beat at an offset of the line intake window. -/
  | lineSlotWrite (offset : BitVec 10) (beat : Beat)
  /-- LINE_TAKE (R77). -/
  | lineTake
  /-- LINE_COMPLETION (R82). -/
  | lineCompletion
  /-- SPOT_RETIREMENT (R83) of one cell's spot. -/
  | spotRetirement (cell : Fin 512)
  /-- REFRESH_TIMER_EXPIRY (R94) of one pass. -/
  | refreshTimerExpiry (pass : Fin 8)
  /-- RECOMPUTE_START (R97). -/
  | recomputeStart
  /-- RECOMPUTE_COMPLETION (R99). -/
  | recomputeCompletion
  /-- LAST_DIRECT_TIME_RETIREMENT (R105) of one cell. -/
  | lastDirectTimeRetirement (cell : Fin 512)
  /-- RATE_REFERENCE_RETIREMENT (R127) of one cell. -/
  | rateReferenceRetirement (cell : Fin 512)
  /-- TAIL_WORD_WRITE (R160): a granted host write of this value to the tail word. -/
  | tailWordWrite (value : W32)
  /-- RING_FETCH_ERROR (R162). -/
  | ringFetchError
  /-- UNKNOWN_OPCODE (R163): a ring fetch brings a record whose opcode names no command. -/
  | unknownOpcode (opcode : Byte)
  /-- HEAD_WORD_WRITE_COMPLETE (R161). -/
  | headWordWriteComplete (error : Bool)
  /-- NOP (R163): a ring fetch brings a NOP record; so for every ring command below. -/
  | nop
  /-- FREEZE (R113). -/
  | freeze (mask : Byte)
  /-- THAW (R114). -/
  | thaw (mask : Byte)
  /-- SET_MODE (R108). -/
  | setMode (pass mode : Byte)
  /-- FORCE_REFRESH (R115). -/
  | forceRefresh (mask : Byte)
  /-- CLEAR_FAULTS (R67). -/
  | clearFaults (first last : Byte)
  /-- SET_OFFSET (R68): the short argument is signed. -/
  | setOffset (channel : Byte) (value : W16)
  /-- CALIBRATE_VIEW (R87). -/
  | calibrateView (view : Byte)
  /-- ACK (R136). -/
  | ack (cell : W16)
  /-- ACK_PASS (R137). -/
  | ackPass (pass : Byte)
  /-- RESET_EXPOSURE (R141). -/
  | resetExposure (cell : W16)
  /-- EXPORT (R173): pass mask, hot-list flag byte, list address. -/
  | exportStart (mask hotFlag : Byte) (list : W32)
  /-- RELOAD (R24). -/
  | reload
  /-- LOCK (R25). -/
  | lock
  /-- URGENT_CANCEL (R164): a granted host write of 0 to the urgent word. -/
  | urgentCancel
  /-- FREEZE_ALL (R164, R116): a granted host write of 1 to the urgent word. -/
  | freezeAll
  /-- THAW_ALL (R164, R116): a granted host write of 2 to the urgent word. -/
  | thawAll
  /-- ABORT_EXPORT (R164, R177): a granted host write of 3 to the urgent word. -/
  | abortExport
  /-- URGENT_UNKNOWN (R164): a granted host write of another value to the urgent word. -/
  | urgentUnknown (value : W32)
  /-- URGENT_ACCEPTANCE (R165). -/
  | urgentAcceptance
  /-- URGENT_CLEAR_WRITE_COMPLETE (R165). -/
  | urgentClearWriteComplete (error : Bool)
  /-- EVENT_WRITER_ACTION (R168). -/
  | eventWriterAction
  /-- EVENT_RECORD_WRITE_COMPLETE (R168, R169). -/
  | eventRecordWriteComplete (error : Bool)
  /-- PRODUCER_WORD_WRITE_COMPLETE (R171). -/
  | producerWordWriteComplete (error : Bool)
  /-- CONSUMER_WORD_WRITE (R170): a granted host write of this value to the consumer word. -/
  | consumerWordWrite (value : W32)
  /-- COALESCE_TIMER_EXPIRY (R171). -/
  | coalesceTimerExpiry
  /-- LIST_FETCH_COMPLETE (R174). -/
  | listFetchComplete (reply : FetchReply)
  /-- STREAM_WRITE_COMPLETE (R175). -/
  | streamWriteComplete (error : Bool)
deriving DecidableEq, Repr

end Sys2Proof
end

