-- ==== Sys2Proof/Decode.lean ====
section
/-! DEFINITION. Decoding. No row of the opcode table has bits, so no word spells a command (log entry 7). The 16-byte
command records that a ring fetch brings are decoded here (R180), with their encoder. -/

namespace Sys2Proof

/-- The command that a word spells by the table's bits. The table gives bits to no row. -/
def decodeTableWord (_nbits _w : Nat) : Option Instr := none

open Sys2Proof.Machine (bits mkWord place)

/-- A 16-byte command record as its four words (R180). -/
structure CmdRecord where
  w0 : W32
  w1 : W32
  w2 : W32
  w3 : W32
deriving DecidableEq, Repr

/-- The opcode: byte 0 (R180). -/
def CmdRecord.opcode (r : CmdRecord) : Byte := BitVec.ofNat 8 (bits r.w0 0 8)

/-- Argument bytes 0 and 1: bytes 1 and 2 (R180). No command uses argument byte 2. -/
def CmdRecord.arg0 (r : CmdRecord) : Byte := BitVec.ofNat 8 (bits r.w0 8 8)
def CmdRecord.arg1 (r : CmdRecord) : Byte := BitVec.ofNat 8 (bits r.w0 16 8)

/-- The short argument: bytes 4 and 5 (R180). -/
def CmdRecord.short (r : CmdRecord) : W16 := BitVec.ofNat 16 (bits r.w1 0 16)

/-- The long argument: bytes 8 to 11 (R180). -/
def CmdRecord.long (r : CmdRecord) : W32 := r.w2

/-- The ring command that a fetched record spells (R163, R180, spec 10 Codes): total, an opcode that names no command
being UNKNOWN_OPCODE. -/
def decodeRecord (r : CmdRecord) : Instr :=
  match r.opcode.toNat with
  | 0x00 => .nop
  | 0x01 => .freeze r.arg0
  | 0x02 => .thaw r.arg0
  | 0x03 => .setMode r.arg0 r.arg1
  | 0x04 => .forceRefresh r.arg0
  | 0x05 => .clearFaults r.arg0 r.arg1
  | 0x06 => .setOffset r.arg0 r.short
  | 0x07 => .calibrateView r.arg0
  | 0x08 => .ack r.short
  | 0x09 => .ackPass r.arg0
  | 0x0A => .resetExposure r.short
  | 0x0B => .exportStart r.arg0 r.arg1 r.long
  | 0x0C => .reload
  | 0x0D => .lock
  | _ => .unknownOpcode r.opcode

/-- A record with an opcode, two argument bytes, a short and a long argument, every other byte 0 (R180). -/
def mkRecord (opcode : Nat) (a0 a1 : Byte) (short : W16) (long : W32) : CmdRecord :=
  ⟨mkWord [place opcode 0 8, place a0.toNat 8 8, place a1.toNat 16 8], mkWord [place short.toNat 0 16], long, 0⟩

/-- The record of a ring command; none for a command that no ring record spells. -/
def encodeRecord : Instr → Option CmdRecord
  | .nop => some (mkRecord 0x00 0 0 0 0)
  | .freeze mask => some (mkRecord 0x01 mask 0 0 0)
  | .thaw mask => some (mkRecord 0x02 mask 0 0 0)
  | .setMode pass mode => some (mkRecord 0x03 pass mode 0 0)
  | .forceRefresh mask => some (mkRecord 0x04 mask 0 0 0)
  | .clearFaults first last => some (mkRecord 0x05 first last 0 0)
  | .setOffset channel value => some (mkRecord 0x06 channel 0 value 0)
  | .calibrateView view => some (mkRecord 0x07 view 0 0 0)
  | .ack cell => some (mkRecord 0x08 0 0 cell 0)
  | .ackPass pass => some (mkRecord 0x09 pass 0 0 0)
  | .resetExposure cell => some (mkRecord 0x0A 0 0 cell 0)
  | .exportStart mask hotFlag list => some (mkRecord 0x0B mask hotFlag 0 list)
  | .reload => some (mkRecord 0x0C 0 0 0 0)
  | .lock => some (mkRecord 0x0D 0 0 0 0)
  | .unknownOpcode opcode => some (mkRecord opcode.toNat 0 0 0 0)
  | .powerOn _ => none
  | .resetAssert => none
  | .resetRelease => none
  | .clearEnd _ _ => none
  | .heaterClockTick => none
  | .commitAgeAdvance _ => none
  | .hostAccess _ => none
  | .memoryPortGrant => none
  | .hostAccessComplete _ => none
  | .mapRead _ => none
  | .latchHoldExpiry => none
  | .mapWrite _ => none
  | .mapWriteHoldoffExpiry => none
  | .loadStartValue => none
  | .loadStopValue => none
  | .configFetchComplete _ => none
  | .resultWordWriteComplete _ => none
  | .frameSlotWrite _ _ => none
  | .frameTake => none
  | .frameConversionComplete => none
  | .freshnessTimerExpiry _ => none
  | .lineSlotWrite _ _ => none
  | .lineTake => none
  | .lineCompletion => none
  | .spotRetirement _ => none
  | .refreshTimerExpiry _ => none
  | .recomputeStart => none
  | .recomputeCompletion => none
  | .lastDirectTimeRetirement _ => none
  | .rateReferenceRetirement _ => none
  | .tailWordWrite _ => none
  | .ringFetchError => none
  | .headWordWriteComplete _ => none
  | .urgentCancel => none
  | .freezeAll => none
  | .thawAll => none
  | .abortExport => none
  | .urgentUnknown _ => none
  | .urgentAcceptance => none
  | .urgentClearWriteComplete _ => none
  | .eventWriterAction => none
  | .eventRecordWriteComplete _ => none
  | .producerWordWriteComplete _ => none
  | .consumerWordWrite _ => none
  | .coalesceTimerExpiry => none
  | .listFetchComplete _ => none
  | .streamWriteComplete _ => none

end Sys2Proof
end

