-- ==== Sys2Proof/Config.lean ====
section
/-! DEFINITION. What the part fixes once and for all: sizes, durations and offsets the rules state, and the one
free value the spec leaves open. -/

namespace Sys2Proof.Config

/-- Duration of the power clear on TREF, in microseconds (R14). -/
def powerClearUs : Nat := 2000

/-- Duration of the clear after a release of RESET# once a power clear has completed, in microseconds (R14). -/
def resetClearUs : Nat := 200

/-- The record latch hold on TREF, in microseconds (R8). -/
def latchHoldUs : Nat := 100

/-- The map-write holdoff, in milliseconds (R11). -/
def holdoffMs : Nat := 1000

/-- Age at which spots and rate references retire and beyond which last direct times do: one hour (R83, R105, R127). -/
def hourMs : Nat := 3600000

/-- The frame queue holds at most this many frames (R31). -/
def frameQueueMax : Nat := 32

/-- The line queue holds at most this many lines (R76). -/
def lineQueueMax : Nat := 8

/-- The Event Writer's pending list holds at most this many events (R167). -/
def pendingEventsMax : Nat := 8

/-- The hot list holds at most this many entries (R148). -/
def hotListMax : Nat := 16

/-- Host grants allowed while an Event Writer, Command Engine or Export Engine request waits (R12). -/
def fairnessMax : Nat := 8

/-- Bytes of the root record (R18). -/
def rootBytes : Nat := 80

/-- Extents of the windows in bytes (R3, the table under The windows); the event window's depends on its ring size. -/
def frameExtent : Nat := 1024
def lineExtent : Nat := 1024
def cmdExtent : Nat := 4096
def eventExtent (ringSize : Nat) : Nat := if ringSize = 256 then 8192 else 4096
def mapExtent : Nat := 16384

/-- Offsets of the ring words (spec 01, table under The windows). -/
def tailOffset : Nat := 0xF00
def headOffset : Nat := 0xF04
def urgentOffset : Nat := 0xF08
def producerOffset (ringSize : Nat) : Nat := if ringSize = 256 then 0x1F00 else 0xF00
def consumerOffset (ringSize : Nat) : Nat := if ringSize = 256 then 0x1F04 else 0xF04

/-- The last entry index of a region list that may be used (R174). -/
def lastListEntry : Nat := 31

/-- A FREE VALUE (log entry 17). R174 ends an export with LIST_ERROR when a region is needed after entry 31 and with
TRUNCATED when one is needed after a LAST entry; for an entry 31 that is LAST both hold, and the spec does not say
which outcome is recorded. `true` stands for TRUNCATED. Nothing constrains it. -/
opaque lastEntryTruncates : Bool

end Sys2Proof.Config
end

