-- ==== Sys2Proof/Machine/Table.lean ====
section
/-! DEFINITION. A table of fixed size: the channel table, the cell table, the slot buffers. The size is part of the
type, so no operation can change it. -/

namespace Sys2Proof.Machine

/-- A table of `n` entries. -/
structure Table (α : Type) (n : Nat) where
  data : List α
  size_eq : data.length = n
deriving DecidableEq, Repr

/-- A table with the same entry everywhere. -/
def Table.fill {α : Type} (n : Nat) (a : α) : Table α n := ⟨List.replicate n a, by simp⟩

/-- Entry `i`; `dflt` where the table has no entry `i`. -/
def Table.getD {α : Type} {n : Nat} (t : Table α n) (i : Nat) (dflt : α) : α := t.data.getD i dflt

/-- Entry `i` of a table whose entries have a default, read where the table has no entry `i`. -/
def Table.get {α : Type} [Inhabited α] {n : Nat} (t : Table α n) (i : Nat) : α := t.getD i default

/-- The table with entry `i` replaced; the table itself where it has no entry `i`. -/
def Table.set {α : Type} {n : Nat} (t : Table α n) (i : Nat) (a : α) : Table α n :=
  ⟨t.data.set i a, by simp [t.size_eq]⟩

/-- The table with `f` applied to entry `i`. -/
def Table.modify {α : Type} [Inhabited α] {n : Nat} (t : Table α n) (i : Nat) (f : α → α) : Table α n :=
  t.set i (f (t.get i))

/-- `f k a` for every entry `a` of a list that begins at index `k`. -/
def mapFrom {α β : Type} (f : Nat → α → β) : Nat → List α → List β
  | _, [] => []
  | k, a :: l => f k a :: mapFrom f (k + 1) l

theorem mapFrom_length {α β : Type} (f : Nat → α → β) (k : Nat) (l : List α) : (mapFrom f k l).length = l.length := by
  induction l generalizing k with
  | nil => rfl
  | cons a l ih => simp [mapFrom, ih]

/-- The table with every entry `a` at index `i` replaced by `f i a`. -/
def Table.mapIdx {α β : Type} {n : Nat} (f : Nat → α → β) (t : Table α n) : Table β n :=
  ⟨mapFrom f 0 t.data, by rw [mapFrom_length, t.size_eq]⟩

/-- The table whose entry `i` is `f i`. -/
def Table.build {α : Type} (n : Nat) (f : Nat → α) : Table α n := ⟨(List.range n).map f, by simp⟩

/-- The entries with their indices, ascending. -/
def Table.entries {α : Type} {n : Nat} (t : Table α n) : List (Nat × α) := mapFrom Prod.mk 0 t.data

/-- Run `f` for the indices 0, 1, …, `n` − 1 in ascending order. -/
def forIdx {σ : Type} (n : Nat) (f : Nat → σ → σ) (s : σ) : σ := (List.range n).foldl (fun s i => f i s) s

end Sys2Proof.Machine
end

