-- ==== Sys2Proof/Machine/State.lean ====
section
/-! DEFINITION. Everything the spec gives the bridge to hold, block by block, as plain data, and its state after
power-on. Each field cites the rule that names it; INVENTORY.md lists them with their reset values. -/

namespace Sys2Proof.Machine

/-! ### Enumerations (their codes stand in spec 10, Codes, and are in Machine/Codes.lean) -/

/-- The lifephases (spec 02). -/
inductive Phase where
  | clear | sample | idle | load | run | halt
deriving DecidableEq, Repr, Inhabited

/-- The results of a load (R17 to R23, spec 10). -/
inductive LoadResult where
  | none | ok | badFormat | badWindow | badCurve | badReference | fetchError | stopped
deriving DecidableEq, Repr, Inhabited

/-- A load is a first load or a reload (R23). -/
inductive LoadKind where
  | first | reload
deriving DecidableEq, Repr, Inhabited

/-- The six runs of records of a load, in the order R17 fetches them. -/
inductive Stage where
  | root | pass | channel | curve | cell | view
deriving DecidableEq, Repr, Inhabited

/-- Pass modes (R108). -/
inductive Mode where
  | normal | spall | decoke | oos
deriving DecidableEq, Repr, Inhabited

/-- Cell sources (R92). -/
inductive Source where
  | void | tc | fused | pyro | interp | held | oos
deriving DecidableEq, Repr, Inhabited

/-- Channel qualities (R47). -/
inductive Quality where
  | unused | nodata | good | suspect | failed | stale
deriving DecidableEq, Repr, Inhabited

/-- Fault kinds of a channel's sticky set (R47). -/
inductive FaultKind where
  | scannerFault | openCircuit | overrange | cjBad | outOfCurve | spike | stale | frameLost
deriving DecidableEq, Repr, Inhabited

/-- Alarm levels in their order NORMAL < ADVISE < HIGH < OVER (spec 07). -/
inductive Level where
  | normal | advise | high | over
deriving DecidableEq, Repr, Inhabited

/-- ALM threshold levels (R138). -/
inductive Threshold where
  | advise | high | over
deriving DecidableEq, Repr, Inhabited

/-- Command Engine states (R159). -/
inductive Engine where
  | off | ready | busy | stalled | waitLoad
deriving DecidableEq, Repr, Inhabited

/-- Urgent codes (R164). -/
inductive Urgent where
  | freezeAll | thawAll | abortExport
deriving DecidableEq, Repr, Inhabited

/-- Refusal reasons of COMMAND/REFUSED (spec 10). -/
inductive Reason where
  | unknown | badArgument | locked | busy | wrongPhase | insufficient
deriving DecidableEq, Repr, Inhabited

/-- Export outcomes (R176). -/
inductive ExportOutcome where
  | none | doneExact | doneShort | truncated | listError | busError | aborted
deriving DecidableEq, Repr, Inhabited

/-- Causes of ALARM/RATE_OFF (spec 10). -/
inductive OffCause where
  | fell | inhibited | outOfService
deriving DecidableEq, Repr, Inhabited

/-- The event classes with their codes (spec 09, The event ring). -/
inductive EventKind where
  | lifeLoadEnd
  | intakeIncomplete | intakeQueueFull | intakeBadScanner | intakeDuplicate
  | scannerSeqGap | scannerSilent | scannerResumed
  | channelQuality | channelFaultSet
  | pyroLineIncomplete | pyroLineQueueFull | pyroBadView | pyroDuplicate | pyroFault | pyroCalibrated
  | alarmLevel | alarmRateOn | alarmRateOff | alarmExposureReset
  | hotLeader
  | commandRefused | commandFetchError
  | exportEnd
  | pathMapWrite
  | lostCount
deriving DecidableEq, Repr, Inhabited

/-! ### Shared records -/

/-- A running timer: its start on the heater clock and its length in milliseconds (spec 00, Time). A stopped timer is
an absent one. -/
structure Timer where
  start : W32
  len : Nat
deriving DecidableEq, Repr, Inhabited

/-- An event as handed over, with its record fields (R167, R181). -/
structure Event where
  kind : EventKind
  subject : W16
  time : W32
  a : W32
  b : W32
deriving DecidableEq, Repr, Inhabited

/-! ### Life Controller (spec 02) -/

/-- The values of a root record that blocks use (R18, spec 10 Root record). -/
structure RootCfg where
  lockAtLoad : Bool
  threshold : Threshold
  routing : Bool
  frameBase : W32
  lineBase : W32
  cmdBase : W32
  eventBase : W32
  mapBase : W32
  cmdSize : Nat
  evSize : Nat
  evThreshold : Nat
  coalesceMs : Nat
  freshnessS : Nat
  classMask : BitVec 12
  passCount : Nat
  scannerCount : Nat
  viewCount : Nat
  curveCount : Nat
  debounce : Nat
  passPtr : W32
  channelPtr : W32
  curvePtr : W32
  cellPtr : W32
  viewPtr : W32
deriving DecidableEq, Repr, Inhabited

/-- The progress of the load in hand (R17): the records being fetched, the address of the next burst, the words that
have arrived and belong to no complete record yet, the index of the next record, and what earlier records of this load
named (R20, R21). -/
structure LoadJob where
  kind : LoadKind
  stage : Stage
  addr : W32
  words : List W32
  index : Nat
  usedChannels : List Nat
  usedCells : List Nat
deriving DecidableEq, Repr, Inhabited

/-- The Life Controller (spec 02). -/
structure Life where
  /-- lifephase (R14) -/
  phase : Phase
  /-- strap values kept from SAMPLE (R15) -/
  rootStrap : BitVec 4
  autoload : Bool
  /-- RESET# is asserted (R14) -/
  resetHeld : Bool
  /-- duration of the running clear in microseconds of TREF; none while no clear runs (R14) -/
  clearLeft : Option Nat
  /-- a power clear has completed since power-on (R14) -/
  powerClearDone : Bool
  /-- the load in progress (R17) -/
  load : Option LoadJob
  /-- the pending configuration (R18) -/
  pendingCfg : Option RootCfg
  /-- the last load result (R23) -/
  lastResult : LoadResult
  /-- the configuration lock (R25) -/
  lock : Bool
  /-- root values of the configuration in force; zeros before a load has ended OK (R23) -/
  params : RootCfg
  /-- the heater clock (R26) -/
  clock : W32
  /-- TREF edges counted within the current millisecond (R26) -/
  trefEdges : Nat
deriving DecidableEq, Repr, Inhabited

/-! ### Path Unit (spec 01) -/

/-- The active window set (R4). -/
structure Windows where
  frame : W32
  line : W32
  cmd : W32
  event : W32
  map : W32
  evSize : Nat
deriving DecidableEq, Repr, Inhabited

/-- The record extent (R7); pass `p` has `cellCounts` entry `p`. -/
structure Extent where
  passCount : Nat
  cellCounts : List Nat
  scannerCount : Nat
  viewCount : Nat
deriving DecidableEq, Repr, Inhabited

/-- The records of the map window (R7). -/
inductive RecordId where
  | status
  | passHeader (p : Nat)
  | hotList
  | viewRec (v : Nat)
  | channelRec (c : Nat)
  | cellRec (c : Nat)
deriving DecidableEq, Repr, Inhabited

/-- The record latch when it holds a record (R8): identity, copy, and its hold in microseconds as started. -/
structure Latch where
  rid : RecordId
  copy : List W32
  holdUs : Nat
deriving DecidableEq, Repr, Inhabited

/-- What a bridge request is for. The requester is the block that owns the kind. -/
inductive ReqKind where
  /-- Event Writer: a record write; `lost` for the LOST/COUNT record (R168) -/
  | eventRecord (lost : Bool)
  /-- Event Writer: a producer-word write; `first` when the record took the unconsumed count from 0 to 1 (R171) -/
  | producerWord (first : Bool)
  /-- Command Engine: a ring fetch (R161) -/
  | ringFetch
  /-- Command Engine: a head-word write (R161) -/
  | headWord
  /-- Command Engine: a clearing write of the urgent word (R165) -/
  | urgentClear
  /-- Export Engine: a region-list fetch (R174) -/
  | listFetch
  /-- Export Engine: a stream write (R175) -/
  | stream
  /-- Life Controller: a configuration fetch (R17) -/
  | configFetch
  /-- Life Controller: the result-word write (R23) -/
  | resultWord
deriving DecidableEq, Repr, Inhabited

/-- The bridge requesters of the memory-port arbiter (R12). -/
inductive Requester where
  | eventWriter | commandEngine | exportEngine | lifeController
deriving DecidableEq, Repr, Inhabited

/-- A request of a bridge requester (R12): a fetch carries no data, a write its one or four words. A fetch is always an
aligned four-beat burst. -/
structure BridgeReq where
  kind : ReqKind
  addr : W32
  data : List W32
deriving DecidableEq, Repr, Inhabited

/-- The access on the memory port (R12): the host's, or a bridge-master access whose completion may be one to discard
(R13, R16). -/
inductive PortAccess where
  | host (a : HostAccess)
  | bridge (r : BridgeReq) (discard : Bool)
deriving DecidableEq, Repr

/-- The Path Unit (spec 01). -/
structure Path where
  /-- active window set; none when empty (R4) -/
  windows : Option Windows
  /-- record extent (R7) -/
  extent : Extent
  /-- record latch (R8) -/
  latch : Option Latch
  /-- map-write holdoff timer (R11) -/
  holdoff : Option Timer
  /-- suppressed-write count (R11) -/
  suppressed : Nat
  /-- fairness count (R12) -/
  fairness : Nat
  /-- the host access standing at the upstream port, waiting or granted (R2) -/
  upstream : Option HostAccess
  /-- the access on the memory port (R12) -/
  memPort : Option PortAccess
  /-- the beats last returned to the host at the upstream port (R2, R7) -/
  hostResp : Option (List BeatResp)
  /-- requests of each bridge requester: the head is the one waiting at the arbiter, those behind it are posted in turn
  as each completes (R12) -/
  evOut : List BridgeReq
  cmdOut : List BridgeReq
  expOut : List BridgeReq
  lifeOut : List BridgeReq
deriving DecidableEq, Repr

/-! ### Slot assembly buffers (R27, R28, R73) -/

/-- A slot assembly buffer of `n` words with a captured flag per word. -/
structure Slot (n : Nat) where
  words : Table W32 n
  captured : Table Bool n
deriving DecidableEq, Repr

/-- A cleared buffer: zeros, no word captured (R29). -/
def Slot.empty (n : Nat) : Slot n := ⟨Table.fill n 0, Table.fill n false⟩

/-! ### Frame Intake (spec 03) -/

/-- One input's reading within a frame (R30). -/
structure Reading where
  raw : Int
  openFlag : Bool
  overrange : Bool
deriving DecidableEq, Repr, Inhabited

/-- A complete frame (R30). -/
structure Frame where
  scanner : Byte
  seq : Byte
  fault : Bool
  overrun : Bool
  cj : Int
  inputs : Table Reading 16
deriving DecidableEq, Repr

/-- What the Frame Intake holds for one scanner (spec 03). -/
structure Scanner where
  remembered : Option Byte
  timer : Option Timer
  silent : Bool
deriving DecidableEq, Repr, Inhabited

/-- The Frame Intake (spec 03). -/
structure Intake where
  slots : Table (Slot 18) 8
  queue : List Frame
  scanners : Table Scanner 8
  takeOk : Bool
deriving DecidableEq, Repr

/-! ### Conversion Engine (spec 04) -/

/-- A channel's configuration part (R47). -/
structure ChannelCfg where
  inUse : Bool
  curve : Nat
  offset : Int
  spike : Int
deriving DecidableEq, Repr, Inhabited

/-- A sticky fault set: each kind at most once (R64). -/
structure FaultSet where
  scannerFault : Bool
  openCircuit : Bool
  overrange : Bool
  cjBad : Bool
  outOfCurve : Bool
  spike : Bool
  stale : Bool
  frameLost : Bool
deriving DecidableEq, Repr, Inhabited

/-- A channel's entry: its configuration part and its state part (R47). -/
structure Channel where
  cfg : ChannelCfg
  quality : Quality
  supplied : Option Int
  lastConv : Option Int
  lastRaw : Int
  lastCj : Int
  /-- verdict history, oldest first; true is good (R59) -/
  history : List Bool
  sticky : FaultSet
  clamped : Bool
  lastVerdict : Option W32
deriving DecidableEq, Repr, Inhabited

/-- A breakpoint of a curve (R48). -/
structure Breakpoint where
  emf : Int
  temp : Int
deriving DecidableEq, Repr, Inhabited

/-- The frame in hand with the configuration parts captured at its beginning (R49). -/
structure FrameJob where
  frame : Frame
  cfgs : Table ChannelCfg 16
deriving DecidableEq, Repr

/-- The Conversion Engine (spec 04). -/
structure Conv where
  channels : Table Channel 128
  curves : Table (List Breakpoint) 4
  inHand : Option FrameJob
deriving DecidableEq, Repr

/-! ### View Unit (spec 05) -/

/-- A complete line (R75). -/
structure Line where
  view : Byte
  seq : Byte
  fault : Bool
  count : Nat
  pixels : Table Nat 64
deriving DecidableEq, Repr

/-- A span of a view (R80). -/
structure Span where
  first : Nat
  last : Nat
  cell : Nat
deriving DecidableEq, Repr, Inhabited

/-- An entry of the view table (spec 05). -/
structure ViewEntry where
  correction : Int
  spans : List Span
  remembered : Option Byte
  accepted : W16
deriving DecidableEq, Repr, Inhabited

/-- A cell's spot (R82). -/
structure Spot where
  value : Int
  brightness : Int
  clamped : Bool
  time : W32
deriving DecidableEq, Repr, Inhabited

/-- A cell's pairing (R84). -/
structure Pairing where
  tc : Int
  brightness : Int
  time : W32
deriving DecidableEq, Repr, Inhabited

/-- The line in hand with the correction captured at its acceptance (R79). -/
structure LineJob where
  line : Line
  correction : Int
deriving DecidableEq, Repr

/-- The View Unit (spec 05). -/
structure View where
  slots : Table (Slot 33) 4
  queue : List Line
  inHand : Option LineJob
  views : Table ViewEntry 16
  spots : Table (Option Spot) 512
  pairings : Table (Option Pairing) 512
deriving DecidableEq, Repr

/-! ### Map Engine (spec 06) -/

/-- A cell's configuration part (R92). -/
structure CellCfg where
  chanA : Option Nat
  chanB : Option Nat
  limit : Int
deriving DecidableEq, Repr, Inhabited

/-- A cell's spot snapshot (R92). -/
structure Snapshot where
  value : Int
  brightness : Int
  age : Nat
  fresh : Bool
deriving DecidableEq, Repr, Inhabited

/-- A cell record less its alarm state (R92). -/
structure Cell where
  cfg : CellCfg
  temp : Option Int
  source : Source
  disagree : Bool
  clamped : Bool
  lastDirect : Option W32
  tcComp : Option Int
  snap : Option Snapshot
deriving DecidableEq, Repr, Inhabited

/-- A pass's configuration part (spec 02, the pass record table). -/
structure PassCfg where
  cellCount : Nat
  initialMode : Mode
  weight : Int
  spanLimit : Nat
  refreshMs : Nat
  rateWindowS : Nat
  rateLimit : Int
  maxAgeS : Nat
  disagreeLimit : Int
  holdS : Nat
  advisory : Int
  high : Int
  hysteresis : Int
  persistence : Nat
  decokeLimit : Int
deriving DecidableEq, Repr, Inhabited

/-- A pass state (R93). The queued flag is membership in the refresh queue; the in-flight flag and the discard mark are
read from the workspace. -/
structure Pass where
  cfg : PassCfg
  mode : Mode
  frozen : Bool
  gen : Byte
  lastCommit : Option W32
  commitAge : Option Nat
  /-- the clock reading up to which whole seconds are counted into the commit age (R93) -/
  ageRef : W32
  timer : Option Timer
deriving DecidableEq, Repr, Inhabited

/-- What the image holds of one channel of a cell (R98). -/
structure ChanImage where
  quality : Quality
  supplied : Option Int
  clamped : Bool
deriving DecidableEq, Repr, Inhabited

/-- What the image holds of a cell's spot (R98). -/
structure SpotImage where
  value : Int
  brightness : Int
  clamped : Bool
  age : Nat
  fresh : Bool
deriving DecidableEq, Repr, Inhabited

/-- The image of one cell (R98). -/
structure CellImage where
  a : Option ChanImage
  b : Option ChanImage
  spot : Option SpotImage
deriving DecidableEq, Repr, Inhabited

/-- The pass workspace (R97): the pass in flight, its image by position, and its discard mark. -/
structure Work where
  pass : Nat
  image : List CellImage
  discard : Bool
deriving DecidableEq, Repr, Inhabited

/-- The Map Engine (spec 06). -/
structure MapEngine where
  cells : Table Cell 512
  passes : Table Pass 8
  queue : List Nat
  work : Option Work
deriving DecidableEq, Repr

/-! ### Alarm Unit (spec 07) -/

/-- A rate reference (R125). -/
structure RateRef where
  temp : Int
  time : W32
deriving DecidableEq, Repr, Inhabited

/-- A cell's alarm record (the table at the head of spec 07). -/
structure AlarmRec where
  margin : Option Int
  rate : Option Int
  ref : Option RateRef
  rateAlarm : Bool
  level : Level
  persist : Nat
  peak : Level
  levelUnack : Bool
  rateUnack : Bool
  exposureS : Nat
  exposureMs : Nat
deriving DecidableEq, Repr, Inhabited

/-- The Alarm Unit (spec 07); the threshold and the routing flag in force are in the Life Controller's params. -/
structure Alarm where
  recs : Table AlarmRec 512
  /-- ALM# is asserted (R138) -/
  alm : Bool
deriving DecidableEq, Repr

/-! ### Hot List Unit (spec 08) -/

/-- A hot list entry (R148). -/
structure HotEntry where
  cell : Nat
  margin : Int
  level : Level
  source : Source
deriving DecidableEq, Repr, Inhabited

/-- The Hot List Unit (R148). -/
structure Hot where
  list : List HotEntry
  eligible : Nat
deriving DecidableEq, Repr, Inhabited

/-! ### Command Engine, Event Writer, Export Engine (spec 09) -/

/-- The Command Engine (R159). -/
structure Cmd where
  head : Nat
  tail : Nat
  urgent : Option Urgent
  note : Bool
  engine : Engine
deriving DecidableEq, Repr, Inhabited

/-- What the Event Writer takes from a configuration (R167). -/
structure EvRing where
  base : W32
  size : Nat
  threshold : Nat
  coalesceMs : Nat
  mask : BitVec 12
deriving DecidableEq, Repr, Inhabited

/-- The Event Writer (R167). -/
structure EventWriter where
  /-- the ring in force; none before a load has ended OK -/
  ring : Option EvRing
  /-- the ring to adopt when the write in progress has ended (R172) -/
  adopt : Option EvRing
  producer : Nat
  consumer : Nat
  /-- the pending list, oldest first -/
  pending : List Event
  lost : Nat
  pathError : Bool
  coalesce : Option Timer
  expired : Bool
  /-- EVT# is asserted (R171) -/
  evt : Bool
deriving DecidableEq, Repr, Inhabited

/-- A turn of an export's stream (R175). -/
inductive Turn where
  | pass (p : Nat)
  | hotList
  | trailer
deriving DecidableEq, Repr, Inhabited

/-- The region the stream is being written into (R174). -/
structure Region where
  addr : W32
  left : Nat
  last : Bool
deriving DecidableEq, Repr, Inhabited

/-- An export in flight (R173 to R175). -/
structure ExportJob where
  mask : Byte
  hotFlag : Bool
  listAddr : W32
  /-- list cursor: the index of the next entry -/
  cursor : Nat
  /-- entries whose checks have been made (R176) -/
  reached : Nat
  /-- the second entry of the pair last fetched, not reached yet -/
  held : Option (W32 × W32)
  region : Option Region
  /-- the last region taken was LAST -/
  lastUsed : Bool
  /-- the turns after the one being written -/
  turns : List Turn
  /-- capture buffer: words of the turn not written yet -/
  buf : List W32
  start : W32
  /-- generation of each pass captured so far, 0 where none -/
  gens : Table Byte 8
deriving DecidableEq, Repr

/-- The Export Engine (R173). -/
structure Export where
  job : Option ExportJob
  /-- outcome of the last export ended -/
  outcome : ExportOutcome
  /-- bytes written by the export in flight, or by the last export ended -/
  bytes : Nat
deriving DecidableEq, Repr

/-! ### The whole bridge -/

/-- The state of the bridge, and the queue of the commands that wait. -/
structure State where
  life : Life
  path : Path
  intake : Intake
  conv : Conv
  view : View
  map : MapEngine
  alarm : Alarm
  hot : Hot
  cmd : Cmd
  ev : EventWriter
  exp : Export
  /-- the commands waiting, first in, first out -/
  pending : List Instr
deriving DecidableEq, Repr

/-- Why a command stops the machine. Only an ill-formed operand does (log entry 27). Safe: the bridge knows no such
command. -/
inductive Fault where
  /-- Raised by UNKNOWN_OPCODE with an opcode that names a command and by URGENT_UNKNOWN with a value that R164 names:
  the term is no step of the part. Safe. -/
  | noSuchCommand
deriving DecidableEq, Repr

/-- Why a command has no meaning. -/
inductive Refusal where
  /-- The command's row is not modelled. Raised by no arm: every row has its meaning. Safe. -/
  | notModelled (mnemonic : String)
deriving DecidableEq, Repr

/-! ### Power-on values -/

def Path.cleared : Path :=
  { windows := none, extent := ⟨0, [], 0, 0⟩, latch := none, holdoff := none, suppressed := 0, fairness := 0,
    upstream := none, memPort := none, hostResp := none, evOut := [], cmdOut := [], expOut := [], lifeOut := [] }

/-- The Frame Intake's cleared state (R43). -/
def Intake.cleared : Intake :=
  { slots := Table.fill 8 (Slot.empty 18), queue := [], scanners := Table.fill 8 default, takeOk := false }

/-- The Conversion Engine's cleared state (R69). -/
def Conv.cleared : Conv :=
  { channels := Table.fill 128 default, curves := Table.fill 4 [], inHand := none }

/-- The View Unit's cleared state (R88). -/
def View.cleared : View :=
  { slots := Table.fill 4 (Slot.empty 33), queue := [], inHand := none, views := Table.fill 16 default,
    spots := Table.fill 512 none, pairings := Table.fill 512 none }

/-- The Map Engine's cleared state (R117). -/
def MapEngine.cleared : MapEngine :=
  { cells := Table.fill 512 default, passes := Table.fill 8 default, queue := [], work := none }

/-- The Alarm Unit's cleared state (R143). -/
def Alarm.cleared : Alarm := { recs := Table.fill 512 default, alm := false }

/-- The Export Engine's cleared state (R173). -/
def Export.cleared : Export := { job := none, outcome := .none, bytes := 0 }

/-- The Life Controller in CLEAR with no clear running yet (R14): every register zero. -/
def Life.cleared : Life :=
  { phase := .clear, rootStrap := 0, autoload := false, resetHeld := false, clearLeft := none, powerClearDone := false,
    load := none, pendingCfg := none, lastResult := .none, lock := false, params := default, clock := 0, trefEdges := 0 }

/-- Every block as the clear of R14 leaves it, in CLEAR. -/
def State.cleared : State :=
  { life := Life.cleared, path := Path.cleared, intake := Intake.cleared, conv := Conv.cleared, view := View.cleared,
    map := MapEngine.cleared, alarm := Alarm.cleared, hot := default, cmd := default, ev := default,
    exp := Export.cleared, pending := [] }

/-- The bridge right after power-on with RESET# deasserted (R14): in CLEAR, every block zeroed, the power clear of 2 ms
running. DESIGN CHOICE (log entry 30): RESET# deasserted, both bus ports idle. -/
def State.reset : State :=
  { State.cleared with life := { Life.cleared with clearLeft := some Config.powerClearUs } }

end Sys2Proof.Machine
end

