-- ==== Sys2Proof/Machine/Codes.lean ====
section
/-! DEFINITION. The codes of every enumeration, as spec 10 lists them under Codes, and the decoding of the codes that
the configuration and the commands carry. -/

namespace Sys2Proof.Machine

def Phase.code : Phase → Nat
  | .clear => 0 | .sample => 1 | .idle => 2 | .load => 3 | .run => 4 | .halt => 5

def LoadResult.code : LoadResult → Nat
  | .none => 0 | .ok => 1 | .badFormat => 2 | .badWindow => 3 | .badCurve => 4 | .badReference => 5
  | .fetchError => 6 | .stopped => 7

def Mode.code : Mode → Nat
  | .normal => 0 | .spall => 1 | .decoke => 2 | .oos => 3

/-- A mode code; a value above 3 names no mode (R180). -/
def Mode.ofCode : Nat → Option Mode
  | 0 => some .normal | 1 => some .spall | 2 => some .decoke | 3 => some .oos | _ => none

def Source.code : Source → Nat
  | .void => 0 | .tc => 1 | .fused => 2 | .pyro => 3 | .interp => 4 | .held => 5 | .oos => 6

/-- TC, FUSED and PYRO: the cell's own instruments gave the value (R92). -/
def Source.measured : Source → Bool
  | .tc => true | .fused => true | .pyro => true | .void => false | .interp => false | .held => false | .oos => false

/-- The live sources: the measured ones and INTERP (R92). -/
def Source.live : Source → Bool
  | .tc => true | .fused => true | .pyro => true | .interp => true | .void => false | .held => false | .oos => false

def Quality.code : Quality → Nat
  | .unused => 0 | .nodata => 1 | .good => 2 | .suspect => 3 | .failed => 4 | .stale => 5

def FaultKind.code : FaultKind → Nat
  | .scannerFault => 1 | .openCircuit => 2 | .overrange => 3 | .cjBad => 4 | .outOfCurve => 5 | .spike => 6
  | .stale => 7 | .frameLost => 8

def Level.code : Level → Nat
  | .normal => 0 | .advise => 1 | .high => 2 | .over => 3

def Threshold.code : Threshold → Nat
  | .advise => 0 | .high => 1 | .over => 2

def Threshold.ofCode : Nat → Option Threshold
  | 0 => some .advise | 1 => some .high | 2 => some .over | _ => none

/-- The level a threshold names (R138). -/
def Threshold.level : Threshold → Level
  | .advise => .advise | .high => .high | .over => .over

def Engine.code : Engine → Nat
  | .off => 0 | .ready => 1 | .busy => 2 | .stalled => 3 | .waitLoad => 4

def Urgent.code : Urgent → Nat
  | .freezeAll => 1 | .thawAll => 2 | .abortExport => 3

def Reason.code : Reason → Nat
  | .unknown => 1 | .badArgument => 2 | .locked => 3 | .busy => 4 | .wrongPhase => 5 | .insufficient => 6

def ExportOutcome.code : ExportOutcome → Nat
  | .none => 0 | .doneExact => 1 | .doneShort => 2 | .truncated => 3 | .listError => 4 | .busError => 5 | .aborted => 6

def OffCause.code : OffCause → Nat
  | .fell => 1 | .inhibited => 2 | .outOfService => 3

/-- Command ring size codes (spec 10). -/
def cmdSizeOfCode : Nat → Option Nat
  | 0 => some 16 | 1 => some 64 | _ => none

/-- Event ring size codes (spec 10). -/
def evSizeOfCode : Nat → Option Nat
  | 0 => some 16 | 1 => some 64 | 2 => some 256 | _ => none

/-- The class code of an event (spec 10, Event classes and codes). -/
def EventKind.cls : EventKind → Nat
  | .lifeLoadEnd => 1
  | .intakeIncomplete => 2 | .intakeQueueFull => 2 | .intakeBadScanner => 2 | .intakeDuplicate => 2
  | .scannerSeqGap => 3 | .scannerSilent => 3 | .scannerResumed => 3
  | .channelQuality => 4 | .channelFaultSet => 4
  | .pyroLineIncomplete => 5 | .pyroLineQueueFull => 5 | .pyroBadView => 5 | .pyroDuplicate => 5 | .pyroFault => 5
  | .pyroCalibrated => 5
  | .alarmLevel => 6 | .alarmRateOn => 6 | .alarmRateOff => 6 | .alarmExposureReset => 6
  | .hotLeader => 7
  | .commandRefused => 8 | .commandFetchError => 8
  | .exportEnd => 9
  | .pathMapWrite => 10
  | .lostCount => 11

/-- The event code within its class (spec 10). -/
def EventKind.code : EventKind → Nat
  | .lifeLoadEnd => 1
  | .intakeIncomplete => 1 | .intakeQueueFull => 2 | .intakeBadScanner => 3 | .intakeDuplicate => 4
  | .scannerSeqGap => 1 | .scannerSilent => 2 | .scannerResumed => 3
  | .channelQuality => 1 | .channelFaultSet => 2
  | .pyroLineIncomplete => 1 | .pyroLineQueueFull => 2 | .pyroBadView => 3 | .pyroDuplicate => 4 | .pyroFault => 5
  | .pyroCalibrated => 6
  | .alarmLevel => 1 | .alarmRateOn => 2 | .alarmRateOff => 3 | .alarmExposureReset => 4
  | .hotLeader => 1
  | .commandRefused => 1 | .commandFetchError => 2
  | .exportEnd => 1
  | .pathMapWrite => 1
  | .lostCount => 1

/-- The sticky set holds the kind (R64). -/
def FaultSet.has (f : FaultSet) : FaultKind → Bool
  | .scannerFault => f.scannerFault
  | .openCircuit => f.openCircuit
  | .overrange => f.overrange
  | .cjBad => f.cjBad
  | .outOfCurve => f.outOfCurve
  | .spike => f.spike
  | .stale => f.stale
  | .frameLost => f.frameLost

/-- The sticky set with the kind added (R64). -/
def FaultSet.add (f : FaultSet) : FaultKind → FaultSet
  | .scannerFault => { f with scannerFault := true }
  | .openCircuit => { f with openCircuit := true }
  | .overrange => { f with overrange := true }
  | .cjBad => { f with cjBad := true }
  | .outOfCurve => { f with outOfCurve := true }
  | .spike => { f with spike := true }
  | .stale => { f with stale := true }
  | .frameLost => { f with frameLost := true }

/-- The kinds, by ascending code. -/
def FaultKind.all : List FaultKind :=
  [.scannerFault, .openCircuit, .overrange, .cjBad, .outOfCurve, .spike, .stale, .frameLost]

/-- The sticky set as the eight flags of a channel record, bit (kind code − 1) for each kind held (spec 10). -/
def FaultSet.flags (f : FaultSet) : Nat :=
  (FaultKind.all.map fun k => flag (f.has k) * 2 ^ (k.code - 1)).sum

/-- The empty sticky set. -/
def FaultSet.none : FaultSet := ⟨false, false, false, false, false, false, false, false⟩

end Sys2Proof.Machine
end

