-- ==== Sys2Proof/Machine/Operands.lean ====
section
/-! DEFINITION. What a command's operands address: windows and watched words (spec 01), slot words and byte lanes
(R27), pass masks (R180), cells and channels (spec 00, Indices). -/

namespace Sys2Proof.Machine

/-- Cell index of a position of a pass (spec 00, Indices). -/
def cellAt (pass pos : Nat) : Nat := pass * 64 + pos

/-- Pass and position of a cell. -/
def passOf (cell : Nat) : Nat := cell / 64
def posOf (cell : Nat) : Nat := cell % 64

/-- Channel index of an input of a scanner (R47). -/
def channelAt (scanner input : Nat) : Nat := scanner * 16 + input

/-- The passes a mask names, ascending: bit p of the byte names pass p (R180). -/
def maskPasses (m : Byte) : List Nat := (List.range 8).filter fun p => m.getLsbD p

/-- The mask names no pass at or above the pass count (R113). -/
def maskOk (m : Byte) (passCount : Nat) : Bool := (maskPasses m).all fun p => decide (p < passCount)

/-- The address lies at or above the base and below the base plus the extent (R3). -/
def inWindow (base : W32) (extent : Nat) (addr : W32) : Bool :=
  decide (base.toNat ≤ addr.toNat) && decide (addr.toNat < base.toNat + extent)

/-- Two extents share an address (R3). -/
def overlap (b1 e1 b2 e2 : Nat) : Bool := decide (b1 < b2 + e2) && decide (b2 < b1 + e1)

/-- The address of a word. -/
def wordOf (addr : W32) : Nat := addr.toNat / 4 * 4

/-- ROOT × 0x10000 (R15). -/
def rootAddr (s : State) : W32 := BitVec.ofNat 32 (s.life.rootStrap.toNat * 0x10000)

/-- The command, event and map windows are active: a set is in force and the lifephase is RUN, LOAD or HALT (R4). In a
first LOAD the set is empty. -/
def ringWindows (s : State) : Option Windows :=
  match s.life.phase with
  | .run => s.path.windows
  | .load => s.path.windows
  | .halt => s.path.windows
  | .clear => none
  | .sample => none
  | .idle => none

/-- The intake windows are active: a set is in force and the lifephase is RUN (R4). -/
def intakeWindows (s : State) : Option Windows :=
  match s.life.phase with
  | .run => s.path.windows
  | .load => none
  | .halt => none
  | .clear => none
  | .sample => none
  | .idle => none

/-- The start word is watched from the end of SAMPLE on (R5, R15). -/
def startWatched (s : State) : Bool :=
  match s.life.phase with
  | .idle => true
  | .load => true
  | .run => true
  | .halt => true
  | .clear => false
  | .sample => false

/-- Where a granted host write is handed over (R5, R6). -/
inductive Watch where
  | tail | urgent | consumer | start
  | frame (offset : BitVec 10)
  | line (offset : BitVec 10)
  | none
deriving DecidableEq, Repr

/-- The address lies in the active map window (R7). -/
def mapHit (s : State) (addr : W32) : Bool :=
  match ringWindows s with
  | some w => inWindow w.map Config.mapExtent addr
  | none => false

/-- The offset of an address within the map window. -/
def mapOffset (s : State) (addr : W32) : Nat :=
  match ringWindows s with
  | some w => addr.toNat - w.map.toNat
  | none => 0

/-- The watched word of the rings at this address (R5). -/
def ringWatch (s : State) (addr : W32) : Watch :=
  match ringWindows s with
  | some w =>
    if wordOf addr = w.cmd.toNat + Config.tailOffset then .tail
    else if wordOf addr = w.cmd.toNat + Config.urgentOffset then .urgent
    else if wordOf addr = w.event.toNat + Config.consumerOffset w.evSize then .consumer
    else .none
  | none => .none

/-- The block that a write beat at this address is handed to (R5, R6). -/
def watchOf (s : State) (addr : W32) : Watch :=
  if startWatched s && decide (wordOf addr = (rootAddr s).toNat) then .start
  else match intakeWindows s with
    | some w =>
      if inWindow w.frame Config.frameExtent addr then .frame (BitVec.ofNat 10 (addr.toNat - w.frame.toNat))
      else if inWindow w.line Config.lineExtent addr then .line (BitVec.ofNat 10 (addr.toNat - w.line.toNat))
      else ringWatch s addr
    | none => ringWatch s addr

/-! ### Byte lanes and slot words -/

/-- The lanes that a byte enable names, as a mask of a word: lane 0 is the least significant byte (spec 00). -/
def laneMask (be : BitVec 4) : W32 :=
  BitVec.ofNat 32 (flag (be.getLsbD 0) * 0xFF + flag (be.getLsbD 1) * 0xFF00 + flag (be.getLsbD 2) * 0xFF0000
    + flag (be.getLsbD 3) * 0xFF000000)

/-- Each byte whose enable is set replaces the byte of its lane (R27). -/
def mergeBytes (old : W32) (b : Beat) : W32 := (old &&& ~~~(laneMask b.be)) ||| (b.data &&& laneMask b.be)

/-- All four byte enables are set (R5). -/
def fullBeat (b : Beat) : Bool := b.be == 0xF#4

/-- A beat merged into word `w` of a slot's buffer; the word is captured when the beat covers lane 3 (R27, R28). -/
def mergeBeat {n : Nat} (slot : Slot n) (w : Nat) (b : Beat) : Slot n :=
  { words := slot.words.modify w fun old => mergeBytes old b
    captured := if b.be.getLsbD 3 then slot.captured.set w true else slot.captured }

/-- The words below `n` that are not captured, ascending (R29, R74). -/
def uncaptured {k : Nat} (slot : Slot k) (n : Nat) : List Nat := (List.range n).filter fun i => !slot.captured.get i

/-- The frame that a slot's buffer holds (R30, R179). -/
def frameOf (slot : Slot 18) : Frame :=
  let w0 := slot.words.get 0
  { scanner := BitVec.ofNat 8 (bits w0 0 8)
    seq := BitVec.ofNat 8 (bits w0 8 8)
    fault := bit w0 16
    overrun := bit w0 17
    cj := signed16 (bits (slot.words.get 1) 0 16)
    inputs := Table.build 16 fun i =>
      let w := slot.words.get (2 + i)
      { raw := signed16 (bits w 0 16), openFlag := bit w 16, overrange := bit w 17 } }

/-- The line that a slot's buffer holds (R75, R179): even pixels in the low half of a word. -/
def lineOf (slot : Slot 33) : Line :=
  let w0 := slot.words.get 0
  { view := BitVec.ofNat 8 (bits w0 0 8)
    seq := BitVec.ofNat 8 (bits w0 8 8)
    fault := bit w0 16
    count := bits w0 24 7
    pixels := Table.build 64 fun p => bits (slot.words.get (1 + p / 2)) (16 * (p % 2)) 16 }

end Sys2Proof.Machine
end

