-- ==== Sys2Proof/Machine/Flags.lean ====
section
/-! DEFINITION. The computed flags: the three output lines and what they are evaluated from. -/

namespace Sys2Proof.Machine

/-- TAKE_OK after an append that leaves `n` frames in the queue, in RUN (R33). -/
def takeOkAppend (before : Bool) (n : Nat) : Bool := if 28 ≤ n then false else before

/-- TAKE_OK after a take that leaves `n` frames in the queue, in RUN (R33). -/
def takeOkTake (before : Bool) (n : Nat) : Bool := if n ≤ 24 then true else before

/-- A cell's alarm record holds ALM# asserted under this threshold and routing (R138). -/
def AlarmRec.holdsAlm (r : AlarmRec) (threshold : Threshold) (routing : Bool) : Bool :=
  (r.levelUnack && decide (threshold.level.code ≤ r.peak.code)) || (r.rateUnack && routing)

/-- The cells that hold ALM# asserted, ascending, over all 512 cells (R138, R147). -/
def almCells (s : State) : List Nat :=
  (s.alarm.recs.entries.filter fun e => e.2.holdsAlm s.life.params.threshold s.life.params.routing).map Prod.fst

/-- The condition of ALM# (R138). -/
def almCondition (s : State) : Bool :=
  s.alarm.recs.data.any fun r => r.holdsAlm s.life.params.threshold s.life.params.routing

/-- ALM# evaluated and driven (R138). -/
def evalAlm (s : State) : State := { s with alarm := { s.alarm with alm := almCondition s } }

/-- The unconsumed count, (producer − consumer) mod ring size (R167). -/
def unconsumed (e : EventWriter) : Nat :=
  match e.ring with
  | some r => (e.producer + r.size - e.consumer % r.size) % r.size
  | none => 0

/-- The ring is full: the unconsumed count is its size less one (R168). -/
def ringFull (e : EventWriter) : Bool :=
  match e.ring with
  | some r => decide (unconsumed e + 1 = r.size)
  | none => false

/-- The condition of EVT# (R171). -/
def evtCondition (e : EventWriter) : Bool :=
  match e.ring with
  | some r => decide (r.threshold ≤ unconsumed e) || e.expired
  | none => false

/-- EVT# evaluated and driven (R171). -/
def evalEvt (s : State) : State := { s with ev := { s.ev with evt := evtCondition s.ev } }

end Sys2Proof.Machine
end

