-- ==== Sys2Proof/Machine/Ops.lean ====
section
/-! DEFINITION. The operations every block shares: handing an event to the Event Writer, timers, posting a request to
the arbiter and receiving its completion. -/

namespace Sys2Proof.Machine

/-! ### Updates of one field of a block -/

/-- The state with another alarm records. -/
def withRecs (x : Table AlarmRec 512) (s : State) : State := { s with alarm := { s.alarm with recs := x } }

/-- The state with another channel table. -/
def withChannels (x : Table Channel 128) (s : State) : State := { s with conv := { s.conv with channels := x } }

/-- The state with another cell table. -/
def withCells (x : Table Cell 512) (s : State) : State := { s with map := { s.map with cells := x } }

/-- The state with another pass table. -/
def withPasses (x : Table Pass 8) (s : State) : State := { s with map := { s.map with passes := x } }

/-- The state with another refresh queue. -/
def withQueue (x : List Nat) (s : State) : State := { s with map := { s.map with queue := x } }

/-- The state with another pass workspace. -/
def withWork (x : Option Work) (s : State) : State := { s with map := { s.map with work := x } }

/-- The state with another scanner table. -/
def withScanners (x : Table Scanner 8) (s : State) : State := { s with intake := { s.intake with scanners := x } }

/-- The state with another view table. -/
def withViews (x : Table ViewEntry 16) (s : State) : State := { s with view := { s.view with views := x } }

/-- The state with another spot table. -/
def withSpots (x : Table (Option Spot) 512) (s : State) : State := { s with view := { s.view with spots := x } }

/-- The state with another pairing table. -/
def withPairings (x : Table (Option Pairing) 512) (s : State) : State := { s with view := { s.view with pairings := x } }

/-! ### Heater clock and timers -/

/-- The heater clock at the event under discussion (spec 00, Time). -/
def now (s : State) : W32 := s.life.clock

/-- A timer started now with this length in milliseconds. -/
def startTimer (s : State) (len : Nat) : Timer := ⟨now s, len⟩

/-- The time since the timer's start has reached its length (R26). -/
def Timer.due (t : Timer) (clock : W32) : Bool := decide (t.len ≤ elapsed clock t.start)

/-- A running timer that is due; a stopped one never is. -/
def timerDue (t : Option Timer) (clock : W32) : Bool :=
  match t with
  | some t => t.due clock
  | none => false

/-! ### Events -/

/-- The Event Writer takes an event handed over (R167). -/
def EventWriter.take (w : EventWriter) (e : Event) : EventWriter :=
  match w.ring with
  | none => w
  | some r =>
    if r.mask.getLsbD e.kind.cls && decide (e.kind.cls < 11) then w
    else if Config.pendingEventsMax ≤ w.pending.length then { w with lost := satAdd 65535 w.lost 1 }
    else { w with pending := w.pending ++ [e] }

/-- A block hands an event to the Event Writer; it is stamped with the heater clock (R167, R181). -/
def emit (kind : EventKind) (subject : W16) (a b : W32) (s : State) : State :=
  { s with ev := s.ev.take ⟨kind, subject, now s, a, b⟩ }

/-- A subject that is an index. -/
def subj (n : Nat) : W16 := BitVec.ofNat 16 n

/-- Several events in the order given, each as (kind, subject, value A, value B). -/
def emitAll (es : List (EventKind × W16 × W32 × W32)) (s : State) : State :=
  es.foldl (fun s e => emit e.1 e.2.1 e.2.2.1 e.2.2.2 s) s

/-! ### Requests to the memory-port arbiter (R12, R13) -/

/-- The requester that owns a kind of request (R12). -/
def ReqKind.owner : ReqKind → Requester
  | .eventRecord _ => .eventWriter
  | .producerWord _ => .eventWriter
  | .ringFetch => .commandEngine
  | .headWord => .commandEngine
  | .urgentClear => .commandEngine
  | .listFetch => .exportEngine
  | .stream => .exportEngine
  | .configFetch => .lifeController
  | .resultWord => .lifeController

/-- The requests a requester has to make, the first one waiting at the arbiter. -/
def requests (s : State) : Requester → List BridgeReq
  | .eventWriter => s.path.evOut
  | .commandEngine => s.path.cmdOut
  | .exportEngine => s.path.expOut
  | .lifeController => s.path.lifeOut

/-- Replace a requester's requests. -/
def setRequests (who : Requester) (l : List BridgeReq) (s : State) : State :=
  match who with
  | .eventWriter => { s with path := { s.path with evOut := l } }
  | .commandEngine => { s with path := { s.path with cmdOut := l } }
  | .exportEngine => { s with path := { s.path with expOut := l } }
  | .lifeController => { s with path := { s.path with lifeOut := l } }

/-- A requester posts a request, behind those it has posted before (R12). -/
def post (r : BridgeReq) (s : State) : State :=
  setRequests r.kind.owner (requests s r.kind.owner ++ [r]) s

/-- The requester's access on the memory port, if its completion is not one to discard. -/
def onPort (s : State) (who : Requester) : Option BridgeReq :=
  match s.path.memPort with
  | some (.bridge r false) => if r.kind.owner = who then some r else none
  | some (.bridge _ true) => none
  | some (.host _) => none
  | none => none

/-- The requester has an access outstanding: waiting, or on the memory port. -/
def outstanding (s : State) (who : Requester) : Bool := !(requests s who).isEmpty || (onPort s who).isSome

/-- The memory port becomes free. -/
def freePort (s : State) : State := { s with path := { s.path with memPort := none } }

/-- The access on the memory port is marked so that its completion is discarded, where it is this requester's (R13,
R16). -/
def discardOnPort (mine : ReqKind → Bool) (p : Option PortAccess) : Option PortAccess :=
  match p with
  | some (.bridge r d) => if mine r.kind then some (.bridge r true) else some (.bridge r d)
  | some (.host a) => some (.host a)
  | none => none

/-- A bridge-master access of this kind completes (R13): the port becomes free and the requester acts on the
completion, unless it is one to discard. While no such access is on the port nothing happens. -/
def complete (mine : ReqKind → Bool) (act : BridgeReq → State → State) (s : State) : State :=
  match s.path.memPort with
  | some (.bridge r discard) =>
    if mine r.kind then (if discard then freePort s else act r (freePort s)) else s
  | some (.host _) => s
  | none => s

/-! ### Kinds -/

def isEventRecord : ReqKind → Bool
  | .eventRecord _ => true
  | .producerWord _ | .ringFetch | .headWord | .urgentClear | .listFetch | .stream | .configFetch | .resultWord => false

def isProducerWord : ReqKind → Bool
  | .producerWord _ => true
  | .eventRecord _ | .ringFetch | .headWord | .urgentClear | .listFetch | .stream | .configFetch | .resultWord => false

def isKind (k : ReqKind) (k' : ReqKind) : Bool := decide (k = k')

end Sys2Proof.Machine
end

