-- ==== Sys2Proof/Machine/Convert.lean ====
section
/-! DEFINITION. The Conversion Engine (spec 04): the arithmetic of one reading, verdicts, debounce, sticky faults, and
the engine's part in the notices, commands and loads. -/

namespace Sys2Proof.Machine

/-! ### The arithmetic of one channel (R51 to R55) -/

/-- Interpolation along a curve from the `x` of its breakpoints to their `y`: on the segment with
x_k ≤ v < x_{k+1}, y_k + q((v − x_k)(y_{k+1} − y_k), x_{k+1} − x_k); the last `y` at the last `x` (R52, R53). -/
def alongCurve (x y : Breakpoint → Int) (v : Int) : List Breakpoint → Int
  | [] => 0
  | [p] => y p
  | p :: r :: rest =>
    if v < x r then y p + q ((v - x p) * (y r - y p)) (x r - x p) else alongCurve x y v (r :: rest)

/-- `v` lies within the first and the last `x` of the curve; never for a curve without breakpoints. -/
def onCurve (x : Breakpoint → Int) (v : Int) (curve : List Breakpoint) : Bool :=
  match curve.head?, curve.getLast? with
  | some lo, some hi => within (x lo) (x hi) v
  | some _, none => false
  | none, _ => false

/-- The cold junction is valid for a channel's curve (R52). -/
def cjValid (cj : Int) (curve : List Breakpoint) : Bool := within (-400) 1000 cj && onCurve Breakpoint.temp cj curve

/-- The compensated emf: twice the raw count plus the cold junction's emf (R51, R52, R53). -/
def compensated (raw cj : Int) (curve : List Breakpoint) : Int :=
  2 * raw + alongCurve Breakpoint.temp Breakpoint.emf cj curve

/-- The junction temperature of a compensated emf: along the curve, or its nearer end (R53, R54). -/
def junction (e : Int) (curve : List Breakpoint) : Int :=
  match curve.head?, curve.getLast? with
  | some lo, some hi =>
    if e < lo.emf then lo.temp else if hi.emf < e then hi.temp
    else alongCurve Breakpoint.emf Breakpoint.temp e curve
  | some _, none => 0
  | none, _ => 0

/-- The spike test fails (R57). -/
def spikeFails (t limit : Int) (lastConv : Option Int) : Bool :=
  match lastConv with
  | none => false
  | some x => decide (limit ≠ 0) && decide (limit < |t - x|)

/-- A verdict: GOOD is `none`, a bad verdict the fault kind it adds (R56, R64). -/
abbrev Verdict := Option FaultKind

/-- What a reading gives: its verdict, and where a temperature was computed, the temperature before saturation. -/
structure Outcome where
  verdict : Verdict
  sum : Option Int
deriving DecidableEq, Repr

/-- The verdict of a reading and the temperature T_j + o, in the order of R56. -/
def judge (fault : Bool) (cj : Int) (rd : Reading) (cfg : ChannelCfg) (curve : List Breakpoint)
    (lastConv : Option Int) : Outcome :=
  if fault then ⟨some .scannerFault, none⟩
  else if rd.openFlag then ⟨some .openCircuit, none⟩
  else if rd.overrange then ⟨some .overrange, none⟩
  else if !cjValid cj curve then ⟨some .cjBad, none⟩
  else
    let e := compensated rd.raw cj curve
    let sum := junction e curve + cfg.offset
    if !onCurve Breakpoint.emf e curve then ⟨some .outOfCurve, some sum⟩
    else if spikeFails (satTemp sum) cfg.spike lastConv then ⟨some .spike, some sum⟩
    else ⟨none, some sum⟩

/-! ### Debounce (R59 to R62) -/

/-- The history with a verdict appended, at most `d` entries (R59). -/
def pushVerdict (d : Nat) (good : Bool) (h : List Bool) : List Bool :=
  let l := h ++ [good]
  l.drop (l.length - d)

/-- `d` consecutive verdicts of this kind (R59). -/
def fullRun (d : Nat) (good : Bool) (h : List Bool) : Bool := decide (h.length = d) && h.all (· == good)

/-- Quality and supplied temperature after a GOOD verdict with temperature `t` (R60). -/
def debounceGood (full : Bool) (t : Int) : Quality → Quality × Option Int
  | .good => (.good, some t)
  | .suspect => (.good, some t)
  | .nodata => if full then (.good, some t) else (.nodata, none)
  | .stale => if full then (.good, some t) else (.stale, none)
  | .failed => if full then (.good, some t) else (.failed, none)
  | .unused => (.unused, none)

/-- Quality and supplied temperature after a bad verdict, `held` being the value it had (R61). -/
def debounceBad (full : Bool) (held : Option Int) : Quality → Quality × Option Int
  | .good => if full then (.failed, none) else (.suspect, held)
  | .suspect => if full then (.failed, none) else (.suspect, held)
  | .nodata => if full then (.failed, none) else (.nodata, none)
  | .stale => if full then (.failed, none) else (.stale, none)
  | .failed => (.failed, none)
  | .unused => (.unused, none)

/-- The QUALITY event of a change (R63). -/
def qualityEvent (c : Nat) (before after : Quality) : List (EventKind × W16 × W32 × W32) :=
  if before = after then [] else [(.channelQuality, subj c, encNat before.code, encNat after.code)]

/-- The FAULT_SET event of a kind newly added, with value B (R64, R65, R66). -/
def faultEvent (c : Nat) (f : FaultSet) (k : FaultKind) (b : W32) : List (EventKind × W16 × W32 × W32) :=
  if f.has k then [] else [(.channelFaultSet, subj c, encNat k.code, b)]

/-- A channel after one reading of an accepted frame, with its events: the reading recorded (R51), CLAMPED and the last
converted temperature (R55, R58), the history and the debounce (R59 to R61), the sticky set (R64), the time of the
verdict (R49). -/
def readChannel (c d : Nat) (f : Frame) (rd : Reading) (cfg : ChannelCfg) (curve : List Breakpoint) (clock : W32)
    (ch : Channel) : Channel × List (EventKind × W16 × W32 × W32) :=
  let o := judge f.fault f.cj rd cfg curve ch.lastConv
  let h := pushVerdict d o.verdict.isNone ch.history
  let full := fullRun d o.verdict.isNone h
  let moved := match o.verdict with
    | none => debounceGood full (satTemp (o.sum.getD 0)) ch.quality
    | some _ => debounceBad full ch.supplied ch.quality
  let faults := match o.verdict with
    | none => []
    | some k => faultEvent c ch.sticky k (encNat f.seq.toNat)
  ({ ch with
      quality := moved.1
      supplied := moved.2
      lastConv := match o.sum with | some x => some (satTemp x) | none => ch.lastConv
      lastRaw := rd.raw
      lastCj := f.cj
      history := h
      sticky := match o.verdict with | none => ch.sticky | some k => ch.sticky.add k
      clamped := match o.sum with | some x => decide (satTemp x ≠ x) | none => ch.clamped
      lastVerdict := some clock },
    faults ++ qualityEvent c ch.quality moved.1)

/-- A channel's entry replaced, and its events handed over. -/
def putChannel (c : Nat) (out : Channel × List (EventKind × W16 × W32 × W32)) (s : State) : State :=
  emitAll out.2 (withChannels (s.conv.channels.set c out.1) s)

/-- The completion of the frame in hand: every in-use channel of its scanner, in ascending input order (R49, R63). -/
def convertFrame (job : FrameJob) (s : State) : State :=
  forIdx 16 (fun i s =>
    let cfg := job.cfgs.get i
    let c := channelAt job.frame.scanner.toNat i
    if cfg.inUse then
      putChannel c (readChannel c s.life.params.debounce job.frame (job.frame.inputs.get i) cfg
        (s.conv.curves.get cfg.curve) (now s) (s.conv.channels.get c)) s
    else s)
    { s with conv := { s.conv with inHand := none } }

/-- A channel is in use: its flag is set and its scanner is below the configured scanner count (R47). -/
def channelInUse (s : State) (c : Nat) : Bool :=
  (s.conv.channels.get c).cfg.inUse && decide (c / 16 < s.life.params.scannerCount)

/-- A frame passes to the Conversion Engine, which captures it with the configuration parts of its scanner (R49). -/
def beginFrame (f : Frame) (s : State) : State :=
  let cfgs := Table.build 16 fun i => (s.conv.channels.get (channelAt f.scanner.toNat i)).cfg
  { s with conv := { s.conv with inHand := some ⟨f, cfgs⟩ } }

/-! ### Notices (R65, R66) -/

/-- A lost-frame notice for a scanner: FRAME_LOST enters the sticky set of each in-use channel, ascending (R65). -/
def lostNotice (scanner : Nat) (s : State) : State :=
  forIdx 16 (fun i s =>
    let c := channelAt scanner i
    let ch := s.conv.channels.get c
    if channelInUse s c then
      putChannel c ({ ch with sticky := ch.sticky.add .frameLost }, faultEvent c ch.sticky .frameLost 0) s
    else s) s

/-- A channel at a silence notice, with its events (R66). -/
def silenceChannel (c : Nat) (ch : Channel) : Channel × List (EventKind × W16 × W32 × W32) :=
  ({ ch with
      sticky := ch.sticky.add .stale
      history := []
      supplied := none
      lastConv := none
      quality := .stale },
    faultEvent c ch.sticky .stale 0 ++ qualityEvent c ch.quality .stale)

/-- A silence notice for a scanner (R66). -/
def silenceNotice (scanner : Nat) (s : State) : State :=
  forIdx 16 (fun i s =>
    let c := channelAt scanner i
    if channelInUse s c then putChannel c (silenceChannel c (s.conv.channels.get c)) s else s) s

/-- The number of a scanner's channels that are in use (R41). -/
def inUseCount (s : State) (scanner : Nat) : Nat :=
  ((List.range 16).filter fun i => channelInUse s (channelAt scanner i)).length

/-! ### Commands and loads (R67 to R71) -/

/-- CLEAR FAULTS of a range of channels (R67). -/
def clearFaultRange (first last : Nat) (s : State) : State :=
  withChannels (s.conv.channels.mapIdx fun c ch =>
    if first ≤ c ∧ c ≤ last then { ch with sticky := FaultSet.none } else ch) s

/-- SET OFFSET of a channel (R68). -/
def setChannelOffset (c : Nat) (v : Int) (s : State) : State :=
  withChannels (s.conv.channels.modify c fun ch => { ch with cfg := { ch.cfg with offset := v } }) s

/-- A channel at the end of a load with result OK: fresh state under the configuration part that the new channel table
gives it (R70). A channel of a scanner at or above the new scanner count has no record in that table, and any offset of
SET OFFSET is gone with the rest of its configuration part; DESIGN CHOICE (log entry 10): it stands as cleared (R69). -/
def freshChannel (below : Bool) (ch : Channel) : Channel :=
  let cfg : ChannelCfg := if below then ch.cfg else ⟨false, 0, 0, 0⟩
  { cfg := cfg, quality := if cfg.inUse then .nodata else .unused, supplied := none, lastConv := none, lastRaw := 0,
    lastCj := 0, history := [], sticky := FaultSet.none, clamped := false, lastVerdict := none }

/-- The Conversion Engine at the end of a load with result OK (R70). DESIGN CHOICE (log entry 10): a curve that no record
of the new configuration names stays as it was. -/
def convLoadOk (s : State) : State :=
  withChannels (s.conv.channels.mapIdx fun c ch => freshChannel (decide (c / 16 < s.life.params.scannerCount)) ch) s

/-- The Conversion Engine at the acceptance of a reload: the frame in hand is abandoned (R71). -/
def convPause (s : State) : State := { s with conv := { s.conv with inHand := none } }

/-- The run of like verdicts at the newest end of a history: its length, and whether it is good (R72). -/
def newestRun (h : List Bool) : Nat × Bool :=
  match h.reverse with
  | [] => (0, false)
  | v :: rest => (1 + (rest.takeWhile (· == v)).length, v)

end Sys2Proof.Machine
end

