-- ==== Sys2Proof/Machine/FrameIntake.lean ====
section
/-! DEFINITION. The Frame Intake (spec 03): slot assembly, the frame queue, the take with its sequence check,
freshness and silence, and TAKE_OK; and the meanings of its commands. -/

namespace Sys2Proof.Machine

/-- The configured scanner count (R34). -/
def scannerCount (s : State) : Nat := s.life.params.scannerCount

/-- The freshness timer a scanner is given (R40). -/
def freshnessTimer (s : State) : Timer := startTimer s (s.life.params.freshnessS * 1000)

/-! ### Assembly and the frame queue (R27 to R33) -/

/-- A complete frame offered by slot `slot`: appended, or dropped when the queue is full (R31, R32). -/
def offerFrame (slot : Nat) (f : Frame) (s : State) : State :=
  if s.intake.queue.length < Config.frameQueueMax then
    let queue := s.intake.queue ++ [f]
    { s with intake := { s.intake with queue := queue, takeOk := takeOkAppend s.intake.takeOk queue.length } }
  else
    let dropped := emit .intakeQueueFull (subj slot) (encNat f.scanner.toNat) (encNat f.seq.toNat) s
    if f.scanner.toNat < scannerCount s then lostNotice f.scanner.toNat dropped else dropped

/-- Replace a slot's buffer. -/
def withFrameSlot (i : Nat) (x : Slot 18) (s : State) : State :=
  { s with intake := { s.intake with slots := s.intake.slots.set i x } }

/-- The completion of slot `i` whose buffer is `buf`: the buffer is cleared, and the frame is offered or INCOMPLETE is
handed over (R29). -/
def completeFrameSlot (i : Nat) (buf : Slot 18) (s : State) : State :=
  let cleared := withFrameSlot i (Slot.empty 18) s
  match uncaptured buf 17 with
  | [] => offerFrame i (frameOf buf) cleared
  | w :: rest => emit .intakeIncomplete (subj i) (encNat (w :: rest).length) (encNat w) cleared

/-- One write beat at an offset of the frame intake window (R27 to R29). -/
def frameBeat (offset : Nat) (b : Beat) (s : State) : State :=
  let i := offset / 128
  let w := offset % 128 / 4
  if 17 < w then s
  else
    let buf := mergeBeat (s.intake.slots.getD i (Slot.empty 18)) w b
    if w = 17 && b.be.getLsbD 3 then completeFrameSlot i buf s else withFrameSlot i buf s

/-! ### The take (R34 to R39, R42) -/

/-- The head frame leaves the queue; TAKE_OK follows (R33, R34). -/
def popFrame (rest : List Frame) (s : State) : State :=
  { s with intake := { s.intake with queue := rest, takeOk := takeOkTake s.intake.takeOk rest.length } }

/-- A frame is accepted, `gap` being absent when it is in order: the remembered sequence and the freshness timer, then
RESUMED, SEQ_GAP, the lost-frame notice and the frame, in that order (R37, R38, R39, R42). -/
def acceptFrame (f : Frame) (gap : Option Nat) (s : State) : State :=
  let i := f.scanner.toNat
  let silent := (s.intake.scanners.get i).silent
  let held := withScanners (s.intake.scanners.set i ⟨some f.seq, some (freshnessTimer s), false⟩) s
  let resumed := if silent then emit .scannerResumed (subj i) (encNat f.seq.toNat) 0 held else held
  let gapped := match gap with
    | some g => emit .scannerSeqGap (subj i) (encNat g) (encNat f.seq.toNat) resumed
    | none => resumed
  let noticed := if gap.isSome || f.overrun then lostNotice i gapped else gapped
  beginFrame f noticed

/-- The outcome of taking frame `f`, in the order of R34's table. -/
def checkFrame (f : Frame) (s : State) : State :=
  let i := f.scanner.toNat
  if scannerCount s ≤ i then emit .intakeBadScanner (subj i) (encNat f.seq.toNat) 0 s
  else match (s.intake.scanners.get i).remembered with
    | none => acceptFrame f none s
    | some m =>
      if f.seq = m then emit .intakeDuplicate (subj i) (encNat f.seq.toNat) 0 s
      else if f.seq = m + 1 then acceptFrame f none s
      else acceptFrame f (some (f.seq - m - 1).toNat) s

/-- FRAME_TAKE (R34). -/
def execFrameTake (s : State) : Host.Outcome State Fault Refusal :=
  match s.life.phase, s.conv.inHand, s.intake.queue with
  | .run, none, f :: rest => .next (checkFrame f (popFrame rest s))
  | _, _, _ => .next s

/-- FRAME_SLOT_WRITE (R27): a write beat is handed over only while the intake windows are active (R6). -/
def execFrameSlotWrite (offset : BitVec 10) (b : Beat) (s : State) : Host.Outcome State Fault Refusal :=
  match intakeWindows s with
  | some _ => .next (frameBeat offset.toNat b s)
  | none => .next s

/-- FRAME_CONVERSION_COMPLETE (R49). -/
def execFrameConversionComplete (s : State) : Host.Outcome State Fault Refusal :=
  match s.conv.inHand with
  | some job => .next (convertFrame job s)
  | none => .next s

/-! ### Freshness and silence (R40, R41) -/

/-- A scanner falls silent: timer, remembered sequence and flag, then the silence notice and SILENT (R41). -/
def fallSilent (i : Nat) (s : State) : State :=
  let n := inUseCount s i
  emit .scannerSilent (subj i) (encNat n) 0
    (silenceNotice i (withScanners (s.intake.scanners.set i ⟨none, none, true⟩) s))

/-- FRESHNESS_TIMER_EXPIRY (R41), when the timer is due (R26, R40). -/
def execFreshnessTimerExpiry (i : Fin 8) (s : State) : Host.Outcome State Fault Refusal :=
  if timerDue (s.intake.scanners.get i.val).timer (now s) then .next (fallSilent i.val s) else .next s

/-! ### Loads (R44, R45) -/

/-- The Frame Intake at the end of a load with result OK (R44). -/
def intakeLoadOk (s : State) : State :=
  { s with intake :=
    { s.intake with
      scanners := Table.build 8 fun i => ⟨none, if i < scannerCount s then some (freshnessTimer s) else none, false⟩
      takeOk := true } }

/-- The Frame Intake at the acceptance of a reload (R45). -/
def intakePause (s : State) : State :=
  { s with intake :=
    { slots := Table.fill 8 (Slot.empty 18)
      queue := []
      scanners := s.intake.scanners.mapIdx fun _ sc => { sc with timer := none }
      takeOk := false } }

end Sys2Proof.Machine
end

