-- ==== Sys2Proof/Machine/Alarm.lean ====
section
/-! DEFINITION. The Alarm Unit (spec 07): margin, rate of rise, rate alarm, level and exposure of one cell as functions
of its alarm record, and the unit's work within the events that other blocks own. -/

namespace Sys2Proof.Machine

/-- An event of a cell, before it is handed over. -/
abbrev EventData := EventKind × W16 × W32 × W32

/-- The level function r(m) of R130. -/
def levelFor (m advisory high : Int) : Level :=
  if m ≤ 0 then .over else if m ≤ high then .high else if m ≤ advisory then .advise else .normal

/-- The level order (spec 07). -/
def Level.higher (a b : Level) : Bool := decide (b.code < a.code)

def Level.max (a b : Level) : Level := if a.code ≤ b.code then b else a

/-- A cell's effective limit (R123). -/
def effectiveLimit (mode : Mode) (cfg : PassCfg) (limit : Int) : Int :=
  match mode with
  | .decoke => cfg.decokeLimit
  | .normal => limit
  | .spall => limit
  | .oos => limit

/-- What the Alarm Unit reads of a cell at a commit (R142). -/
structure AlarmIn where
  cell : Nat
  cfg : PassCfg
  mode : Mode
  limit : Int
  source : Source
  temp : Option Int
  clock : W32
  /-- milliseconds the commit credits to an exposed cell (R139) -/
  credit : Nat
deriving DecidableEq, Repr

/-- The margin at a commit: effective limit − T where the cell has a temperature, absent otherwise (R123). -/
def marginStep (i : AlarmIn) (r : AlarmRec) : AlarmRec :=
  { r with margin := i.temp.map fun t => effectiveLimit i.mode i.cfg i.limit - t }

/-- The rate of R126, in tenths per minute. -/
def rateOf (t tRef : Int) (delta : Nat) : Int := saturate (-32767) 32767 (q ((t - tRef) * 60000) (delta : Int))

/-- The rate alarm's evaluation at a computed rate (R128). -/
def rateAlarmStep (i : AlarmIn) (rate : Int) (r : AlarmRec) : AlarmRec × List EventData :=
  if i.cfg.rateLimit < rate then
    if r.rateAlarm then (r, [])
    else match i.mode with
      | .normal => ({ r with rateAlarm := true, rateUnack := true },
          [(.alarmRateOn, subj i.cell, encInt rate, encInt i.cfg.rateLimit)])
      | .spall => (r, [])
      | .decoke => (r, [])
      | .oos => (r, [])
  else if r.rateAlarm then
    ({ r with rateAlarm := false }, [(.alarmRateOff, subj i.cell, encInt rate, encNat OffCause.fell.code)])
  else (r, [])

/-- Rate reference, rate and rate alarm at a commit (R125, R126, R128). -/
def rateStep (i : AlarmIn) (r : AlarmRec) : AlarmRec × List EventData :=
  match i.source.live, i.temp with
  | true, some t =>
    match r.ref with
    | none => ({ r with ref := some ⟨t, i.clock⟩ }, [])
    | some ref =>
      if elapsed i.clock ref.time < i.cfg.rateWindowS * 1000 then (r, [])
      else
        let rate := rateOf t ref.temp (elapsed i.clock ref.time)
        let out := rateAlarmStep i rate { r with rate := some rate }
        ({ out.1 with ref := some ⟨t, i.clock⟩ }, out.2)
  | true, none => (r, [])
  | false, _ => (r, [])

/-- The event of a change of level (R132, R133). -/
def levelEvent (cell : Nat) (before after : Level) : EventData :=
  (.alarmLevel, subj cell, encNat before.code, encNat after.code)

/-- A rise of the level (R132). -/
def levelRise (cell : Nat) (up : Level) (r : AlarmRec) : AlarmRec × List EventData :=
  ({ r with level := up, persist := 0, levelUnack := true, peak := r.peak.max up }, [levelEvent cell r.level up])

/-- A fall of the level (R133). -/
def levelFall (cell : Nat) (down : Level) (r : AlarmRec) : AlarmRec × List EventData :=
  ({ r with level := down, persist := 0 }, [levelEvent cell r.level down])

/-- The level's evaluation at a commit (R131); without a margin the level stays and the count returns to 0 (R134). -/
def levelStep (i : AlarmIn) (r : AlarmRec) : AlarmRec × List EventData :=
  match r.margin with
  | none => ({ r with persist := 0 }, [])
  | some m =>
    let up := levelFor m i.cfg.advisory i.cfg.high
    let down := levelFor (m - i.cfg.hysteresis) i.cfg.advisory i.cfg.high
    if up.higher r.level then
      if i.cfg.persistence ≤ r.persist + 1 then levelRise i.cell up r
      else ({ r with persist := r.persist + 1 }, [])
    else if r.level.higher down then levelFall i.cell down r
    else ({ r with persist := 0 }, [])

/-- The most an exposure count holds, in seconds (R140). -/
def exposureMax : Nat := 4294967295

/-- Milliseconds added to an exposure (R140). -/
def addExposure (ms : Nat) (r : AlarmRec) : AlarmRec :=
  if exposureMax < r.exposureS + (r.exposureMs + ms) / 1000 then
    { r with exposureS := exposureMax, exposureMs := 999 }
  else
    { r with exposureS := r.exposureS + (r.exposureMs + ms) / 1000, exposureMs := (r.exposureMs + ms) % 1000 }

/-- Exposure at a commit: a live cell at or below the advisory margin is credited (R139). -/
def exposureStep (i : AlarmIn) (r : AlarmRec) : AlarmRec :=
  match i.source.live, r.margin with
  | true, some m => if m ≤ i.cfg.advisory then addExposure i.credit r else r
  | true, none => r
  | false, _ => r

/-- The Alarm Unit's work on one cell at a commit, in the order of R142, with the cell's events in theirs. -/
def alarmCell (i : AlarmIn) (r : AlarmRec) : AlarmRec × List EventData :=
  let rated := rateStep i (marginStep i r)
  let levelled := levelStep i rated.1
  (exposureStep i levelled.1, rated.2 ++ levelled.2)

/-- One cell's record replaced, and its events handed over. -/
def putAlarm (cell : Nat) (out : AlarmRec × List EventData) (s : State) : State :=
  emitAll out.2 (withRecs (s.alarm.recs.set cell out.1) s)

/-- What a commit of a pass credits to each exposed cell, in milliseconds, before the commit sets the last commit time
anew (R139). -/
def exposureCredit (p : Pass) (clock : W32) : Nat :=
  match p.lastCommit with
  | none => 0
  | some t =>
    match p.commitAge with
    | some age => if 3600 ≤ age then p.cfg.holdS * 1000 else min (elapsed clock t) (p.cfg.holdS * 1000)
    | none => min (elapsed clock t) (p.cfg.holdS * 1000)

/-- What the Alarm Unit reads of a cell of a pass as it stands. -/
def alarmIn (s : State) (p cell credit : Nat) : AlarmIn :=
  let pass := s.map.passes.get p
  let c := s.map.cells.get cell
  { cell := cell, cfg := pass.cfg, mode := pass.mode, limit := c.cfg.limit, source := c.source, temp := c.temp,
    clock := now s, credit := credit }

/-- The Alarm Unit's work at a commit of pass `p`, cells in ascending position, ALM# evaluated at the end (R142). -/
def alarmCommit (p credit : Nat) (s : State) : State :=
  evalAlm (forIdx (s.map.passes.get p).cfg.cellCount
    (fun pos s => putAlarm (cellAt p pos) (alarmCell (alarmIn s p (cellAt p pos) credit)
      (s.alarm.recs.get (cellAt p pos))) s) s)

/-- One cell at the entry of its pass to OOS (R135). -/
def alarmCellOos (cell : Nat) (r : AlarmRec) : AlarmRec × List EventData :=
  let off : List EventData :=
    if r.rateAlarm then
      [(.alarmRateOff, subj cell, (match r.rate with | some x => encInt x | none => absent32),
        encNat OffCause.outOfService.code)]
    else []
  let lvl : List EventData := if r.level = .normal then [] else [levelEvent cell r.level .normal]
  ({ r with rateAlarm := false, rate := none, margin := none, level := .normal, persist := 0 }, off ++ lvl)

/-- The Alarm Unit at the entry of pass `p` to OOS: positions 0 to 63, ascending (R135), then ALM# (R138). -/
def alarmOosEntry (p : Nat) (s : State) : State :=
  evalAlm (forIdx 64 (fun pos s => putAlarm (cellAt p pos) (alarmCellOos (cellAt p pos)
    (s.alarm.recs.get (cellAt p pos))) s) s)

/-- The Alarm Unit at the exit of pass `p` from OOS: rate references and margins of its cells absent (R111, R124,
R125). -/
def alarmOosExit (p : Nat) (s : State) : State :=
  withRecs (s.alarm.recs.mapIdx fun c r =>
    if passOf c = p ∧ posOf c < (s.map.passes.get p).cfg.cellCount then { r with ref := none, margin := none }
    else r) s

/-- One cell at an entry of its pass to SPALL or DECOKE (R129). -/
def alarmCellInhibit (cell : Nat) (r : AlarmRec) : AlarmRec × List EventData :=
  if r.rateAlarm then
    ({ r with rateAlarm := false },
      [(.alarmRateOff, subj cell, (match r.rate with | some x => encInt x | none => absent32),
        encNat OffCause.inhibited.code)])
  else (r, [])

/-- The Alarm Unit at an entry of pass `p` to SPALL or DECOKE (R129). -/
def alarmInhibit (p : Nat) (s : State) : State :=
  forIdx (s.map.passes.get p).cfg.cellCount (fun pos s => putAlarm (cellAt p pos) (alarmCellInhibit (cellAt p pos)
    (s.alarm.recs.get (cellAt p pos))) s) s

/-- The margin of a cell at the end of a load with result OK (R124). -/
def loadMargin (pass : Pass) (cell : Cell) : Option Int :=
  if cell.source = .held then cell.temp.map fun t => effectiveLimit pass.mode pass.cfg cell.cfg.limit - t else none

/-- The Alarm Unit at the end of a load with result OK, after the Map Engine has set the cells and the new root is in
force (R145, R124). -/
def alarmLoadOk (s : State) : State :=
  evalAlm (withRecs (s.alarm.recs.mapIdx fun c r =>
    { r with
      ref := none
      persist := 0
      margin := loadMargin (s.map.passes.get (passOf c)) (s.map.cells.get c) }) s)

/-- The margins at the end of a reload whose result is not OK: absent for a cell of the record extent that has become
VOID, unchanged for the others (R124, R146). -/
def alarmLoadFail (s : State) : State :=
  withRecs (s.alarm.recs.mapIdx fun c r =>
    if (s.map.cells.get c).source = .void then { r with margin := none } else r) s

/-- One cell acknowledged (R136). -/
def ackRec (r : AlarmRec) : AlarmRec := { r with levelUnack := false, rateUnack := false, peak := r.level }

/-- ACK of a cell: its record, then ALM# (R136). -/
def ackCell (cell : Nat) (s : State) : State :=
  evalAlm (withRecs (s.alarm.recs.modify cell ackRec) s)

/-- ACK PASS: every cell of the pass, positions 0 to 63, then ALM# once (R137). -/
def ackPassCells (p : Nat) (s : State) : State :=
  evalAlm (withRecs (s.alarm.recs.mapIdx fun c r => if passOf c = p then ackRec r else r) s)

/-- RESET EXPOSURE of a cell, with its event (R141). -/
def resetExposureOf (cell : Nat) (s : State) : State :=
  let r := s.alarm.recs.get cell
  emit .alarmExposureReset (subj cell) (encNat r.exposureS) 0
    (withRecs (s.alarm.recs.set cell { r with exposureS := 0, exposureMs := 0 }) s)

end Sys2Proof.Machine
end

