-- ==== Sys2Proof/Machine/Fusion.lean ====
section
/-! DEFINITION. Fusion (R102 to R106): the work of a recompute on its image, in the four steps of spec 06, as functions
of the image, the pass's parameters and the cells' own records. -/

namespace Sys2Proof.Machine

/-- The supplied temperatures that the image holds for a cell's channels, A then B (R102). -/
def suppliedOf (ci : CellImage) : List Int :=
  [ci.a, ci.b].filterMap fun ch => ch.bind ChanImage.supplied

/-- The channels that contribute to T_tc: those that supply a value (R102; log entry 12). -/
def contributors (ci : CellImage) : List ChanImage :=
  [ci.a, ci.b].filterMap fun ch => ch.filter fun c => c.supplied.isSome

/-- T_tc and DISAGREE (R102). -/
def tcOf (limit : Int) (ci : CellImage) : Option Int × Bool :=
  match suppliedOf ci with
  | [] => (none, false)
  | [t] => (some t, false)
  | ta :: tb :: _ =>
    if limit ≠ 0 ∧ limit < |ta - tb| then (some (max ta tb), true) else (some (q (ta + tb) 2), false)

/-- What fusion gives a cell (R99, R102 to R106). -/
structure Fused where
  temp : Option Int
  source : Source
  disagree : Bool
  clamped : Bool
  tc : Option Int
deriving DecidableEq, Repr, Inhabited

/-- A GOOD channel that contributed had its CLAMPED flag set in the image (R106). -/
def goodClamped (ci : CellImage) : Bool := (contributors ci).any fun c => decide (c.quality = .good) && c.clamped

/-- The fresh spot of an image, if there is one (R98, R103). -/
def freshSpot (ci : CellImage) : Option SpotImage := ci.spot.filter SpotImage.fresh

/-- A cell after the first two steps: its thermocouple value combined with its spot (R102, R103, R106). A cell with no
temperature yet has source VOID here. DEDUCED (log entry 33): the fresh spot of a FUSED cell took part whatever the
weight, also with a weight of 0. -/
def direct (cfg : PassCfg) (ci : CellImage) : Fused :=
  let tc := tcOf cfg.disagreeLimit ci
  match tc.1, freshSpot ci with
  | some t, some sp =>
    let x := t + q (cfg.weight * (sp.value - t)) 16
    ⟨some (satTemp x), .fused, tc.2, decide (satTemp x ≠ x) || goodClamped ci || sp.clamped, tc.1⟩
  | some t, none => ⟨some (satTemp t), .tc, tc.2, decide (satTemp t ≠ t) || goodClamped ci, tc.1⟩
  | none, some sp => ⟨some (satTemp sp.value), .pyro, tc.2, decide (satTemp sp.value ≠ sp.value) || sp.clamped, none⟩
  | none, none => ⟨none, .void, tc.2, false, none⟩

/-- A measured cell of the recompute at position `i`, with its temperature and CLAMPED flag (R104). -/
def measuredAt (ds : List Fused) (i : Nat) : Option (Int × Bool) :=
  match ds[i]? with
  | some d => if d.source.measured then d.temp.map fun t => (t, d.clamped) else none
  | none => none

/-- The highest position below `k` with a measured cell (R104). -/
def measuredBelow (ds : List Fused) (k : Nat) : Option Nat :=
  (List.range k).reverse.find? fun i => (measuredAt ds i).isSome

/-- The lowest position above `k` with a measured cell (R104). -/
def measuredAbove (ds : List Fused) (k : Nat) : Option Nat :=
  (List.range ds.length).find? fun j => decide (k < j) && (measuredAt ds j).isSome

/-- The interpolated temperature between `ti` at `i` and `tj` at `j` (R104). -/
def interpolate (ti tj : Int) (i j k : Nat) : Int := ti + q ((tj - ti) * ((k : Int) - i)) ((j : Int) - i)

/-- A cell after the third step: interpolated where it has no temperature and measured neighbours stand within reach
(R104, R106). -/
def interpolated (cfg : PassCfg) (ds : List Fused) (k : Nat) (d : Fused) : Fused :=
  match d.temp with
  | some _ => d
  | none =>
    match measuredBelow ds k, measuredAbove ds k with
    | some i, some j =>
      if j - i ≤ cfg.spanLimit then
        match measuredAt ds i, measuredAt ds j with
        | some (ti, ci), some (tj, cj) =>
          let x := interpolate ti tj i j k
          ⟨some (satTemp x), .interp, false, decide (satTemp x ≠ x) || ci || cj, none⟩
        | _, _ => d
      else d
    | _, _ => d

/-- A cell after the fourth step: held or voided where it has no temperature (R105). -/
def heldOrVoid (holdS : Nat) (clock : W32) (old : Cell) (d : Fused) : Fused :=
  match d.temp with
  | some _ => d
  | none =>
    match old.temp, old.lastDirect with
    | some t, some ld =>
      if elapsed clock ld ≤ holdS * 1000 then ⟨some t, .held, false, old.clamped, none⟩
      else ⟨none, .void, false, false, none⟩
    | _, _ => ⟨none, .void, false, false, none⟩

/-- The spot snapshot of the commit: the image's spot, fresh or stale (R103). -/
def snapshotOf (ci : CellImage) : Option Snapshot :=
  ci.spot.map fun sp => ⟨sp.value, sp.brightness, sp.age, sp.fresh⟩

/-- A cell record after the commit (R99). -/
def commitCell (clock : W32) (ci : CellImage) (d : Fused) (old : Cell) : Cell :=
  { cfg := old.cfg
    temp := d.temp
    source := d.source
    disagree := d.disagree
    clamped := d.clamped
    lastDirect := if d.source.live then some clock else old.lastDirect
    tcComp := d.tc
    snap := snapshotOf ci }

/-- What fusion gives position `k` of the pass whose image is `image`, the cell's own record being `old` (R102 to
R106). -/
def fuseAt (cfg : PassCfg) (clock : W32) (image : List CellImage) (k : Nat) (old : Cell) : Fused :=
  let ds := image.map (direct cfg)
  heldOrVoid cfg.holdS clock old (interpolated cfg ds k (ds.getD k default))

/-- The pairing that a commit writes for a cell, absent where it removes it (R84). -/
def pairingOf (cfg : PassCfg) (clock : W32) (ci : CellImage) : Option Pairing :=
  let tc := tcOf cfg.disagreeLimit ci
  match tc.1, freshSpot ci with
  | some t, some sp =>
    if (contributors ci).all (fun c => decide (c.quality = .good)) && !tc.2 && !sp.clamped then
      some ⟨t, sp.brightness, clock⟩
    else none
  | _, _ => none

end Sys2Proof.Machine
end

