-- ==== Sys2Proof/Machine/HotList.lean ====
section
/-! DEFINITION. The Hot List Unit (spec 08). -/

namespace Sys2Proof.Machine

/-- The entry of a cell, where it is eligible: a live source, and its pass not in OOS (R149). An eligible cell always
holds a margin (R123); the 0 stands for none in states that no run reaches (log entry 23). -/
def hotEntry (s : State) (c : Nat) : Option HotEntry :=
  let cell := s.map.cells.get c
  if cell.source.live && !decide ((s.map.passes.get (passOf c)).mode = .oos) then
    let r := s.alarm.recs.get c
    some ⟨c, r.margin.getD 0, r.level, cell.source⟩
  else none

/-- The eligible cells, ascending (R149, R151). -/
def eligibleEntries (s : State) : List HotEntry := (List.range 512).filterMap (hotEntry s)

/-- The order of R150: ascending margin, then ascending index. -/
def HotEntry.ahead (a b : HotEntry) : Prop := a.margin < b.margin ∨ (a.margin = b.margin ∧ a.cell ≤ b.cell)

/-- The same order as a test. -/
def HotEntry.aheadB (a b : HotEntry) : Bool :=
  decide (a.margin < b.margin) || (decide (a.margin = b.margin) && decide (a.cell ≤ b.cell))

/-- An entry put in its place among entries in order. -/
def insertEntry (e : HotEntry) : List HotEntry → List HotEntry
  | [] => [e]
  | x :: l => if e.aheadB x then e :: x :: l else x :: insertEntry e l

/-- Entries put in the order of R150. -/
def rankEntries : List HotEntry → List HotEntry
  | [] => []
  | e :: l => insertEntry e (rankEntries l)

/-- The hot list that the cells as they stand give (R150, R151). -/
def hotOf (s : State) : Hot :=
  let es := eligibleEntries s
  { list := (rankEntries es).take Config.hotListMax, eligible := es.length }

/-- The cell at rank 0, if there is one (R148). -/
def leader (h : Hot) : Option HotEntry := h.list.head?

/-- The leader event where the leader has changed (R155). -/
def leaderEvent (before : Hot) (s : State) : State :=
  let old := (leader before).map HotEntry.cell
  match leader s.hot with
  | some e =>
    if old = some e.cell then s
    else emit .hotLeader (subj e.cell) (encInt e.margin) (match old with | some c => encNat c | none => absent32) s
  | none =>
    match old with
    | some c => emit .hotLeader absent16 absent32 (encNat c) s
    | none => s

/-- The list rebuilt whole, without the leader event (R151, steps 1 to 3). -/
def rebuildList (s : State) : State := { s with hot := hotOf s }

/-- A rebuild with its leader event (R151, R155). -/
def rebuildHot (s : State) : State := leaderEvent s.hot (rebuildList s)

end Sys2Proof.Machine
end

