-- ==== Sys2Proof/Machine/ViewUnit.lean ====
section
/-! DEFINITION. The View Unit (spec 05): line assembly, the line queue, head checks, spots, pairings and calibration;
and the meanings of its commands. -/

namespace Sys2Proof.Machine

/-- The configured view count (R77). -/
def viewCount (s : State) : Nat := s.life.params.viewCount

/-! ### Assembly and the line queue (R73 to R76) -/

/-- A complete line offered by slot `slot`: appended, or dropped when the queue is full (R76). -/
def offerLine (slot : Nat) (l : Line) (s : State) : State :=
  if s.view.queue.length < Config.lineQueueMax then
    { s with view := { s.view with queue := s.view.queue ++ [l] } }
  else emit .pyroLineQueueFull (subj slot) (encNat l.view.toNat) (encNat l.seq.toNat) s

/-- Replace a slot's buffer. -/
def withLineSlot (i : Nat) (x : Slot 33) (s : State) : State :=
  { s with view := { s.view with slots := s.view.slots.set i x } }

/-- The completion of line slot `i` whose buffer is `buf` (R74). -/
def completeLineSlot (i : Nat) (buf : Slot 33) (s : State) : State :=
  let cleared := withLineSlot i (Slot.empty 33) s
  match uncaptured buf 32 with
  | [] => offerLine i (lineOf buf) cleared
  | w :: rest => emit .pyroLineIncomplete (subj i) (encNat (w :: rest).length) (encNat w) cleared

/-- One write beat at an offset of the line intake window (R73, R74). -/
def lineBeat (offset : Nat) (b : Beat) (s : State) : State :=
  let i := offset / 256
  let w := offset % 256 / 4
  if 32 < w then s
  else
    let buf := mergeBeat (s.view.slots.getD i (Slot.empty 33)) w b
    if w = 32 && b.be.getLsbD 3 then completeLineSlot i buf s else withLineSlot i buf s

/-- LINE_SLOT_WRITE (R73): a write beat is handed over only while the intake windows are active (R6). -/
def execLineSlotWrite (offset : BitVec 10) (b : Beat) (s : State) : Host.Outcome State Fault Refusal :=
  match intakeWindows s with
  | some _ => .next (lineBeat offset.toNat b s)
  | none => .next s

/-! ### The take and the head checks (R77 to R79) -/

/-- A line is accepted (R79). -/
def acceptLine (l : Line) (s : State) : State :=
  let v := s.view.views.get l.view.toNat
  let entry := { v with remembered := some l.seq, accepted := v.accepted + 1 }
  let views := s.view.views.set l.view.toNat entry
  { s with view := { s.view with views := views, inHand := some ⟨l, v.correction⟩ } }

/-- The outcome of taking line `l`, in the order of R77's table. -/
def checkLine (l : Line) (s : State) : State :=
  let v := l.view.toNat
  if viewCount s ≤ v then emit .pyroBadView (subj v) (encNat l.seq.toNat) (encNat (viewCount s)) s
  else if (s.view.views.get v).remembered = some l.seq then emit .pyroDuplicate (subj v) (encNat l.seq.toNat) 0 s
  else if l.fault then emit .pyroFault (subj v) (encNat l.seq.toNat) 0 s
  else acceptLine l s

/-- LINE_TAKE (R77). -/
def execLineTake (s : State) : Host.Outcome State Fault Refusal :=
  match s.life.phase, s.view.inHand, s.view.queue with
  | .run, none, l :: rest => .next (checkLine l { s with view := { s.view with queue := rest } })
  | _, _, _ => .next s

/-! ### Spots (R80 to R83) -/

/-- A pixel is valid within 1..16,000 (R80). -/
def pixelValid (p : Nat) : Bool := decide (1 ≤ p) && decide (p ≤ 16000)

/-- The valid pixels of a span's run, from its first pixel to the smaller of its last pixel and the pixel count less
one (R81). -/
def runPixels (l : Line) (sp : Span) : List Nat :=
  ((List.range 64).filter fun p => decide (sp.first ≤ p) && decide (p ≤ sp.last) && decide (p < l.count)
    && pixelValid (l.pixels.get p)).map l.pixels.get

/-- The span's brightness: the largest valid pixel of its run, absent when there is none (R81). -/
def brightness (l : Line) (sp : Span) : Option Nat :=
  match runPixels l sp with
  | [] => none
  | p :: ps => some (ps.foldl max p)

/-- The spot that brightness `b` gives under correction `c` at time `t` (R81, R82). -/
def spotOf (b : Nat) (c : Int) (t : W32) : Spot :=
  let sum := (b : Int) + c
  ⟨satTemp sum, b, decide (satTemp sum ≠ sum), t⟩

/-- The spot of a span's cell after the completion of the line (R82). -/
def writeSpot (job : LineJob) (sp : Span) (s : State) : State :=
  match brightness job.line sp with
  | some b => withSpots (s.view.spots.set sp.cell (some (spotOf b job.correction (now s)))) s
  | none => s

/-- The completion of the line in hand: the spots of all the view's spans, in span order (R82). -/
def completeLine (job : LineJob) (s : State) : State :=
  (s.view.views.get job.line.view.toNat).spans.foldl (fun s sp => writeSpot job sp s)
    { s with view := { s.view with inHand := none } }

/-- LINE_COMPLETION (R82). -/
def execLineCompletion (s : State) : Host.Outcome State Fault Refusal :=
  match s.view.inHand with
  | some job => .next (completeLine job s)
  | none => .next s

/-- A spot's age in milliseconds (R83). -/
def spotAge (sp : Spot) (clock : W32) : Nat := elapsed clock sp.time

/-- SPOT_RETIREMENT (R83): a present spot whose age has reached one hour is made absent. -/
def execSpotRetirement (c : Fin 512) (s : State) : Host.Outcome State Fault Refusal :=
  match s.view.spots.get c.val with
  | some sp => if Config.hourMs ≤ spotAge sp (now s) then .next (withSpots (s.view.spots.set c.val none) s) else .next s
  | none => .next s

/-! ### Pairings and calibration (R84 to R87) -/

/-- The pairings of the cells that a view's spans name, in span order (R86, R87). -/
def viewPairings (s : State) (v : Nat) : List Pairing :=
  (s.view.views.get v).spans.filterMap fun sp => s.view.pairings.get sp.cell

/-- The correction that pairings give: q(S, n) saturated to −1000..+1000 (R87). -/
def calibration (ps : List Pairing) : Int :=
  saturate (-1000) 1000 (q (ps.map fun p => p.tc - p.brightness).sum ps.length)

/-- CALIBRATE VIEW of a view that passed its checks, with its event (R87). -/
def calibrate (v : Nat) (s : State) : State :=
  let entry := s.view.views.get v
  let c := calibration (viewPairings s v)
  emit .pyroCalibrated (subj v) (encInt entry.correction) (encInt c)
    (withViews (s.view.views.set v { entry with correction := c }) s)

/-! ### Loads (R89, R90) -/

/-- The View Unit at the acceptance of a reload (R89). -/
def viewPause (s : State) : State :=
  { s with view := { s.view with slots := Table.fill 4 (Slot.empty 33), queue := [], inHand := none } }

/-- A view's entry at the end of a load with result OK; views at or above the new count hold no spans (R90). DESIGN CHOICE
(log entry 10): such a view's correction is 0 as cleared (R88), so that none of CALIBRATE VIEW outlives the load. -/
def freshView (below : Bool) (v : ViewEntry) : ViewEntry :=
  { correction := if below then v.correction else 0, spans := if below then v.spans else [], remembered := none,
    accepted := 0 }

/-- The View Unit at the end of a load with result OK (R90). -/
def viewLoadOk (s : State) : State :=
  let views := s.view.views.mapIdx fun i v => freshView (decide (i < viewCount s)) v
  { s with view := { s.view with views := views, spots := Table.fill 512 none, pairings := Table.fill 512 none } }

end Sys2Proof.Machine
end

