-- ==== Sys2Proof/Machine/MapUnit.lean ====
section
/-! DEFINITION. The Map Engine (spec 06): refresh timers and queue, image and commit, pass modes, freezing, loads; and
the meanings of its commands. -/

namespace Sys2Proof.Machine

/-- The configured pass count. -/
def passCount (s : State) : Nat := s.life.params.passCount

/-- The pass with this index. -/
def passAt (s : State) (p : Nat) : Pass := s.map.passes.get p

/-- Replace a pass state. -/
def setPass (p : Nat) (x : Pass) (s : State) : State := withPasses (s.map.passes.set p x) s

/-- The pass stands in the refresh queue: its queued flag (R93). -/
def passQueued (s : State) (p : Nat) : Bool := s.map.queue.contains p

/-- A recompute of the pass is in flight: its in-flight flag (R93). -/
def passInFlight (s : State) (p : Nat) : Bool :=
  match s.map.work with
  | some w => decide (w.pass = p)
  | none => false

/-- The pass's recompute in flight carries the discard mark (R93). -/
def passDiscard (s : State) (p : Nat) : Bool :=
  match s.map.work with
  | some w => decide (w.pass = p) && w.discard
  | none => false

/-- The cell belongs to the pass: one of its positions 0 to cell count − 1 (spec 06). -/
def ofPass (p count c : Nat) : Bool := decide (passOf c = p) && decide (posOf c < count)

/-! ### The refresh queue (R95, R96) -/

/-- A request to append a pass (R95). -/
def appendPass (p : Nat) (s : State) : State :=
  if passQueued s p then s
  else if (passAt s p).frozen then s
  else if (passAt s p).mode = .oos then s
  else withQueue (s.map.queue ++ [p]) s

/-- Requests to append several passes, in the order given (R96). -/
def appendPasses (ps : List Nat) (s : State) : State := ps.foldl (fun s p => appendPass p s) s

/-- A pass leaves the refresh queue from any place (R95). -/
def removeQueued (p : Nat) (s : State) : State := withQueue (s.map.queue.erase p) s

/-! ### Timers and ages (R93, R94) -/

/-- The refresh timer of a pass started with its interval (R94). -/
def refreshTimer (s : State) (cfg : PassCfg) : Timer := startTimer s cfg.refreshMs

/-- REFRESH_TIMER_EXPIRY (R94), when the timer is due. -/
def execRefreshTimerExpiry (p : Fin 8) (s : State) : Host.Outcome State Fault Refusal :=
  let x := passAt s p.val
  if timerDue x.timer (now s) then
    .next (appendPass p.val (setPass p.val { x with timer := some (refreshTimer s x.cfg) } s))
  else .next s

/-- COMMIT_AGE_ADVANCE (R93), when a further whole second has passed since the last one counted. -/
def execCommitAgeAdvance (p : Fin 8) (s : State) : Host.Outcome State Fault Refusal :=
  let x := passAt s p.val
  match x.commitAge with
  | some age =>
    if 1000 ≤ elapsed (now s) x.ageRef then
      .next (setPass p.val { x with commitAge := some (satAdd 65535 age 1), ageRef := x.ageRef + 1000 } s)
    else .next s
  | none => .next s

/-! ### The image (R97, R98) -/

/-- What the image holds of a channel (R98): a supplied temperature only in GOOD and SUSPECT (R62). -/
def chanImage (s : State) (c : Nat) : ChanImage :=
  let ch := s.conv.channels.get c
  let supplied := match ch.quality with
    | .good => ch.supplied
    | .suspect => ch.supplied
    | .unused => none
    | .nodata => none
    | .failed => none
    | .stale => none
  ⟨ch.quality, supplied, ch.clamped⟩

/-- What the image holds of a spot: fresh when its age is no more than the pass's pyrometer max age (R98). -/
def spotImage (clock : W32) (maxAgeS : Nat) (sp : Spot) : SpotImage :=
  ⟨sp.value, sp.brightness, sp.clamped, spotAge sp clock, decide (spotAge sp clock ≤ maxAgeS * 1000)⟩

/-- The image of one cell (R98). -/
def cellImage (s : State) (maxAgeS c : Nat) : CellImage :=
  let cfg := (s.map.cells.get c).cfg
  ⟨cfg.chanA.map (chanImage s), cfg.chanB.map (chanImage s), (s.view.spots.get c).map (spotImage (now s) maxAgeS)⟩

/-- The image of a pass, by position (R98). -/
def imageOf (s : State) (p : Nat) : List CellImage :=
  let cfg := (passAt s p).cfg
  (List.range cfg.cellCount).map fun pos => cellImage s cfg.maxAgeS (cellAt p pos)

/-- RECOMPUTE_START (R97). -/
def execRecomputeStart (s : State) : Host.Outcome State Fault Refusal :=
  match s.life.phase, s.map.work, s.map.queue with
  | .run, none, p :: rest => .next (withWork (some ⟨p, imageOf s p, false⟩) (withQueue rest s))
  | _, _, _ => .next s

/-! ### The commit (R99) -/

/-- The cells of a pass after its commit (R99). -/
def commitCells (s : State) (w : Work) : Table Cell 512 :=
  let cfg := (passAt s w.pass).cfg
  s.map.cells.mapIdx fun c old =>
    if ofPass w.pass cfg.cellCount c then
      commitCell (now s) (w.image.getD (posOf c) default) (fuseAt cfg (now s) w.image (posOf c) old) old
    else old

/-- The pairings after the commit of a pass (R84). -/
def commitPairings (s : State) (w : Work) : Table (Option Pairing) 512 :=
  let cfg := (passAt s w.pass).cfg
  s.view.pairings.mapIdx fun c old =>
    if ofPass w.pass cfg.cellCount c then pairingOf cfg (now s) (w.image.getD (posOf c) default) else old

/-- A pass state after its commit: generation, last commit time, commit age and refresh timer (R93, R94, R99). -/
def commitPassState (s : State) (x : Pass) : Pass :=
  { x with
    gen := x.gen + 1
    lastCommit := some (now s)
    commitAge := some 0
    ageRef := now s
    timer := some (refreshTimer s x.cfg) }

/-- The commit of a recompute (R99): cells, pass state, pairings, the Alarm Unit's work, the hot list. -/
def commitPass (w : Work) (s : State) : State :=
  let x := passAt s w.pass
  let written := withPairings (commitPairings s w)
    (setPass w.pass (commitPassState s x) (withCells (commitCells s w) s))
  rebuildHot (alarmCommit w.pass (exposureCredit x (now s)) written)

/-- RECOMPUTE_COMPLETION (R99, R101): the workspace is emptied; without the discard mark the pass commits. -/
def execRecomputeCompletion (s : State) : Host.Outcome State Fault Refusal :=
  match s.map.work with
  | some w => .next (if w.discard then withWork none s else commitPass w (withWork none s))
  | none => .next s

/-- LAST_DIRECT_TIME_RETIREMENT (R105): older than one hour. -/
def execLastDirectTimeRetirement (c : Fin 512) (s : State) : Host.Outcome State Fault Refusal :=
  let cell := s.map.cells.get c.val
  match cell.lastDirect with
  | some t =>
    if Config.hourMs < elapsed (now s) t then
      .next (withCells (s.map.cells.set c.val { cell with lastDirect := none }) s)
    else .next s
  | none => .next s

/-- RATE_REFERENCE_RETIREMENT (R127): at one hour. -/
def execRateReferenceRetirement (c : Fin 512) (s : State) : Host.Outcome State Fault Refusal :=
  let r := s.alarm.recs.get c.val
  match r.ref with
  | some ref =>
    if Config.hourMs ≤ elapsed (now s) ref.time then
      .next (withRecs (s.alarm.recs.set c.val { r with ref := none }) s)
    else .next s
  | none => .next s

/-! ### Pass modes (R108 to R112) -/

/-- A recompute of the pass in flight is abandoned (R101). -/
def abandon (p : Nat) (s : State) : State := if passInFlight s p then withWork none s else s

/-- A cell record as OOS or VOID (R110, R111, R118). -/
def emptiedCell (src : Source) (c : Cell) : Cell :=
  { cfg := c.cfg, temp := none, source := src, disagree := false, clamped := false, lastDirect := none, tcComp := none,
    snap := none }

/-- The cells of a pass all given a source without a temperature (R110, R111). -/
def emptyCells (p : Nat) (src : Source) (s : State) : State :=
  let count := (passAt s p).cfg.cellCount
  withCells (s.map.cells.mapIdx fun c cell => if ofPass p count c then emptiedCell src cell else cell) s

/-- The generation of a pass advances (R93). -/
def advanceGen (p : Nat) (s : State) : State :=
  let x := passAt s p
  setPass p { x with gen := x.gen + 1 } s

/-- The mode of a pass changed, nothing else. -/
def putMode (p : Nat) (m : Mode) (s : State) : State := setPass p { passAt s p with mode := m } s

/-- The pairings of a pass's cells removed (R85). -/
def dropPairings (p : Nat) (s : State) : State :=
  let count := (passAt s p).cfg.cellCount
  withPairings (s.view.pairings.mapIdx fun c old => if ofPass p count c then none else old) s

/-- Entry to OOS (R110, R135, R152). -/
def enterOos (p : Nat) (s : State) : State :=
  let off := removeQueued p (abandon p (putMode p .oos s))
  rebuildHot (advanceGen p (alarmOosEntry p (dropPairings p (emptyCells p .oos off))))

/-- Exit from OOS to `m` (R111, R152, R96). -/
def exitOos (p : Nat) (m : Mode) (s : State) : State :=
  appendPass p (rebuildHot (advanceGen p (alarmOosExit p (emptyCells p .void (putMode p m s)))))

/-- A change between NORMAL, SPALL and DECOKE (R109, R129): a recompute in flight is abandoned and the pass appended. -/
def switchMode (p : Nat) (m : Mode) (s : State) : State :=
  let inFlight := passInFlight s p
  let changed := abandon p (putMode p m s)
  let inhibited := if m = .spall ∨ m = .decoke then alarmInhibit p changed else changed
  if inFlight then appendPass p inhibited else inhibited

/-- SET MODE that passed its checks (R108): its present mode has no effect. -/
def changeMode (p : Nat) (m : Mode) (s : State) : State :=
  if (passAt s p).mode = m then s
  else if m = .oos then enterOos p s
  else if (passAt s p).mode = .oos then exitOos p m s
  else switchMode p m s

/-! ### Freezing and forced refresh (R113 to R116) -/

/-- FREEZE of one pass; a pass already frozen is left as it is (R113). -/
def freezePass (p : Nat) (s : State) : State :=
  if (passAt s p).frozen then s
  else
    let removed := removeQueued p (setPass p { passAt s p with frozen := true } s)
    match s.map.work with
    | some w => if w.pass = p then withWork (some { w with discard := true }) removed else removed
    | none => removed

/-- FREEZE of several passes, ascending (R113). -/
def freezePasses (ps : List Nat) (s : State) : State := ps.foldl (fun s p => freezePass p s) s

/-- THAW of one pass; a pass that is not frozen is left as it is (R114). -/
def thawPass (p : Nat) (s : State) : State :=
  if (passAt s p).frozen then appendPass p (setPass p { passAt s p with frozen := false } s) else s

/-- THAW of several passes, ascending (R114). -/
def thawPasses (ps : List Nat) (s : State) : State := ps.foldl (fun s p => thawPass p s) s

/-! ### Loads (R118 to R120) -/

/-- A pass state at the end of a load with result OK (R118). -/
def loadPass (s : State) (p : Nat) (x : Pass) : Pass :=
  if p < passCount s then
    { x with
      mode := x.cfg.initialMode
      frozen := false
      gen := x.gen + 1
      timer := some (refreshTimer s x.cfg) }
  else { x with mode := .normal, timer := none }

/-- A cell as HELD: its temperature and CLAMPED flag kept (R118, R120). -/
def heldCell (lastDirect : Option W32) (c : Cell) : Cell :=
  { c with source := .held, disagree := false, lastDirect := lastDirect, tcComp := none, snap := none }

/-- A cell at the end of a load with result OK (R118); `x` is its pass as the load has left it. -/
def loadCell (s : State) (x : Pass) (c : Nat) (cell : Cell) : Cell :=
  if passOf c < passCount s ∧ posOf c < x.cfg.cellCount then
    if x.mode = .oos then emptiedCell .oos cell
    else if cell.temp.isSome then heldCell (some (now s)) cell
    else emptiedCell .void cell
  else emptiedCell .void cell

/-- The Map Engine at the end of a load with result OK, before the passes are appended (R118): a recompute still in
flight would be abandoned with its discard mark. -/
def mapLoadOk (s : State) : State :=
  let passes := s.map.passes.mapIdx (loadPass s)
  let cells := s.map.cells.mapIdx fun c cell => loadCell s (passes.get (passOf c)) c cell
  withWork none (withCells cells (withPasses passes s))

/-- The Map Engine at the acceptance of a reload (R119). -/
def mapPause (s : State) : State :=
  withWork none (withQueue [] (withPasses (s.map.passes.mapIdx fun _ x => { x with timer := none }) s))

/-- The cell count of a pass under the record extent, 0 beyond its pass count (R7, R120). -/
def extentCells (e : Extent) (p : Nat) : Nat := if p < e.passCount then e.cellCounts.getD p 0 else 0

/-- A cell at the end of a reload whose result is not OK (R120). DESIGN CHOICE (log entry 35): a cell without a temperature,
which becomes VOID, keeps its last direct time as it was. -/
def failCell (e : Extent) (c : Nat) (cell : Cell) : Cell :=
  if posOf c < extentCells e (passOf c) then
    if cell.temp.isSome then heldCell cell.lastDirect cell
    else { cell with source := .void, disagree := false, clamped := false, tcComp := none, snap := none }
  else cell

/-- The Map Engine at the end of a reload whose result is not OK (R120). -/
def mapLoadFail (s : State) : State :=
  let e := s.path.extent
  let passes := s.map.passes.mapIdx fun p x => if p < e.passCount then { x with gen := x.gen + 1 } else x
  withCells (s.map.cells.mapIdx (failCell e)) (withPasses passes s)

end Sys2Proof.Machine
end

