-- ==== Sys2Proof/Machine/Records.lean ====
section
/-! DEFINITION. The records of the map window (R7, R72, R91, R107, R121, R147, R157, R182 and the layouts of spec 10),
assembled from the owning blocks' state. -/

namespace Sys2Proof.Machine

/-- The words of a cell record (spec 10, Cell record). -/
def cellRecord (s : State) (c : Nat) : List W32 :=
  let cell := s.map.cells.get c
  let r := s.alarm.recs.get c
  let gen := (passAt s (passOf c)).gen.toNat
  let spot := s.view.spots.get c
  let age := match spot with
    | some sp => min (spotAge sp (now s) / 1000) 255
    | none => 0
  [ mkWord [place gen 0 8, place cell.source.code 8 8, place (encOpt16 cell.temp) 16 16],
    encNat r.exposureS,
    mkWord [place (encOpt16 r.margin) 0 16, place (encOpt16 r.rate) 16 16],
    mkWord [place age 0 8, place r.level.code 8 2, place r.peak.code 10 2, place (flag cell.disagree) 12 1,
      place (flag cell.clamped) 13 1, place (flag spot.isSome) 14 1, place (flag (s.view.pairings.get c).isSome) 15 1,
      place (flag r.rateAlarm) 16 1, place (flag r.levelUnack) 17 1, place (flag r.rateUnack) 18 1, place gen 24 8] ]

/-- The words of a channel record (R72, spec 10). -/
def channelRecord (s : State) (c : Nat) : List W32 :=
  let ch := s.conv.channels.get c
  let run := newestRun ch.history
  [ mkWord [place ch.quality.code 0 8, place ch.sticky.flags 8 8, place (encOpt16 ch.supplied) 16 16],
    mkWord [place (encOpt16 ch.lastConv) 0 16, place (enc16 ch.lastRaw) 16 16],
    mkWord [place (enc16 ch.lastCj) 0 16, place run.1 16 4, place (flag run.2) 20 1, place (flag ch.clamped) 21 1,
      place (flag ch.lastVerdict.isSome) 22 1],
    encTime ch.lastVerdict ]

/-- The words of a view record (R91, spec 10). -/
def viewRecord (s : State) (v : Nat) : List W32 :=
  let x := s.view.views.get v
  let seq := match x.remembered with
    | some b => b.toNat
    | none => 0
  [ mkWord [place (enc16 x.correction) 0 16, place seq 16 8, place (flag x.remembered.isSome) 24 1],
    mkWord [place x.accepted.toNat 0 16, place x.spans.length 16 5, place (viewPairings s v).length 24 5] ]

/-- The words of a hot list entry; a rank beyond the list reads as zero (R157). -/
def hotEntryWords : Option HotEntry → List W32
  | some e => [mkWord [place e.cell 0 16, place (enc16 e.margin) 16 16], mkWord [place e.source.code 0 8, place e.level.code 8 8]]
  | none => [0, 0]

/-- The 32 words of the hot list block (R157). -/
def hotBlock (s : State) : List W32 := (List.range 16).flatMap fun n => hotEntryWords s.hot.list[n]?

/-- The cells of a pass within the record extent. -/
def headerCells (s : State) (p : Nat) : List Nat :=
  (List.range (extentCells s.path.extent p)).map (cellAt p)

/-- The number of a pass's cells with a source (R107). -/
def countSource (s : State) (p : Nat) (src : Source) : Nat :=
  ((headerCells s p).filter fun c => decide ((s.map.cells.get c).source = src)).length

/-- The number of a pass's cells with DISAGREE set (R107). -/
def countDisagree (s : State) (p : Nat) : Nat :=
  ((headerCells s p).filter fun c => (s.map.cells.get c).disagree).length

/-- The better of two worst-margin candidates: the smaller margin, the first on a tie (R107). -/
def worse (best : Option (Nat × Int)) (c : Nat) (m : Option Int) : Option (Nat × Int) :=
  match best, m with
  | none, some x => some (c, x)
  | some b, some x => if x < b.2 then some (c, x) else some b
  | b, none => b

/-- The worst-margin cell of a pass with its margin (R107). -/
def worstMargin (s : State) (p : Nat) : Option (Nat × Int) :=
  (headerCells s p).foldl (fun best c => worse best c (s.alarm.recs.get c).margin) none

/-- The words of a pass header (R107, spec 10). -/
def passHeader (s : State) (p : Nat) : List W32 :=
  let x := passAt s p
  let worst := worstMargin s p
  [ mkWord [place x.gen.toNat 0 8, place x.mode.code 8 2, place (flag x.frozen) 10 1, place (flag (passQueued s p)) 11 1,
      place (flag (passInFlight s p)) 12 1, place (flag x.lastCommit.isSome) 13 1],
    encTime x.lastCommit,
    (match x.commitAge with | some a => encNat a | none => absent32),
    mkWord [place (countSource s p .void) 0 8, place (countSource s p .tc) 8 8, place (countSource s p .fused) 16 8,
      place (countSource s p .pyro) 24 8],
    mkWord [place (countSource s p .interp) 0 8, place (countSource s p .held) 8 8, place (countSource s p .oos) 16 8,
      place (countDisagree s p) 24 8],
    mkWord [place (match worst with | some w => w.1 | none => 0x8000) 0 16,
      place (match worst with | some w => enc16 w.2 | none => 0x8000) 16 16],
    0,
    mkWord [place x.gen.toNat 24 8] ]

/-- The silent scanners as eight flags (R46, R182). -/
def silentFlags (s : State) : Nat :=
  ((s.intake.scanners.entries).map fun e => flag e.2.silent * 2 ^ e.1).sum

/-- The words of the status record (R182). -/
def statusRecord (s : State) : List W32 :=
  let p := s.life.params
  let alarms := almCells s
  [ mkWord [place s.life.phase.code 0 8, place s.life.lastResult.code 8 8, place (flag s.life.lock) 16 1,
      place p.threshold.code 17 2, place (flag p.routing) 19 1, place (flag s.alarm.alm) 20 1,
      place (flag s.intake.takeOk) 21 1, place (flag s.ev.evt) 22 1, place (flag s.ev.pathError) 23 1,
      place (silentFlags s) 24 8],
    s.life.clock,
    mkWord [place s.intake.queue.length 0 8, place s.view.queue.length 8 8, place s.map.queue.length 16 8,
      place (match s.map.work with | some w => w.pass | none => 0xFF) 24 8],
    mkWord [place alarms.length 0 16, place (match alarms.head? with | some c => c | none => 0x8000) 16 16],
    mkWord [place s.hot.eligible 0 16, place s.hot.list.length 16 8],
    mkWord [place s.cmd.head 0 8, place s.cmd.tail 8 8, place s.cmd.engine.code 16 8,
      place (match s.cmd.urgent with | some u => u.code | none => 0) 24 8],
    mkWord [place s.ev.producer 0 8, place s.ev.consumer 8 8, place s.ev.lost 16 16],
    mkWord [place (flag s.exp.job.isSome) 0 1, place s.exp.outcome.code 8 8],
    encNat s.exp.bytes,
    0, 0, 0, 0, 0, 0,
    s.life.clock ]

/-- The record lies within the record extent (R7). -/
def inExtent (e : Extent) : RecordId → Bool
  | .status => true
  | .hotList => true
  | .passHeader p => decide (p < e.passCount)
  | .viewRec v => decide (v < e.viewCount)
  | .channelRec c => decide (c / 16 < e.scannerCount)
  | .cellRec c => decide (posOf c < extentCells e (passOf c))

/-- The size of a record in words (R7). -/
def recordSize : RecordId → Nat
  | .status => 16
  | .passHeader _ => 8
  | .hotList => 32
  | .viewRec _ => 2
  | .channelRec _ => 4
  | .cellRec _ => 4

/-- The words of a record as its owning blocks hold it; zeros outside the record extent (R7). -/
def liveRecord (s : State) (r : RecordId) : List W32 :=
  if inExtent s.path.extent r then
    match r with
    | .status => statusRecord s
    | .passHeader p => passHeader s p
    | .hotList => hotBlock s
    | .viewRec v => viewRecord s v
    | .channelRec c => channelRecord s c
    | .cellRec c => cellRecord s c
  else List.replicate (recordSize r) 0

/-- The record that a map-window offset falls in, with the word within it; none in a zero region (R7). -/
def recordAt (off : Nat) : Option (RecordId × Nat) :=
  if off < 0x40 then some (.status, off / 4)
  else if off < 0x140 then some (.passHeader ((off - 0x40) / 32), (off - 0x40) % 32 / 4)
  else if off < 0x1C0 then some (.hotList, (off - 0x140) / 4)
  else if off < 0x200 then none
  else if off < 0x280 then some (.viewRec ((off - 0x200) / 8), (off - 0x200) % 8 / 4)
  else if off < 0x800 then none
  else if off < 0x1000 then some (.channelRec ((off - 0x800) / 16), (off - 0x800) % 16 / 4)
  else if off < 0x3000 then some (.cellRec ((off - 0x1000) / 16), (off - 0x1000) % 16 / 4)
  else none

end Sys2Proof.Machine
end

