-- ==== Sys2Proof/Machine/ExportUnit.lean ====
section
/-! DEFINITION. The Export Engine (R173 to R177, R184): captures, the region list, stream writes, outcomes; and the
meanings of its completions. -/

namespace Sys2Proof.Machine

/-- Replace the export in flight. -/
def withJob (j : ExportJob) (s : State) : State := { s with exp := { s.exp with job := some j } }

/-! ### Captures (R175, R184) -/

/-- The header piece (R184). -/
def headerPiece (start : W32) (mask : Byte) (hotFlag : Bool) : List W32 :=
  [start, mkWord [place mask.toNat 0 8, place (flag hotFlag) 8 8], 0, 0, 0, 0, 0, 0]

/-- The cell piece: the cell record, then TC component, spot snapshot and last direct time (R184). -/
def cellPiece (s : State) (c : Nat) : List W32 :=
  let cell := s.map.cells.get c
  let bright := match cell.snap with
    | some x => enc16 x.brightness
    | none => 0
  let fresh := match cell.snap with
    | some x => x.fresh
    | none => false
  let age := match cell.snap with
    | some x => x.age
    | none => 0
  liveRecord s (.cellRec c) ++
    [ mkWord [place (encOpt16 cell.tcComp) 0 16, place (encOpt16 (cell.snap.map Snapshot.value)) 16 16],
      mkWord [place bright 0 16, place (flag cell.snap.isSome) 16 1, place (flag fresh) 17 1,
        place (flag cell.lastDirect.isSome) 18 1],
      encNat age,
      encTime cell.lastDirect ]

/-- A pass turn: the pass header as the map window serves it, then one cell piece per position (R175). -/
def passTurn (s : State) (p : Nat) : List W32 :=
  liveRecord s (.passHeader p) ++
    (List.range (passAt s p).cfg.cellCount).flatMap fun pos => cellPiece s (cellAt p pos)

/-- Four bytes as a word, the first at the lowest address. -/
def packBytes (b0 b1 b2 b3 : Byte) : W32 :=
  mkWord [place b0.toNat 0 8, place b1.toNat 8 8, place b2.toNat 16 8, place b3.toNat 24 8]

/-- The trailer piece (R184). -/
def trailerPiece (gens : Table Byte 8) (stop : W32) : List W32 :=
  [ packBytes (gens.get 0) (gens.get 1) (gens.get 2) (gens.get 3),
    packBytes (gens.get 4) (gens.get 5) (gens.get 6) (gens.get 7), stop, 0, 0, 0, 0, 0 ]

/-- The turns after the header, in their order (R175). -/
def turnsOf (mask : Byte) (hotFlag : Bool) : List Turn :=
  (maskPasses mask).map Turn.pass ++ (if hotFlag then [.hotList] else []) ++ [.trailer]

/-- The next turn captured at the moment it begins (R175); none when the stream has ended. -/
def captureTurn (s : State) (j : ExportJob) : Option ExportJob :=
  match j.turns with
  | [] => none
  | .pass p :: rest => some { j with turns := rest, buf := passTurn s p, gens := j.gens.set p (passAt s p).gen }
  | .hotList :: rest => some { j with turns := rest, buf := liveRecord s .hotList }
  | .trailer :: rest => some { j with turns := rest, buf := trailerPiece j.gens (now s) }

/-! ### Ends (R176, R177) -/

/-- An export ends with one outcome: EXPORT/END is handed over, a waiting request is withdrawn (R176, R177). -/
def endExport (o : ExportOutcome) (s : State) : State :=
  match s.exp.job with
  | none => s
  | some j =>
    emit .exportEnd (subj j.reached) (encNat o.code) (encNat s.exp.bytes)
      (setRequests .exportEngine [] { s with exp := { s.exp with job := none, outcome := o } })

/-- ABORT EXPORT accepted, or a reload: nothing where no export is in flight (R165, R177). -/
def abortExportJob (s : State) : State := endExport .aborted s

/-! ### Regions (R174) -/

/-- The bytes of a region whose word 1 is `w`: a length of 0 means 65,536 (spec 10, Region list). -/
def regionLength (w : W32) : Nat := if bits w 0 16 = 0 then 65536 else bits w 0 16

/-- An entry is valid: address and length are multiples of 16 (R174). -/
def entryValid (e : W32 × W32) : Bool := decide (e.1.toNat % 16 = 0) && decide (regionLength e.2 % 16 = 0)

/-- The next stream burst, from the current region's next address (R175). -/
def postStream (r : Region) (j : ExportJob) (s : State) : State := post ⟨.stream, r.addr, j.buf.take 4⟩ s

/-- An entry is reached: its checks are made, and its region becomes the current one (R174). -/
def reachEntry (e : W32 × W32) (j : ExportJob) (s : State) : State :=
  let j' := { j with cursor := j.cursor + 1, reached := j.reached + 1 }
  if entryValid e then
    let r : Region := ⟨e.1, regionLength e.2, bit e.2 31⟩
    let j'' := { j' with region := some r, lastUsed := r.last }
    postStream r j'' (withJob j'' s)
  else endExport .listError (withJob j' s)

/-- The fetch of the pair that holds the next entry (R174). -/
def postListFetch (j : ExportJob) (s : State) : State :=
  post ⟨.listFetch, j.listAddr + BitVec.ofNat 32 (16 * (j.cursor / 2)), []⟩ s

/-- What a region needed after the last usable one ends the export with (R174); both rules hold after an entry 31 that
is LAST, and the outcome is then the free value of log entry 17. -/
def noMoreRegions (j : ExportJob) : Option ExportOutcome :=
  if Config.lastListEntry < j.cursor then
    if j.lastUsed then some (if Config.lastEntryTruncates then .truncated else .listError) else some .listError
  else if j.lastUsed then some .truncated
  else none

/-- The engine needs a region (R174). -/
def needRegion (j : ExportJob) (s : State) : State :=
  match noMoreRegions j with
  | some o => endExport o (withJob j s)
  | none =>
    match j.held with
    | some e => reachEntry e { j with held := none } s
    | none => postListFetch j (withJob j s)

/-! ### Start and completions (R173 to R176) -/

/-- EXPORT that passed its checks (R173): the header turn is captured and a region is needed. -/
def beginExport (mask : Byte) (hotFlag : Bool) (list : W32) (s : State) : State :=
  let j : ExportJob :=
    { mask := mask, hotFlag := hotFlag, listAddr := list, cursor := 0, reached := 0, held := none, region := none,
      lastUsed := false, turns := turnsOf mask hotFlag, buf := headerPiece (now s) mask hotFlag, start := now s,
      gens := Table.fill 8 0 }
  needRegion j { s with exp := { s.exp with job := some j, bytes := 0 } }

/-- A region-list fetch has completed (R174): the first entry of the pair is reached, the second is held. -/
def listFetched (reply : FetchReply) (s : State) : State :=
  match s.exp.job with
  | none => s
  | some j =>
    match reply with
    | .error => endExport .busError s
    | .words a0 l0 a1 l1 => reachEntry (a0, l0) { j with held := some (a1, l1) } s

/-- LIST_FETCH_COMPLETE (R174). -/
def execListFetchComplete (reply : FetchReply) (s : State) : Host.Outcome State Fault Refusal :=
  .next (complete (isKind .listFetch) (fun _ s => listFetched reply s) s)

/-- The stream goes on after a burst: the next burst into the current region, or a region is needed (R174, R175). -/
def continueStream (j : ExportJob) (s : State) : State :=
  match j.region with
  | some r => if r.left = 0 then needRegion { j with region := none } s else postStream r j (withJob j s)
  | none => needRegion j s

/-- The outcome when the trailer's last burst has completed (R176). -/
def doneOutcome (j : ExportJob) : ExportOutcome :=
  match j.region with
  | some r => if r.left = 0 ∧ r.last = true then .doneExact else .doneShort
  | none => .doneShort

/-- A stream burst has been written: the region and the capture buffer move on by 16 bytes (R175). -/
def advanceStream (j : ExportJob) : ExportJob :=
  { j with region := j.region.map fun r => { r with addr := r.addr + 16, left := r.left - 16 }, buf := j.buf.drop 4 }

/-- A stream burst has completed (R175, R176). With no export in flight, an abort came while the burst was on the port:
it is counted if it completed without error (R177). -/
def streamWritten (error : Bool) (s : State) : State :=
  match s.exp.job with
  | none => if error then s else { s with exp := { s.exp with bytes := s.exp.bytes + 16 } }
  | some j =>
    if error then endExport .busError s
    else
      let s' := { s with exp := { s.exp with bytes := s.exp.bytes + 16 } }
      let j' := advanceStream j
      match j'.buf with
      | _ :: _ => continueStream j' s'
      | [] =>
        match captureTurn s' j' with
        | some j'' => continueStream j'' s'
        | none => endExport (doneOutcome j') (withJob j' s')

/-- STREAM_WRITE_COMPLETE (R175). -/
def execStreamWriteComplete (error : Bool) (s : State) : Host.Outcome State Fault Refusal :=
  .next (complete (isKind .stream) (fun _ s => streamWritten error s) s)

end Sys2Proof.Machine
end

