-- ==== Sys2Proof/Machine/CommandUnit.lean ====
section
/-! DEFINITION. The Command Engine (R159 to R166): the ring indices, fetches and head-word writes, the urgent word and
its acceptance; and the meanings of the commands that are not ring records. -/

namespace Sys2Proof.Machine

/-- Replace the Command Engine's state. -/
def withCmd (x : Cmd) (s : State) : State := { s with cmd := x }

/-- The command ring's base and size in force (R159). -/
def cmdBase (s : State) : W32 := s.life.params.cmdBase
def cmdSize (s : State) : Nat := s.life.params.cmdSize

/-- The write of the head index to the head word (R161, R180). -/
def headWrite (s : State) : BridgeReq := ⟨.headWord, cmdBase s + BitVec.ofNat 32 Config.headOffset, [encNat s.cmd.head]⟩

/-- The clearing write of 0 to the urgent word (R165). -/
def clearWrite (s : State) : BridgeReq := ⟨.urgentClear, cmdBase s + BitVec.ofNat 32 Config.urgentOffset, [0]⟩

/-- The fetch of the record at the head index (R161). -/
def ringFetch (s : State) : BridgeReq := ⟨.ringFetch, cmdBase s + BitVec.ofNat 32 (16 * s.cmd.head), []⟩

/-- In READY with entries in the ring, no urgent code pending and no write outstanding, the engine enters BUSY and posts
a fetch (R161, R165). -/
def fetchIfDue (s : State) : State :=
  if s.cmd.engine = .ready ∧ s.cmd.head ≠ s.cmd.tail ∧ s.cmd.urgent = none ∧ outstanding s .commandEngine = false then
    post (ringFetch s) (withCmd { s.cmd with engine := .busy } s)
  else s

/-! ### Urgent codes (R164, R165) -/

/-- Every pass below the configured pass count, ascending (R116). -/
def allPasses (s : State) : List Nat := List.range (passCount s)

/-- An accepted urgent code carried out; in HALT it has no effect (R116, R165). -/
def carryOutUrgent (u : Urgent) (s : State) : State :=
  match s.life.phase with
  | .run =>
    match u with
    | .freezeAll => freezePasses (allPasses s) s
    | .thawAll => thawPasses (allPasses s) s
    | .abortExport => abortExportJob s
  | .halt => s
  | .load => s
  | .clear => s
  | .sample => s
  | .idle => s

/-- The pending code is accepted: taken out of the register, the note cleared, carried out, and the clearing write
posted (R165). In LOAD it is held pending (R159, R164). -/
def acceptUrgent (s : State) : State :=
  if s.life.phase = .load then s
  else match s.cmd.urgent with
    | none => s
    | some u => let t := carryOutUrgent u (withCmd { s.cmd with urgent := none, note := false } s); post (clearWrite t) t

/-- A clearing write is outstanding: waiting, or on the memory port (R165). -/
def clearOutstanding (s : State) : Bool :=
  s.path.cmdOut.any (fun r => decide (r.kind = .urgentClear)) ||
    (match onPort s .commandEngine with
      | some r => decide (r.kind = .urgentClear)
      | none => false)

/-- A clearing write that has not been granted is withdrawn (R165). -/
def withdrawClear (s : State) : State :=
  setRequests .commandEngine (s.path.cmdOut.filter fun r => decide (r.kind ≠ .urgentClear)) s

/-- The engine takes urgent codes at the hand-over of the write: READY and STALLED (R159). -/
def Engine.atOnce : Engine → Bool
  | .ready => true | .stalled => true | .off => false | .busy => false | .waitLoad => false

/-- A code made pending is accepted at once in READY and STALLED, unless a clearing write is outstanding (R164). -/
def acceptAtOnce (s : State) : State :=
  if s.cmd.engine.atOnce && !clearOutstanding s then acceptUrgent s else s

/-- The state the engine leaves BUSY for: READY, or WAIT_LOAD while the lifephase is LOAD (R161, R166). -/
def leaveBusy (s : State) : State :=
  if s.cmd.engine = .busy then
    withCmd { s.cmd with engine := if s.life.phase = .load then .waitLoad else .ready } s
  else s

/-- A head-word write or a clearing write has ended (R161, R165): a write posted after it follows; otherwise a pending
code is accepted, or the engine leaves BUSY and may fetch. -/
def cmdWriteEnded (s : State) : State :=
  if outstanding s .commandEngine then s
  else if s.cmd.urgent.isSome ∧ s.life.phase ≠ .load ∧ s.cmd.engine ≠ .waitLoad then acceptUrgent s
  else fetchIfDue (leaveBusy s)

/-- A host urgent write is handed over: the note is set, the register takes `reg`, a clearing write not granted yet is
withdrawn, and a pending code is accepted where the engine takes it at once (R164, R165). In BUSY a clearing write that
is withdrawn with nothing else outstanding has ended by it (R161; log entry 31). -/
def urgentWrite (reg : Option Urgent) (s : State) : State :=
  let t := withdrawClear (withCmd { s.cmd with note := true, urgent := reg } s)
  if t.cmd.engine = .busy then cmdWriteEnded t else fetchIfDue (acceptAtOnce t)

/-- A host write of a value that R164 does not name: the write is refused, the note is set and a clearing write not
granted yet is withdrawn; the register is unchanged, and a code left in it goes on waiting for the engine's write still
outstanding, or is accepted where the withdrawn one was the last (R164, R165, R166; log entry 31). -/
def urgentRefused (v : W32) (s : State) : State :=
  let told := emit .commandRefused absent16 v (encNat Reason.unknown.code) s
  cmdWriteEnded (withdrawClear (withCmd { told.cmd with note := true } told))

/-- The hand-over of any host urgent write (R164). -/
def urgentValue (v : W32) (s : State) : State :=
  if v = 0 then urgentWrite none s
  else if v = 1 then urgentWrite (some .freezeAll) s
  else if v = 2 then urgentWrite (some .thawAll) s
  else if v = 3 then urgentWrite (some .abortExport) s
  else urgentRefused v s

/-- An urgent write is watched while the command window is active (R5). -/
def whileRings (act : State → State) (s : State) : Host.Outcome State Fault Refusal :=
  match ringWindows s with
  | some _ => .next (act s)
  | none => .next s

/-- URGENT_CANCEL (R164). -/
def execUrgentCancel (s : State) : Host.Outcome State Fault Refusal := whileRings (urgentWrite none) s

/-- FREEZE_ALL (R164, R116). -/
def execFreezeAll (s : State) : Host.Outcome State Fault Refusal := whileRings (urgentWrite (some .freezeAll)) s

/-- THAW_ALL (R164, R116). -/
def execThawAll (s : State) : Host.Outcome State Fault Refusal := whileRings (urgentWrite (some .thawAll)) s

/-- ABORT_EXPORT (R164, R177). -/
def execAbortExport (s : State) : Host.Outcome State Fault Refusal := whileRings (urgentWrite (some .abortExport)) s

/-- URGENT_UNKNOWN (R164): a value that R164 names is no such command. -/
def execUrgentUnknown (v : W32) (s : State) : Host.Outcome State Fault Refusal :=
  if v.toNat < 4 then .fault .noSuchCommand else whileRings (urgentRefused v) s

/-- URGENT_ACCEPTANCE (R165): a pending code is accepted once the engine takes it and no write of its own is outstanding
(R159, R166; log entry 15). -/
def execUrgentAcceptance (s : State) : Host.Outcome State Fault Refusal :=
  if outstanding s .commandEngine then .next s else .next (acceptAtOnce s)

/-! ### The ring (R160 to R162) -/

/-- A host write to the tail word is handed over (R160): the tail moves, a stall ends, a fetch may start. -/
def tailWrite (v : W32) (s : State) : State :=
  match s.cmd.engine with
  | .off => s
  | .stalled => fetchIfDue (withCmd { s.cmd with tail := v.toNat % cmdSize s, engine := .ready } s)
  | .ready => fetchIfDue (withCmd { s.cmd with tail := v.toNat % cmdSize s } s)
  | .busy => withCmd { s.cmd with tail := v.toNat % cmdSize s } s
  | .waitLoad => withCmd { s.cmd with tail := v.toNat % cmdSize s } s

/-- TAIL_WORD_WRITE (R160): watched while the command window is active (R5). -/
def execTailWordWrite (v : W32) (s : State) : Host.Outcome State Fault Refusal := whileRings (tailWrite v) s

/-- A ring fetch has failed (R162): FETCH_ERROR, and STALLED, where a pending code is accepted, or WAIT_LOAD when the
lifephase is LOAD (R166). -/
def ringFetchFailed (s : State) : State :=
  let told := emit .commandFetchError (subj s.cmd.head) 0 0 s
  if s.life.phase = .load then withCmd { told.cmd with engine := .waitLoad } told
  else acceptAtOnce (withCmd { told.cmd with engine := .stalled } told)

/-- RING_FETCH_ERROR (R162). -/
def execRingFetchError (s : State) : Host.Outcome State Fault Refusal :=
  .next (complete (isKind .ringFetch) (fun _ s => ringFetchFailed s) s)

/-- HEAD_WORD_WRITE_COMPLETE (R161, R162): an error on it is not reported. -/
def execHeadWordWriteComplete (error : Bool) (s : State) : Host.Outcome State Fault Refusal :=
  match error with
  | true => .next (complete (isKind .headWord) (fun _ s => cmdWriteEnded s) s)
  | false => .next (complete (isKind .headWord) (fun _ s => cmdWriteEnded s) s)

/-- URGENT_CLEAR_WRITE_COMPLETE (R165): an error on it is ignored. -/
def execUrgentClearWriteComplete (error : Bool) (s : State) : Host.Outcome State Fault Refusal :=
  match error with
  | true => .next (complete (isKind .urgentClear) (fun _ s => cmdWriteEnded s) s)
  | false => .next (complete (isKind .urgentClear) (fun _ s => cmdWriteEnded s) s)

/-! ### Loads (R166) -/

/-- The Command Engine at the start of a load begun as a reload: READY and STALLED enter WAIT_LOAD, an entry in hand
ends first (R166). -/
def cmdPause (s : State) : State :=
  match s.cmd.engine with
  | .ready => withCmd { s.cmd with engine := .waitLoad } s
  | .stalled => withCmd { s.cmd with engine := .waitLoad } s
  | .waitLoad => s
  | .busy => s
  | .off => s

/-- The engine becomes READY at the end of a load with a configuration in force; an entry in hand ends first (R166). -/
def cmdWake (s : State) : State :=
  match s.cmd.engine with
  | .busy => s
  | .ready => s
  | .off => withCmd { s.cmd with engine := .ready } s
  | .stalled => withCmd { s.cmd with engine := .ready } s
  | .waitLoad => withCmd { s.cmd with engine := .ready } s

/-- A code left pending through the load is accepted at once, unless a head-word or clearing write is to end first
(R166). -/
def cmdResume (s : State) : State :=
  let woken := cmdWake s
  fetchIfDue (if outstanding woken .commandEngine then woken else acceptAtOnce woken)

/-- The Command Engine at the end of a load with result OK, the new configuration being in force; `same` when the
command ring's base and size are unchanged (R166). -/
def cmdLoadOk (same : Bool) (s : State) : State :=
  if same then cmdResume s
  else
    let zeroed := withCmd { s.cmd with head := 0, tail := 0 } s
    cmdResume (post (headWrite zeroed) zeroed)

end Sys2Proof.Machine
end

