-- ==== Sys2Proof/Machine/ConfigRecords.lean ====
section
/-! DEFINITION. The configuration records (R18 to R21, R183): their fields and their checks, record by record. -/

namespace Sys2Proof.Machine

/-- Word `i` of a record. -/
def wordAt (ws : List W32) (i : Nat) : W32 := ws.getD i 0

/-- A value lies within lo..hi, both ends included. -/
def inRange (lo hi n : Nat) : Bool := decide (lo ≤ n) && decide (n ≤ hi)

/-! ### The root record (R18, R183) -/

/-- A table pointer is a multiple of 16 (R18). -/
def pointerOk (w : W32) : Bool := w.toNat % 16 == 0

/-- The root's values, none where a field's value lies outside its range or its code outside its table: BAD_FORMAT
(R18, R183). The start word and the result word play no part. -/
def parseRoot (ws : List W32) : Option RootCfg :=
  let w := wordAt ws
  match Threshold.ofCode (bits (w 3) 1 2), cmdSizeOfCode (bits (w 9) 0 8), evSizeOfCode (bits (w 9) 8 8) with
  | some threshold, some cmdSize, some evSize =>
    let cfg : RootCfg :=
      { lockAtLoad := bit (w 3) 0, threshold := threshold, routing := bit (w 3) 3
        frameBase := w 4, lineBase := w 5, cmdBase := w 6, eventBase := w 7, mapBase := w 8
        cmdSize := cmdSize, evSize := evSize, evThreshold := bits (w 9) 16 16
        coalesceMs := bits (w 10) 0 16, freshnessS := bits (w 10) 16 8, classMask := BitVec.ofNat 12 (bits (w 11) 0 12)
        passCount := bits (w 12) 0 8, scannerCount := bits (w 12) 8 8, viewCount := bits (w 12) 16 8
        curveCount := bits (w 12) 24 8, debounce := bits (w 13) 0 8
        passPtr := w 14, channelPtr := w 15, curvePtr := w 16, cellPtr := w 17, viewPtr := w 18 }
    if w 2 = 1 && inRange 1 (evSize - 1) cfg.evThreshold && inRange 1 1000 cfg.coalesceMs && inRange 1 60 cfg.freshnessS
        && inRange 1 8 cfg.passCount && inRange 1 8 cfg.scannerCount && inRange 0 16 cfg.viewCount
        && inRange 1 4 cfg.curveCount && inRange 1 8 cfg.debounce
        && pointerOk cfg.passPtr && pointerOk cfg.channelPtr && pointerOk cfg.curvePtr && pointerOk cfg.cellPtr
        && pointerOk cfg.viewPtr
    then some cfg else none
  | _, _, _ => none

/-- The five windows of a root as (base, extent) (R3). -/
def rootWindows (c : RootCfg) : List (Nat × Nat) :=
  [(c.frameBase.toNat, Config.frameExtent), (c.lineBase.toNat, Config.lineExtent), (c.cmdBase.toNat, Config.cmdExtent),
    (c.eventBase.toNat, Config.eventExtent c.evSize), (c.mapBase.toNat, Config.mapExtent)]

/-- No two extents of the list share an address (R3). -/
def disjoint : List (Nat × Nat) → Bool
  | [] => true
  | x :: l => l.all (fun y => !overlap x.1 x.2 y.1 y.2) && disjoint l

/-- The window checks of a root at this address (R3, R18): 4 KiB bases, extents disjoint from each other and from the
root record. -/
def windowsOk (root : Nat) (c : RootCfg) : Bool :=
  (rootWindows c).all (fun x => x.1 % 4096 == 0) && disjoint ((root, Config.rootBytes) :: rootWindows c)

/-! ### Pass, channel and curve records (R19, R183) -/

/-- A pass record's fields, none on any violation: BAD_FORMAT (R19). -/
def parsePass (ws : List W32) : Option PassCfg :=
  let w := wordAt ws
  match Mode.ofCode (bits (w 0) 8 8) with
  | none => none
  | some mode =>
    let cellCount := bits (w 0) 0 8
    let weight := bits (w 0) 16 8
    let spanLimit := bits (w 0) 24 8
    let refreshMs := bits (w 1) 0 16
    let rateWindowS := bits (w 1) 16 16
    let rateLimit := bits (w 2) 0 16
    let maxAgeS := bits (w 2) 16 16
    let disagreeLimit := bits (w 3) 0 16
    let holdS := bits (w 3) 16 16
    let advisory := bits (w 4) 0 16
    let high := bits (w 4) 16 16
    let hysteresis := bits (w 5) 0 16
    let persistence := bits (w 5) 16 8
    let decokeLimit := bits (w 6) 0 16
    if inRange 1 64 cellCount && inRange 250 60000 refreshMs && inRange 10 600 rateWindowS && inRange 1 2000 rateLimit
        && inRange 1 600 maxAgeS && inRange 0 16 weight && inRange 0 2000 disagreeLimit && inRange 2 8 spanLimit
        && inRange 1 3600 holdS && inRange 0 3000 advisory && inRange 0 advisory high && inRange 0 500 hysteresis
        && inRange 1 8 persistence && inRange 0 15000 decokeLimit
    then some
      { cellCount := cellCount, initialMode := mode, weight := weight, spanLimit := spanLimit, refreshMs := refreshMs,
        rateWindowS := rateWindowS, rateLimit := rateLimit, maxAgeS := maxAgeS, disagreeLimit := disagreeLimit,
        holdS := holdS, advisory := advisory, high := high, hysteresis := hysteresis, persistence := persistence,
        decokeLimit := decokeLimit }
    else none

/-- A record's values, or the result that its first failing check gives. -/
inductive Checked (α : Type) where
  | ok (a : α)
  | bad (r : LoadResult)
deriving Repr

/-- A channel record (R19). Of a channel not in use the remaining fields are ignored: they are taken as zeros. -/
def parseChannel (curveCount : Nat) (ws : List W32) : Checked ChannelCfg :=
  let w := wordAt ws
  let curve := bits (w 0) 8 8
  let offset := signed16 (bits (w 0) 16 16)
  let spike := bits (w 1) 0 16
  if !bit (w 0) 0 then .ok ⟨false, 0, 0, 0⟩
  else if !(within (-500) 500 offset && inRange 0 5000 spike) then .bad .badFormat
  else if curveCount ≤ curve then .bad .badReference
  else .ok ⟨true, curve, offset, spike⟩

/-- The breakpoint count of a curve, from its first word (R183). -/
def curveLength (ws : List W32) : Nat := bits (wordAt ws 0) 0 8

/-- The words a curve occupies (R183). -/
def curveWords (ws : List W32) : Nat := 2 + 2 * curveLength ws

/-- The breakpoints of a curve (R183). -/
def curvePoints (ws : List W32) : List Breakpoint :=
  (List.range (curveLength ws)).map fun k =>
    ⟨signed32 (wordAt ws (2 + 2 * k)), signed16 (bits (wordAt ws (3 + 2 * k)) 0 16)⟩

/-- Neighbouring breakpoints are strictly increasing in both values (R19). -/
def increasing : List Breakpoint → Bool
  | [] => true
  | [_] => true
  | a :: b :: l => decide (a.emf < b.emf) && decide (a.temp < b.temp) && increasing (b :: l)

/-- A curve (R19). -/
def parseCurve (ws : List W32) : Checked (List Breakpoint) :=
  if inRange 2 32 (curveLength ws) && increasing (curvePoints ws) then .ok (curvePoints ws) else .bad .badCurve

/-! ### Cell records (R20, R183) -/

/-- A channel field of a cell record: 0xFF is no channel (R178). -/
def channelField (n : Nat) : Option Nat := if n = 0xFF then none else some n

/-- A cell record's fields (R183). -/
def cellFields (w : W32) : CellCfg :=
  ⟨channelField (bits w 0 8), channelField (bits w 8 8), bits w 16 16⟩

/-- A channel that a cell record may name: of a configured scanner, in use, and not named earlier in this load (R20). -/
def channelFree (channels : Nat) (inUse : Nat → Bool) (used : List Nat) : Option Nat → Bool
  | none => true
  | some c => decide (c < channels) && inUse c && !used.contains c

/-- The same channel named twice by one cell (R20). -/
def sameChannel : Option Nat → Option Nat → Bool
  | some a, some b => decide (a = b)
  | some _, none => false
  | none, _ => false

/-- A cell record (R20), `used` being the channels that earlier cell records of the load named. -/
def parseCell (channels : Nat) (inUse : Nat → Bool) (used : List Nat) (w : W32) : Checked CellCfg :=
  let c := cellFields w
  if !within 0 15000 c.limit then .bad .badFormat
  else if !(channelFree channels inUse used c.chanA && channelFree channels inUse used c.chanB) then .bad .badReference
  else if sameChannel c.chanA c.chanB then .bad .badReference
  else .ok c

/-- The channels a cell record names. -/
def namedChannels (c : CellCfg) : List Nat := c.chanA.toList ++ c.chanB.toList

/-! ### View records (R21, R183) -/

/-- The span count of a view record, from its first word (R183). -/
def viewLength (ws : List W32) : Nat := bits (wordAt ws 0) 16 8

/-- The words a view record occupies (R183). -/
def viewWords (ws : List W32) : Nat := 1 + viewLength ws

/-- A span's fields (R183). -/
def spanFields (w : W32) : Span := ⟨bits w 0 8, bits w 8 8, bits w 16 16⟩

/-- Two spans share a pixel (R21). -/
def sharePixel (a b : Span) : Bool := decide (a.first ≤ b.last) && decide (b.first ≤ a.last)

/-- The first check that a span fails, given the spans before it in its view and the cells named by earlier spans of
the load (R21). -/
def spanFault (cellOk : Nat → Bool) (before : List Span) (used : List Nat) (sp : Span) : Option LoadResult :=
  if 63 < sp.first || 63 < sp.last || sp.last < sp.first then some .badFormat
  else if !cellOk sp.cell || before.any (sharePixel sp) || used.contains sp.cell then some .badReference
  else none

/-- The first check that fails among a view's spans, in span order (R21). -/
def spansFault (cellOk : Nat → Bool) : List Span → List Nat → List Span → Option LoadResult
  | _, _, [] => none
  | before, used, sp :: rest =>
    match spanFault cellOk before used sp with
    | some r => some r
    | none => spansFault cellOk (before ++ [sp]) (used ++ [sp.cell]) rest

/-- The spans of a view record (R183). -/
def viewSpans (ws : List W32) : List Span := (List.range (viewLength ws)).map fun k => spanFields (wordAt ws (1 + k))

/-- A view record: its correction and its spans (R21). -/
def parseView (cellOk : Nat → Bool) (used : List Nat) (ws : List W32) : Checked (Int × List Span) :=
  let correction := signed16 (bits (wordAt ws 0) 0 16)
  if 16 < viewLength ws || !within (-1000) 1000 correction then .bad .badFormat
  else match spansFault cellOk [] used (viewSpans ws) with
    | some r => .bad r
    | none => .ok (correction, viewSpans ws)

end Sys2Proof.Machine
end

