-- ==== Sys2Proof/Machine/EventRing.lean ====
section
/-! DEFINITION. The Event Writer's ring (R167 to R172): records, the producer word, the consumer word, EVT#, and its
part in loads; and the meanings of its commands. -/

namespace Sys2Proof.Machine

/-- The four words of an event record (R181). -/
def recordWords (e : Event) : List W32 :=
  [mkWord [place e.kind.cls 0 8, place e.kind.code 8 8, place e.subject.toNat 16 16], e.time, e.a, e.b]

/-- The address of event record `i` (R168). -/
def eventRecordAddr (r : EvRing) (i : Nat) : W32 := r.base + BitVec.ofNat 32 (16 * i)

/-- The address of the producer word (spec 01, The windows). -/
def producerAddr (r : EvRing) : W32 := r.base + BitVec.ofNat 32 (Config.producerOffset r.size)

/-- The write of a producer index to the producer word (R168, R181). -/
def producerWrite (r : EvRing) (first : Bool) (i : Nat) : BridgeReq :=
  ⟨.producerWord first, producerAddr r, [encNat i]⟩

/-- Replace the Event Writer's state. -/
def withEv (x : EventWriter) (s : State) : State := { s with ev := x }

/-- The Event Writer adopts a ring: the indices are kept where base and size are unchanged, otherwise they become 0, the
timer stops, its flag clears, and 0 is written to the new producer word before any record (R172). -/
def adoptRing (r : EvRing) (s : State) : State :=
  let same := match s.ev.ring with
    | some o => decide (o.base = r.base) && decide (o.size = r.size)
    | none => false
  if same then withEv { s.ev with ring := some r, adopt := none } s
  else
    post (producerWrite r false 0)
      (withEv { s.ev with ring := some r, adopt := none, producer := 0, consumer := 0, coalesce := none, expired := false }
        s)

/-- At the end of a load with result OK the new ring is adopted, once any write in progress has ended; EVT# is
evaluated (R171, R172). -/
def eventLoadOk (r : EvRing) (s : State) : State :=
  evalEvt (if outstanding s .eventWriter then withEv { s.ev with adopt := some r } s else adoptRing r s)

/-- A write in progress has ended: a ring that waits is adopted before the next action, and EVT# follows it (R172). -/
def eventWriteEnded (s : State) : State :=
  match s.ev.adopt with
  | some r => evalEvt (adoptRing r s)
  | none => s

/-- EVENT_WRITER_ACTION (R168). -/
def execEventWriterAction (s : State) : Host.Outcome State Fault Refusal :=
  if outstanding s .eventWriter then .next s
  else match s.ev.ring with
    | none => .next s
    | some r =>
      if ringFull s.ev then
        match s.ev.pending with
        | [] => .next s
        | _ :: rest => .next (withEv { s.ev with pending := rest, lost := satAdd 65535 s.ev.lost 1 } s)
      else if 0 < s.ev.lost then
        let e : Event := ⟨.lostCount, 0, now s, encNat s.ev.lost, 0⟩
        .next (post ⟨.eventRecord true, eventRecordAddr r s.ev.producer, recordWords e⟩ s)
      else match s.ev.pending with
        | [] => .next s
        | e :: rest =>
          .next (post ⟨.eventRecord false, eventRecordAddr r s.ev.producer, recordWords e⟩
            (withEv { s.ev with pending := rest } s))

/-- A record write has completed: on success the producer index advances and is written to the producer word; on an
error the event is lost, a LOST record's count being kept (R168, R169). DESIGN CHOICE (log entry 14): the producer-word write is
posted within this completion, so it waits already when the arbiter next chooses. -/
def recordWritten (error lostRecord : Bool) (s : State) : State :=
  match s.ev.ring with
  | none => s
  | some r =>
    if error then
      eventWriteEnded (withEv { s.ev with
        pathError := true
        lost := if lostRecord then s.ev.lost else satAdd 65535 s.ev.lost 1 } s)
    else
      let i := (s.ev.producer + 1) % r.size
      let first := decide (unconsumed s.ev = 0)
      post (producerWrite r first i)
        (withEv { s.ev with
          producer := i
          pathError := false
          lost := if lostRecord then 0 else s.ev.lost } s)

/-- EVENT_RECORD_WRITE_COMPLETE (R168, R169). -/
def execEventRecordWriteComplete (error : Bool) (s : State) : Host.Outcome State Fault Refusal :=
  .next (complete isEventRecord (fun r s => recordWritten error (decide (r.kind = .eventRecord true)) s) s)

/-- The coalesce timer of the ring in force, started now (R171). -/
def coalesceTimer (s : State) : Option Timer := s.ev.ring.map fun r => startTimer s r.coalesceMs

/-- A producer-word write has ended (R169, R171). -/
def producerWritten (error first : Bool) (s : State) : State :=
  eventWriteEnded (evalEvt (withEv { s.ev with
    pathError := s.ev.pathError || error
    coalesce := if first then coalesceTimer s else s.ev.coalesce } s))

/-- PRODUCER_WORD_WRITE_COMPLETE (R171). -/
def execProducerWordWriteComplete (error : Bool) (s : State) : Host.Outcome State Fault Refusal :=
  .next (complete isProducerWord (fun r s => producerWritten error (decide (r.kind = .producerWord true)) s) s)

/-- A host write to the consumer word is handed over (R170). -/
def consumerWrite (v : W32) (s : State) : State :=
  match s.ev.ring with
  | none => s
  | some r =>
    let e := { s.ev with consumer := v.toNat % r.size }
    evalEvt (withEv { e with
      expired := false
      coalesce := if unconsumed e = 0 then none else coalesceTimer s } s)

/-- CONSUMER_WORD_WRITE (R170): watched while the event window is active (R5). -/
def execConsumerWordWrite (v : W32) (s : State) : Host.Outcome State Fault Refusal :=
  match ringWindows s with
  | some _ => .next (consumerWrite v s)
  | none => .next s

/-- COALESCE_TIMER_EXPIRY (R171), when the timer is due. -/
def execCoalesceTimerExpiry (s : State) : Host.Outcome State Fault Refusal :=
  if timerDue s.ev.coalesce (now s) then .next (evalEvt (withEv { s.ev with coalesce := none, expired := true } s))
  else .next s

end Sys2Proof.Machine
end

