-- ==== Sys2Proof/Machine/LifeUnit.lean ====
section
/-! DEFINITION. The Life Controller (spec 02): clears and straps, the heater clock, the load from its start to its end;
and the meanings of its commands. -/

namespace Sys2Proof.Machine

/-- Replace the Life Controller's state. -/
def withLife (x : Life) (s : State) : State := { s with life := x }

/-- Replace the load in progress. -/
def withLoad (x : Option LoadJob) (s : State) : State := withLife { s.life with load := x } s

/-! ### Adopting a configuration (R4, R23) -/

/-- The active window set of a configuration (R4). -/
def windowsOf (c : RootCfg) : Windows := ⟨c.frameBase, c.lineBase, c.cmdBase, c.eventBase, c.mapBase, c.evSize⟩

/-- The record extent of a configuration whose pass records have been written (R7). -/
def extentOf (c : RootCfg) (s : State) : Extent :=
  ⟨c.passCount, (List.range c.passCount).map fun p => (passAt s p).cfg.cellCount, c.scannerCount, c.viewCount⟩

/-- The Path Unit takes the new window set and record extent and empties the latch (R4). -/
def pathLoadOk (c : RootCfg) (s : State) : State :=
  { s with path := { s.path with windows := some (windowsOf c), extent := extentOf c s, latch := none } }

/-- What the Event Writer takes of a configuration (R172). -/
def evRingOf (c : RootCfg) : EvRing := ⟨c.eventBase, c.evSize, c.evThreshold, c.coalesceMs, c.classMask⟩

/-- The passes whose mode is not OOS, ascending (R96). -/
def passesInService (s : State) : List Nat :=
  (List.range (passCount s)).filter fun p => decide ((passAt s p).mode ≠ .oos)

/-- LIFE/LOAD_END with the result and the lifephase entered; its rule names no subject, which is absent (R23, R181). -/
def loadEndEvent (r : LoadResult) (ph : Phase) (s : State) : State :=
  emit .lifeLoadEnd absent16 (encNat r.code) (encNat ph.code) s

/-- The command ring's base and size are those in force before the load; a first load counts as changed (R166). -/
def sameCmdRing (kind : LoadKind) (old new : RootCfg) : Bool :=
  decide (kind = .reload) && decide (old.cmdBase = new.cmdBase) && decide (old.cmdSize = new.cmdSize)

/-- The end of a load with result OK, the lifephase already entered: the configuration `c` is adopted, each block takes
its part, the events follow (R23, R44, R70, R90, R118, R145, R153, R158, R166, R172). -/
def adoptConfig (kind : LoadKind) (c : RootCfg) (s : State) : State :=
  let same := sameCmdRing kind s.life.params c
  let before := s.hot
  let taken := pathLoadOk c (withLife { s.life with params := c, lock := s.life.lock || c.lockAtLoad } s)
  let ready := mapLoadOk (viewLoadOk (convLoadOk (intakeLoadOk taken)))
  let mapped := appendPasses (passesInService ready) ready
  let listed := rebuildList (alarmLoadOk mapped)
  let told := loadEndEvent .ok .run (eventLoadOk (evRingOf c) listed)
  cmdLoadOk same (leaderEvent before told)

/-- The end of a reload with another result, HALT already entered (R120, R146, R153, R166). -/
def failReload (r : LoadResult) (s : State) : State :=
  let before := s.hot
  let listed := rebuildList (alarmLoadFail (mapLoadFail s))
  cmdResume (evalEvt (leaderEvent before (loadEndEvent r .halt listed)))

/-- The Conversion Engine, the View Unit and the Map Engine in their cleared state: what the records of a failed first
load have written is gone (R88, R117; for channels and curves R69, log entry 34). -/
def clearTables (s : State) : State := { s with conv := Conv.cleared, view := View.cleared, map := MapEngine.cleared }

/-- The end of a first load with another result, IDLE already entered (R23, R69, R88, R117, R153). -/
def failFirstLoad (r : LoadResult) (s : State) : State :=
  let before := s.hot
  evalEvt (leaderEvent before (loadEndEvent r .idle (rebuildList (clearTables s))))

/-- The lifephase that a load's end enters (R23). -/
def phaseAfter : LoadKind → LoadResult → Phase
  | _, .ok => .run
  | .first, _ => .idle
  | .reload, _ => .halt

/-- The address of the result word (R23). -/
def resultAddr (s : State) : W32 := rootAddr s + 4

/-- The result word of a load (R23, R183). -/
def resultWord (r : LoadResult) (ph : Phase) : W32 := mkWord [place r.code 0 8, place ph.code 8 8]

/-- The load ends with this result (R23). A load that ends OK holds a pending configuration, its root having passed. -/
def endLoad (r : LoadResult) (s : State) : State :=
  match s.life.load with
  | none => s
  | some j =>
    let ph := phaseAfter j.kind r
    let c := s.life.pendingCfg.getD default
    let entered := post ⟨.resultWord, resultAddr s, [resultWord r ph]⟩
      (withLife { s.life with phase := ph, lastResult := r, load := none, pendingCfg := none } s)
    if r = .ok then adoptConfig j.kind c entered
    else match j.kind with
      | .reload => failReload r entered
      | .first => failFirstLoad r entered

/-! ### The load in progress (R17 to R22) -/

/-- The next configuration fetch (R17). -/
def postConfigFetch (addr : W32) (s : State) : State := post ⟨.configFetch, addr, []⟩ s

/-- The load goes on: its progress is kept and the next burst is asked for (R17). -/
def continueLoad (j : LoadJob) (s : State) : State :=
  postConfigFetch j.addr (withLoad (some { j with addr := j.addr + 16 }) s)

/-- The cells that the cell table configures, in its order (spec 02, the cell table). -/
def configuredCells (c : RootCfg) (s : State) : List Nat :=
  (List.range c.passCount).flatMap fun p => (List.range (passAt s p).cfg.cellCount).map (cellAt p)

/-- A cell that a span may name (R21). -/
def cellConfigured (c : RootCfg) (s : State) (cell : Nat) : Bool :=
  decide (passOf cell < c.passCount) && decide (posOf cell < (passAt s (passOf cell)).cfg.cellCount)

/-- The records of a table that the configuration names. -/
def stageRecords (c : RootCfg) (s : State) : Stage → Nat
  | .root => 1
  | .pass => c.passCount
  | .channel => c.scannerCount * 16
  | .curve => c.curveCount
  | .cell => (configuredCells c s).length
  | .view => c.viewCount

/-- The table after another, with its pointer (R17). -/
def nextStage (c : RootCfg) : Stage → Option (Stage × W32)
  | .root => some (.pass, c.passPtr)
  | .pass => some (.channel, c.channelPtr)
  | .channel => some (.curve, c.curvePtr)
  | .curve => some (.cell, c.cellPtr)
  | .cell => if c.viewCount = 0 then none else some (.view, c.viewPtr)
  | .view => none

/-- The words of the record that begins `ws` in a table; none while its count has not arrived (R183). -/
def recordWordsOf (st : Stage) (ws : List W32) : Option Nat :=
  match st with
  | .root => some 20
  | .pass => some 8
  | .channel => some 2
  | .curve => if ws.isEmpty then none else some (curveWords ws)
  | .cell => some 1
  | .view => if ws.isEmpty then none else some (viewWords ws)

/-- What a complete record does: it fails with a result, or it has been written and the load's progress notes it. -/
inductive Taken where
  | failed (r : LoadResult)
  | written (j : LoadJob) (s : State)

/-- The root record (R18): its values become the pending configuration. -/
def takeRoot (ws : List W32) (j : LoadJob) (s : State) : Taken :=
  match parseRoot ws with
  | none => .failed .badFormat
  | some c =>
    if windowsOk (rootAddr s).toNat c then .written j (withLife { s.life with pendingCfg := some c } s)
    else .failed .badWindow

/-- A pass record (R19, R22). -/
def takePass (ws : List W32) (j : LoadJob) (s : State) : Taken :=
  match parsePass ws with
  | none => .failed .badFormat
  | some x => .written j (setPass j.index { passAt s j.index with cfg := x } s)

/-- A channel record (R19, R22). -/
def takeChannel (c : RootCfg) (ws : List W32) (j : LoadJob) (s : State) : Taken :=
  match parseChannel c.curveCount ws with
  | .bad r => .failed r
  | .ok x => .written j (withChannels (s.conv.channels.modify j.index fun ch => { ch with cfg := x }) s)

/-- A curve (R19, R22). -/
def takeCurve (ws : List W32) (j : LoadJob) (s : State) : Taken :=
  match parseCurve ws with
  | .bad r => .failed r
  | .ok x => .written j { s with conv := { s.conv with curves := s.conv.curves.set j.index x } }

/-- A cell record (R20, R22). -/
def takeCell (c : RootCfg) (ws : List W32) (j : LoadJob) (s : State) : Taken :=
  let inUse := fun n => (s.conv.channels.get n).cfg.inUse
  match parseCell (c.scannerCount * 16) inUse j.usedChannels (wordAt ws 0) with
  | .bad r => .failed r
  | .ok x =>
    let cell := (configuredCells c s).getD j.index 0
    .written { j with usedChannels := j.usedChannels ++ namedChannels x }
      (withCells (s.map.cells.modify cell fun old => { old with cfg := x }) s)

/-- A view record (R21, R22). -/
def takeView (c : RootCfg) (ws : List W32) (j : LoadJob) (s : State) : Taken :=
  match parseView (cellConfigured c s) j.usedCells ws with
  | .bad r => .failed r
  | .ok x =>
    .written { j with usedCells := j.usedCells ++ x.2.map Span.cell }
      (withViews (s.view.views.modify j.index fun v => { v with correction := x.1, spans := x.2 }) s)

/-- A complete record of the table in hand; after the root the pending configuration gives the counts. -/
def takeRecord (ws : List W32) (j : LoadJob) (s : State) : Taken :=
  let c := s.life.pendingCfg.getD default
  match j.stage with
  | .root => takeRoot ws j s
  | .pass => takePass ws j s
  | .channel => takeChannel c ws j s
  | .curve => takeCurve ws j s
  | .cell => takeCell c ws j s
  | .view => takeView c ws j s

/-- The load's progress after a record of the table: the next record, or the start of the next table, or none after the
last (R17). Words fetched beyond a table's end belong to no record. -/
def afterRecord (rest : List W32) (j : LoadJob) (s : State) : Option LoadJob :=
  let c := s.life.pendingCfg.getD default
  if j.index + 1 < stageRecords c s j.stage then some { j with index := j.index + 1, words := rest }
  else (nextStage c j.stage).map fun n => { j with stage := n.1, addr := n.2, index := 0, words := [] }

/-- The records that have arrived are taken one after another; then the next burst is asked for, or the load ends. The
first argument bounds the number of records, each of which is at least one word. -/
def takeRecords : Nat → LoadJob → State → State
  | 0, j, s => continueLoad j s
  | fuel + 1, j, s =>
    match recordWordsOf j.stage j.words with
    | none => continueLoad j s
    | some n =>
      if j.words.length < n then continueLoad j s
      else match takeRecord (j.words.take n) j s with
        | .failed r => endLoad r s
        | .written j' s' =>
          match afterRecord (j.words.drop n) j' s' with
          | some j'' => takeRecords fuel j'' s'
          | none => endLoad .ok s'

/-- A configuration fetch has completed (R17). -/
def configFetched (reply : FetchReply) (s : State) : State :=
  match s.life.load with
  | none => s
  | some j =>
    match reply with
    | .error => endLoad .fetchError s
    | .words w0 w1 w2 w3 =>
      let ws := j.words ++ [w0, w1, w2, w3]
      takeRecords (ws.length + 1) { j with words := ws } s

/-- CONFIG_FETCH_COMPLETE (R17). -/
def execConfigFetchComplete (reply : FetchReply) (s : State) : Host.Outcome State Fault Refusal :=
  .next (complete (isKind .configFetch) (fun _ s => configFetched reply s) s)

/-- RESULT_WORD_WRITE_COMPLETE (R23): an error on it is ignored. -/
def execResultWordWriteComplete (error : Bool) (s : State) : Host.Outcome State Fault Refusal :=
  match error with
  | true => .next (complete (isKind .resultWord) (fun _ s => s) s)
  | false => .next (complete (isKind .resultWord) (fun _ s => s) s)

/-! ### The start of a load (R16, R17, R24) -/

/-- The progress of a load that begins (R17). -/
def newLoad (kind : LoadKind) (s : State) : LoadJob := ⟨kind, .root, rootAddr s, [], 0, [], []⟩

/-- LOAD is entered: the pending configuration is emptied and the root record is fetched (R17). -/
def beginLoad (kind : LoadKind) (s : State) : State :=
  continueLoad (newLoad kind s) (withLife { s.life with phase := .load, pendingCfg := none } s)

/-- LOAD is entered as a reload: every block takes its reload-acceptance step (R24, R45, R71, R89, R119, R166, R177). -/
def beginReload (s : State) : State :=
  beginLoad .reload (cmdPause (abortExportJob (mapPause (viewPause (convPause (intakePause s))))))

/-- A start value handed over (R16). -/
def loadStart (s : State) : State :=
  match s.life.phase with
  | .idle => beginLoad .first s
  | .halt => if s.life.lock then s else beginReload s
  | .load => s
  | .run => s
  | .clear => s
  | .sample => s

/-- A waiting configuration fetch is withdrawn, and the data of one on the memory port is discarded (R16). -/
def dropConfigFetch (s : State) : State :=
  let dropped := setRequests .lifeController (s.path.lifeOut.filter fun r => decide (r.kind ≠ .configFetch)) s
  { dropped with path := { dropped.path with memPort := discardOnPort (isKind .configFetch) dropped.path.memPort } }

/-- A stop value handed over (R16). -/
def loadStop (s : State) : State :=
  match s.life.phase with
  | .load => endLoad .stopped (dropConfigFetch s)
  | .idle => s
  | .halt => s
  | .run => s
  | .clear => s
  | .sample => s

/-- LOAD_START_VALUE (R16): watched from the end of SAMPLE on. -/
def execLoadStartValue (s : State) : Host.Outcome State Fault Refusal :=
  if startWatched s then .next (loadStart s) else .next s

/-- LOAD_STOP_VALUE (R16). -/
def execLoadStopValue (s : State) : Host.Outcome State Fault Refusal :=
  if startWatched s then .next (loadStop s) else .next s

/-- The hand-over of any value written to the start word (R16). -/
def startValue (v : W32) (s : State) : State := if v = 1 then loadStart s else if v = 2 then loadStop s else s

/-! ### Power, RESET# and the clears (R14, R15) -/

/-- The Life Controller in CLEAR. -/
def lifeInClear (held powerDone : Bool) (left : Option Nat) : Life :=
  { Life.cleared with resetHeld := held, powerClearDone := powerDone, clearLeft := left }

/-- POWER_ON (R14): CLEAR with every block zeroed; the power clear runs from here where RESET# is deasserted. -/
def execPowerOn (held : Bool) (s : State) : Host.Outcome State Fault Refusal :=
  .next { State.cleared with
    life := lifeInClear held false (if held then none else some Config.powerClearUs)
    pending := s.pending }

/-- The Path Unit at the assertion of RESET# (R13, R2): waiting bridge requests are withdrawn, an access on the memory
port is carried to its end, a bridge access's completion is discarded. -/
def pathInReset (p : Path) : Path :=
  { Path.cleared with
    upstream := p.upstream
    memPort := discardOnPort (fun _ => true) p.memPort
    hostResp := p.hostResp }

/-- RESET_ASSERT (R14, R13). -/
def execResetAssert (s : State) : Host.Outcome State Fault Refusal :=
  .next { State.cleared with
    life := lifeInClear true s.life.powerClearDone none
    path := pathInReset s.path
    pending := s.pending }

/-- RESET_RELEASE (R14): the clear runs from here. -/
def execResetRelease (s : State) : Host.Outcome State Fault Refusal :=
  if s.life.resetHeld then
    .next (withLife { s.life with
      resetHeld := false
      clearLeft := some (if s.life.powerClearDone then Config.resetClearUs else Config.powerClearUs) } s)
  else .next s

/-- The straps are read, and SAMPLE ends in LOAD or IDLE (R15). -/
def sampleStraps (root : BitVec 4) (autoload : Bool) (s : State) : State :=
  let sampled := withLife { s.life with
    phase := .idle
    rootStrap := root
    autoload := autoload
    clearLeft := none
    powerClearDone := true } s
  if autoload then beginLoad .first sampled else sampled

/-- A clear is running (R14). -/
def clearRuns (s : State) : Bool := decide (s.life.phase = .clear) && !s.life.resetHeld && s.life.clearLeft.isSome

/-- CLEAR_END (R14, R15). -/
def execClearEnd (root : BitVec 4) (autoload : Bool) (s : State) : Host.Outcome State Fault Refusal :=
  if clearRuns s then .next (sampleStraps root autoload s) else .next s

/-- HEATER_CLOCK_TICK (R26): 1000 edges of TREF have passed; the clock stays at 0 through CLEAR. -/
def execHeaterClockTick (s : State) : Host.Outcome State Fault Refusal :=
  if s.life.phase = .clear then .next s
  else .next (withLife { s.life with clock := s.life.clock + 1, trefEdges := 0 } s)

end Sys2Proof.Machine
end

