-- ==== Sys2Proof/Machine/PathUnit.lean ====
section
/-! DEFINITION. The Path Unit (spec 01): pass-through, hand-over of watched writes, map-window reads and writes, the
record latch, and the memory-port arbiter; and the meanings of its commands. -/

namespace Sys2Proof.Machine

/-! ### Hand-over of a granted host write (R5, R6) -/

/-- The addresses of an access's beats, in address order: four bytes apart. -/
def beatAddrs (a : HostAccess) : List (W32 × Beat) :=
  mapFrom (fun k b => (a.addr + BitVec.ofNat 32 (4 * k), b)) 0 a.beats

/-- What a granted host write hands over, decoded once under the windows that stand at the grant (R3, R4, R5, R6). -/
def handOvers (s : State) (a : HostAccess) : List (Watch × Beat) :=
  (beatAddrs a).map fun x => (watchOf s x.1, x.2)

/-- One beat handed to its block: a watched word only with all four byte enables set (R5), an intake beat always (R6). -/
def handOver (x : Watch × Beat) (s : State) : State :=
  match x.1 with
  | .tail => if fullBeat x.2 then tailWrite x.2.data s else s
  | .urgent => if fullBeat x.2 then urgentValue x.2.data s else s
  | .consumer => if fullBeat x.2 then consumerWrite x.2.data s else s
  | .start => if fullBeat x.2 then startValue x.2.data s else s
  | .frame off => frameBeat off.toNat x.2 s
  | .line off => lineBeat off.toNat x.2 s
  | .none => s

/-- The hand-over of a granted host access, beat by beat in address order; a read hands nothing over (R5, R6). -/
def handOverAll (a : HostAccess) (s : State) : State :=
  if a.write then (handOvers s a).foldl (fun t x => handOver x t) s else s

/-! ### The arbiter (R12) -/

/-- The host access that waits at the upstream port for the memory port: one outside the active map window, and not
the one already on the memory port. -/
def hostWaiting (s : State) : Option HostAccess :=
  match s.path.upstream with
  | some a => if mapHit s a.addr then none else some a
  | none => none

/-- An Event Writer, Command Engine or Export Engine request waits (R12). -/
def bridgeWaiting (s : State) : Bool := !s.path.evOut.isEmpty || !s.path.cmdOut.isEmpty || !s.path.expOut.isEmpty

/-- What the arbiter grants (R12). -/
inductive Grant where
  | host (a : HostAccess)
  | bridge (who : Requester)
  | none
deriving DecidableEq, Repr

/-- The first waiting bridge requester in the arbiter's order; the Life Controller last (R12). -/
def bridgeGrant (s : State) : Grant :=
  if !s.path.evOut.isEmpty then .bridge .eventWriter
  else if !s.path.cmdOut.isEmpty then .bridge .commandEngine
  else if !s.path.expOut.isEmpty then .bridge .exportEngine
  else if !s.path.lifeOut.isEmpty then .bridge .lifeController
  else .none

/-- The arbiter's choice among the requests that wait (R12). DESIGN CHOICE (log entry 14): a request that its requester
posts on the very completion that frees the port is among them. -/
def arbitrate (s : State) : Grant :=
  match hostWaiting s with
  | some a => if s.path.fairness < Config.fairnessMax || !bridgeWaiting s then .host a else bridgeGrant s
  | none => bridgeGrant s

/-- The host access is granted: it leaves the upstream port's wait for the memory port, the fairness count follows, and
its write is handed over (R5, R6, R12). -/
def grantHost (a : HostAccess) (s : State) : State :=
  handOverAll a { s with path := { s.path with
    upstream := none
    memPort := some (.host a)
    fairness := if bridgeWaiting s then s.path.fairness + 1 else 0 } }

/-- A bridge requester is granted: its waiting request takes the memory port, the fairness count returns to 0 (R12). -/
def grantBridge (who : Requester) (s : State) : State :=
  match requests s who with
  | [] => s
  | r :: rest =>
    let t := setRequests who rest s
    { t with path := { t.path with memPort := some (.bridge r false), fairness := 0 } }

/-- MEMORY_PORT_GRANT (R12): while the port is free, the arbiter grants it. -/
def execMemoryPortGrant (s : State) : Host.Outcome State Fault Refusal :=
  match s.path.memPort with
  | some _ => .next s
  | none =>
    match arbitrate s with
    | .host a => .next (grantHost a s)
    | .bridge who => .next (grantBridge who s)
    | .none => .next s

/-! ### The upstream port (R2) -/

/-- The host is held by an access of its own: one that waits, or one on the memory port (R2). -/
def hostHeld (s : State) : Bool :=
  s.path.upstream.isSome ||
    (match s.path.memPort with
      | some (.host _) => true
      | some (.bridge _ _) => false
      | none => false)

/-- Memory's completion of the host access is returned to the host beat for beat (R2). -/
def hostCompleted (resp : List BeatResp) (s : State) : State :=
  match s.path.memPort with
  | some (.host _) => { s with path := { s.path with memPort := none, hostResp := some resp } }
  | some (.bridge _ _) => s
  | none => s

/-- HOST_ACCESS_COMPLETE (R2). -/
def execHostAccessComplete (resp : List BeatResp) (s : State) : Host.Outcome State Fault Refusal :=
  .next (hostCompleted resp s)

/-! ### Map-window reads (R7 to R10) -/

/-- The record latch filled with a record as it stands, its hold started (R8). -/
def fillLatch (r : RecordId) (s : State) : State :=
  { s with path := { s.path with latch := some ⟨r, liveRecord s r, Config.latchHoldUs⟩ } }

/-- The latch holds this record (R9). -/
def latchedCopy (s : State) (r : RecordId) : Option (List W32) :=
  match s.path.latch with
  | some l => if l.rid = r then some l.copy else none
  | none => none

/-- One read beat at a map-window offset: the word returned, and the latch filled by a first-word read (R7, R8, R9). -/
def readBeat (off : Nat) (s : State) : W32 × State :=
  match recordAt off with
  | none => (0, s)
  | some (r, 0) => ((liveRecord s r).getD 0 0, fillLatch r s)
  | some (r, n + 1) =>
    match latchedCopy s r with
    | some ws => (ws.getD (n + 1) 0, s)
    | none => ((liveRecord s r).getD (n + 1) 0, s)

/-- Read beats in address order (R10). -/
def readBeats : List Nat → State → List W32 × State
  | [], s => ([], s)
  | off :: rest, s =>
    let one := readBeat off s
    let more := readBeats rest one.2
    (one.1 :: more.1, more.2)

/-- The map-window offsets of an access's beats. A single beat off a word's first byte reads the word it lies in (log
entry 32). -/
def beatOffsets (s : State) (a : HostAccess) : List Nat := mapFrom (fun k _ => mapOffset s a.addr + 4 * k) 0 a.beats

/-- The host's answer put at the upstream port, which becomes free (R2, R7). -/
def answerHost (resp : List BeatResp) (s : State) : State :=
  { s with path := { s.path with upstream := none, hostResp := some resp } }

/-- A host read of the active map window is served (R7). -/
def serveMapRead (a : HostAccess) (s : State) : State :=
  let out := readBeats (beatOffsets s a) s
  answerHost (out.1.map BeatResp.data) out.2

/-! ### Map-window writes (R11) -/

/-- The holdoff state and the event of one write at a map-window offset (R11). -/
def holdoffWrite (off : Nat) (s : State) : State :=
  match s.path.holdoff with
  | some _ => { s with path := { s.path with suppressed := satAdd 65535 s.path.suppressed 1 } }
  | none =>
    let told := emit .pathMapWrite (subj off) 0 (encNat s.path.suppressed) s
    { told with path := { told.path with holdoff := some (startTimer s Config.holdoffMs), suppressed := 0 } }

/-- A host write into the active map window completes without reaching memory (R11). -/
def serveMapWrite (a : HostAccess) (s : State) : State :=
  answerHost (a.beats.map fun _ => BeatResp.ack) (holdoffWrite (mapOffset s a.addr) s)

/-! ### Host accesses (R2, R7, R11) -/

/-- A host access arrives: one of the active map window is served at once, another waits for the memory port. -/
def arrive (a : HostAccess) (s : State) : State :=
  if mapHit s a.addr then
    if a.write then serveMapWrite a s else serveMapRead a s
  else { s with path := { s.path with upstream := some a } }

/-- HOST_ACCESS (R2): the upstream port takes one access at a time. -/
def execHostAccess (a : HostAccess) (s : State) : Host.Outcome State Fault Refusal :=
  if hostHeld s then .next s else .next (arrive a s)

/-- The access may be served: the upstream port is free, or it is the very access that stands there ungranted (log
entry 22). -/
def servable (a : HostAccess) (s : State) : Bool := !hostHeld s || decide (s.path.upstream = some a)

/-- MAP_READ (R7): a read of the active map window. -/
def execMapRead (d : Drive) (s : State) : Host.Outcome State Fault Refusal :=
  if mapHit s d.addr && servable ⟨false, d⟩ s then .next (serveMapRead ⟨false, d⟩ s) else .next s

/-- MAP_WRITE (R11): a write into the active map window; a burst counts as one write at its first beat. -/
def execMapWrite (d : Drive) (s : State) : Host.Outcome State Fault Refusal :=
  if mapHit s d.addr && servable ⟨true, d⟩ s then .next (serveMapWrite ⟨true, d⟩ s) else .next s

/-- LATCH_HOLD_EXPIRY (R9): the hold runs out and the latch is emptied. -/
def execLatchHoldExpiry (s : State) : Host.Outcome State Fault Refusal :=
  match s.path.latch with
  | some _ => .next { s with path := { s.path with latch := none } }
  | none => .next s

/-- MAP_WRITE_HOLDOFF_EXPIRY (R11), when the timer is due: it stops, the count is kept. -/
def execMapWriteHoldoffExpiry (s : State) : Host.Outcome State Fault Refusal :=
  if timerDue s.path.holdoff (now s) then .next { s with path := { s.path with holdoff := none } } else .next s

end Sys2Proof.Machine
end

