-- ==== Sys2Proof/Machine/RingCommands.lean ====
section
/-! DEFINITION. The commands of the ring (R163, R180): each is the completion of a ring fetch that brought its record. -/

namespace Sys2Proof.Machine

/-! ### One entry (R161, R163) -/

/-- A refused entry (R163). -/
def refuseEntry (opcode : Nat) (r : Reason) (s : State) : State :=
  emit .commandRefused (subj s.cmd.head) (encNat opcode) (encNat r.code) s

/-- The command's own checks, then its effect (R163). -/
def checkedEffect (opcode : Nat) (check : State → Option Reason) (act : State → State) (s : State) : State :=
  match check s with
  | some r => refuseEntry opcode r s
  | none => act s

/-- A command record executed: the lifephase check, then the command's own checks (R163). -/
def executeEntry (opcode : Nat) (inHalt : Bool) (check : State → Option Reason) (act : State → State) (s : State) :
    State :=
  match s.life.phase with
  | .run => checkedEffect opcode check act s
  | .halt => if inHalt then checkedEffect opcode check act s else refuseEntry opcode .wrongPhase s
  | .load => refuseEntry opcode .wrongPhase s
  | .clear => refuseEntry opcode .wrongPhase s
  | .sample => refuseEntry opcode .wrongPhase s
  | .idle => refuseEntry opcode .wrongPhase s

/-- The entry's execution has ended: the head advances, the head-word write is posted, a pending urgent code is accepted
(R161, R165). -/
def finishEntry (s : State) : State :=
  let moved := withCmd { s.cmd with head := (s.cmd.head + 1) % cmdSize s } s
  acceptUrgent (post (headWrite moved) moved)

/-- A ring fetch completes with a record whose execution is `entry` (R161). -/
def ringEntry (entry : State → State) (s : State) : Host.Outcome State Fault Refusal :=
  .next (complete (isKind .ringFetch) (fun _ s => finishEntry (entry s)) s)

/-! ### Checks -/

/-- No checks of its own. -/
def noCheck (_ : State) : Option Reason := none

/-- FREEZE, THAW, FORCE REFRESH: the mask names no pass at or above the pass count (R113 to R115). -/
def maskCheck (mask : Byte) (s : State) : Option Reason := if maskOk mask (passCount s) then none else some .badArgument

/-- SET MODE (R108, R180). -/
def modeCheck (pass mode : Byte) (s : State) : Option Reason :=
  if passCount s ≤ pass.toNat then some .badArgument
  else if (Mode.ofCode mode.toNat).isNone then some .badArgument
  else none

/-- CLEAR FAULTS (R67). -/
def faultsCheck (first last : Byte) (_ : State) : Option Reason :=
  if 127 < last.toNat ∨ last.toNat < first.toNat then some .badArgument else none

/-- SET OFFSET: the lock, then its arguments (R68). -/
def offsetCheck (channel : Byte) (value : W16) (s : State) : Option Reason :=
  if s.life.lock then some .locked
  else if !channelInUse s channel.toNat || !within (-500) 500 value.toInt then some .badArgument
  else none

/-- CALIBRATE VIEW (R86). -/
def calibrateCheck (view : Byte) (s : State) : Option Reason :=
  if s.life.lock then some .locked
  else if viewCount s ≤ view.toNat then some .badArgument
  else if (viewPairings s view.toNat).length < 3 then some .insufficient
  else none

/-- A cell argument is at most 511 (R136). -/
def cellCheck (cell : W16) (_ : State) : Option Reason := if 511 < cell.toNat then some .badArgument else none

/-- ACK PASS (R137). -/
def ackPassCheck (pass : Byte) (_ : State) : Option Reason := if 7 < pass.toNat then some .badArgument else none

/-- RESET EXPOSURE: the lock, then the cell (R141). -/
def exposureCheck (cell : W16) (s : State) : Option Reason := if s.life.lock then some .locked else cellCheck cell s

/-- EXPORT: its arguments, then an export in flight (R173). -/
def exportCheck (mask : Byte) (list : W32) (s : State) : Option Reason :=
  if list.toNat % 16 ≠ 0 ∨ maskOk mask (passCount s) = false then some .badArgument
  else if s.exp.job.isSome then some .busy
  else none

/-- RELOAD: the lock (R24, R25). -/
def reloadCheck (s : State) : Option Reason := if s.life.lock then some .locked else none

/-! ### Effects of one line -/

/-- SET MODE of a checked pass and mode (R108). -/
def setModeEffect (pass mode : Byte) (s : State) : State :=
  match Mode.ofCode mode.toNat with
  | some m => changeMode pass.toNat m s
  | none => s

/-- LOCK (R25): a lock that is set stays set. -/
def setLock (s : State) : State := withLife { s.life with lock := true } s

/-! ### The meanings -/

/-- UNKNOWN_OPCODE (R163): an opcode that names a command is no such command. -/
def execUnknownOpcode (opcode : Byte) (s : State) : Host.Outcome State Fault Refusal :=
  if opcode.toNat < 14 then .fault .noSuchCommand else ringEntry (refuseEntry opcode.toNat .unknown) s

/-- NOP (R163), opcode 0x00. -/
def execNop (s : State) : Host.Outcome State Fault Refusal := ringEntry (executeEntry 0x00 true noCheck fun s => s) s

/-- FREEZE (R113), opcode 0x01. -/
def execFreeze (mask : Byte) (s : State) : Host.Outcome State Fault Refusal :=
  ringEntry (executeEntry 0x01 false (maskCheck mask) (freezePasses (maskPasses mask))) s

/-- THAW (R114), opcode 0x02. -/
def execThaw (mask : Byte) (s : State) : Host.Outcome State Fault Refusal :=
  ringEntry (executeEntry 0x02 false (maskCheck mask) (thawPasses (maskPasses mask))) s

/-- SET MODE (R108), opcode 0x03. -/
def execSetMode (pass mode : Byte) (s : State) : Host.Outcome State Fault Refusal :=
  ringEntry (executeEntry 0x03 false (modeCheck pass mode) (setModeEffect pass mode)) s

/-- FORCE REFRESH (R115), opcode 0x04. -/
def execForceRefresh (mask : Byte) (s : State) : Host.Outcome State Fault Refusal :=
  ringEntry (executeEntry 0x04 false (maskCheck mask) (appendPasses (maskPasses mask))) s

/-- CLEAR FAULTS (R67), opcode 0x05. -/
def execClearFaults (first last : Byte) (s : State) : Host.Outcome State Fault Refusal :=
  ringEntry (executeEntry 0x05 false (faultsCheck first last) (clearFaultRange first.toNat last.toNat)) s

/-- SET OFFSET (R68), opcode 0x06. -/
def execSetOffset (channel : Byte) (value : W16) (s : State) : Host.Outcome State Fault Refusal :=
  ringEntry (executeEntry 0x06 false (offsetCheck channel value) (setChannelOffset channel.toNat value.toInt)) s

/-- CALIBRATE VIEW (R86, R87), opcode 0x07. -/
def execCalibrateView (view : Byte) (s : State) : Host.Outcome State Fault Refusal :=
  ringEntry (executeEntry 0x07 false (calibrateCheck view) (calibrate view.toNat)) s

/-- ACK (R136), opcode 0x08. -/
def execAck (cell : W16) (s : State) : Host.Outcome State Fault Refusal :=
  ringEntry (executeEntry 0x08 true (cellCheck cell) (ackCell cell.toNat)) s

/-- ACK PASS (R137), opcode 0x09. -/
def execAckPass (pass : Byte) (s : State) : Host.Outcome State Fault Refusal :=
  ringEntry (executeEntry 0x09 true (ackPassCheck pass) (ackPassCells pass.toNat)) s

/-- RESET EXPOSURE (R141), opcode 0x0A. -/
def execResetExposure (cell : W16) (s : State) : Host.Outcome State Fault Refusal :=
  ringEntry (executeEntry 0x0A false (exposureCheck cell) (resetExposureOf cell.toNat)) s

/-- EXPORT (R173), opcode 0x0B. The hot-list flag is set when its byte is not zero (R180). -/
def execExportStart (mask hotFlag : Byte) (list : W32) (s : State) : Host.Outcome State Fault Refusal :=
  ringEntry (executeEntry 0x0B false (exportCheck mask list) (beginExport mask (decide (hotFlag ≠ 0)) list)) s

/-- RELOAD (R24), opcode 0x0C. -/
def execReload (s : State) : Host.Outcome State Fault Refusal :=
  ringEntry (executeEntry 0x0C true reloadCheck beginReload) s

/-- LOCK (R25), opcode 0x0D. -/
def execLock (s : State) : Host.Outcome State Fault Refusal := ringEntry (executeEntry 0x0D true noCheck setLock) s

end Sys2Proof.Machine
end

