-- ==== Sys2Proof/Machine/Dispatch.lean ====
section
/-! DEFINITION. The meaning of every command: one arm per row of the table. -/

namespace Sys2Proof.Machine

def exec (i : Instr) (s : State) : Host.Outcome State Fault Refusal :=
  match i with
  | .powerOn resetHeld => Sys2Proof.Machine.execPowerOn resetHeld s
  | .resetAssert => Sys2Proof.Machine.execResetAssert s
  | .resetRelease => Sys2Proof.Machine.execResetRelease s
  | .clearEnd root autoload => Sys2Proof.Machine.execClearEnd root autoload s
  | .heaterClockTick => Sys2Proof.Machine.execHeaterClockTick s
  | .commitAgeAdvance pass => Sys2Proof.Machine.execCommitAgeAdvance pass s
  | .hostAccess a => Sys2Proof.Machine.execHostAccess a s
  | .memoryPortGrant => Sys2Proof.Machine.execMemoryPortGrant s
  | .hostAccessComplete resp => Sys2Proof.Machine.execHostAccessComplete resp s
  | .mapRead d => Sys2Proof.Machine.execMapRead d s
  | .latchHoldExpiry => Sys2Proof.Machine.execLatchHoldExpiry s
  | .mapWrite d => Sys2Proof.Machine.execMapWrite d s
  | .mapWriteHoldoffExpiry => Sys2Proof.Machine.execMapWriteHoldoffExpiry s
  | .loadStartValue => Sys2Proof.Machine.execLoadStartValue s
  | .loadStopValue => Sys2Proof.Machine.execLoadStopValue s
  | .configFetchComplete reply => Sys2Proof.Machine.execConfigFetchComplete reply s
  | .resultWordWriteComplete error => Sys2Proof.Machine.execResultWordWriteComplete error s
  | .frameSlotWrite offset beat => Sys2Proof.Machine.execFrameSlotWrite offset beat s
  | .frameTake => Sys2Proof.Machine.execFrameTake s
  | .frameConversionComplete => Sys2Proof.Machine.execFrameConversionComplete s
  | .freshnessTimerExpiry scanner => Sys2Proof.Machine.execFreshnessTimerExpiry scanner s
  | .lineSlotWrite offset beat => Sys2Proof.Machine.execLineSlotWrite offset beat s
  | .lineTake => Sys2Proof.Machine.execLineTake s
  | .lineCompletion => Sys2Proof.Machine.execLineCompletion s
  | .spotRetirement cell => Sys2Proof.Machine.execSpotRetirement cell s
  | .refreshTimerExpiry pass => Sys2Proof.Machine.execRefreshTimerExpiry pass s
  | .recomputeStart => Sys2Proof.Machine.execRecomputeStart s
  | .recomputeCompletion => Sys2Proof.Machine.execRecomputeCompletion s
  | .lastDirectTimeRetirement cell => Sys2Proof.Machine.execLastDirectTimeRetirement cell s
  | .rateReferenceRetirement cell => Sys2Proof.Machine.execRateReferenceRetirement cell s
  | .tailWordWrite value => Sys2Proof.Machine.execTailWordWrite value s
  | .ringFetchError => Sys2Proof.Machine.execRingFetchError s
  | .unknownOpcode opcode => Sys2Proof.Machine.execUnknownOpcode opcode s
  | .headWordWriteComplete error => Sys2Proof.Machine.execHeadWordWriteComplete error s
  | .nop => Sys2Proof.Machine.execNop s
  | .freeze mask => Sys2Proof.Machine.execFreeze mask s
  | .thaw mask => Sys2Proof.Machine.execThaw mask s
  | .setMode pass mode => Sys2Proof.Machine.execSetMode pass mode s
  | .forceRefresh mask => Sys2Proof.Machine.execForceRefresh mask s
  | .clearFaults first last => Sys2Proof.Machine.execClearFaults first last s
  | .setOffset channel value => Sys2Proof.Machine.execSetOffset channel value s
  | .calibrateView view => Sys2Proof.Machine.execCalibrateView view s
  | .ack cell => Sys2Proof.Machine.execAck cell s
  | .ackPass pass => Sys2Proof.Machine.execAckPass pass s
  | .resetExposure cell => Sys2Proof.Machine.execResetExposure cell s
  | .exportStart mask hotFlag list => Sys2Proof.Machine.execExportStart mask hotFlag list s
  | .reload => Sys2Proof.Machine.execReload s
  | .lock => Sys2Proof.Machine.execLock s
  | .urgentCancel => Sys2Proof.Machine.execUrgentCancel s
  | .freezeAll => Sys2Proof.Machine.execFreezeAll s
  | .thawAll => Sys2Proof.Machine.execThawAll s
  | .abortExport => Sys2Proof.Machine.execAbortExport s
  | .urgentUnknown value => Sys2Proof.Machine.execUrgentUnknown value s
  | .urgentAcceptance => Sys2Proof.Machine.execUrgentAcceptance s
  | .urgentClearWriteComplete error => Sys2Proof.Machine.execUrgentClearWriteComplete error s
  | .eventWriterAction => Sys2Proof.Machine.execEventWriterAction s
  | .eventRecordWriteComplete error => Sys2Proof.Machine.execEventRecordWriteComplete error s
  | .producerWordWriteComplete error => Sys2Proof.Machine.execProducerWordWriteComplete error s
  | .consumerWordWrite value => Sys2Proof.Machine.execConsumerWordWrite value s
  | .coalesceTimerExpiry => Sys2Proof.Machine.execCoalesceTimerExpiry s
  | .listFetchComplete reply => Sys2Proof.Machine.execListFetchComplete reply s
  | .streamWriteComplete error => Sys2Proof.Machine.execStreamWriteComplete error s

end Sys2Proof.Machine
end

