-- ==== Sys2Proof/WellFormed.lean ====
section
/-! DEFINITION. Which command terms name a step of the part. Every other operand range is already the operand's type. -/

namespace Sys2Proof

/-- The opcodes that name a command (spec 10, Commands): 0x00 to 0x0D. -/
def opcodeNamed (op : Byte) : Bool := decide (op.toNat < 14)

/-- The values of the urgent word that R164 names: 0 to 3. -/
def urgentNamed (v : W32) : Bool := decide (v.toNat < 4)

/-- The command names a step of the part: UNKNOWN_OPCODE carries an opcode that names no command and URGENT_UNKNOWN a
value that R164 does not name. -/
def Instr.wellFormed : Instr → Bool
  | .hostAccess _ => true
  | .mapRead _ => true
  | .mapWrite _ => true
  | .unknownOpcode op => !opcodeNamed op
  | .urgentUnknown v => !urgentNamed v
  | .powerOn _ => true
  | .resetAssert => true
  | .resetRelease => true
  | .clearEnd _ _ => true
  | .heaterClockTick => true
  | .commitAgeAdvance _ => true
  | .memoryPortGrant => true
  | .hostAccessComplete _ => true
  | .latchHoldExpiry => true
  | .mapWriteHoldoffExpiry => true
  | .loadStartValue => true
  | .loadStopValue => true
  | .configFetchComplete _ => true
  | .resultWordWriteComplete _ => true
  | .frameSlotWrite _ _ => true
  | .frameTake => true
  | .frameConversionComplete => true
  | .freshnessTimerExpiry _ => true
  | .lineSlotWrite _ _ => true
  | .lineTake => true
  | .lineCompletion => true
  | .spotRetirement _ => true
  | .refreshTimerExpiry _ => true
  | .recomputeStart => true
  | .recomputeCompletion => true
  | .lastDirectTimeRetirement _ => true
  | .rateReferenceRetirement _ => true
  | .tailWordWrite _ => true
  | .ringFetchError => true
  | .headWordWriteComplete _ => true
  | .nop => true
  | .freeze _ => true
  | .thaw _ => true
  | .setMode _ _ => true
  | .forceRefresh _ => true
  | .clearFaults _ _ => true
  | .setOffset _ _ => true
  | .calibrateView _ => true
  | .ack _ => true
  | .ackPass _ => true
  | .resetExposure _ => true
  | .exportStart _ _ _ => true
  | .reload => true
  | .lock => true
  | .urgentCancel => true
  | .freezeAll => true
  | .thawAll => true
  | .abortExport => true
  | .urgentAcceptance => true
  | .urgentClearWriteComplete _ => true
  | .eventWriterAction => true
  | .eventRecordWriteComplete _ => true
  | .producerWordWriteComplete _ => true
  | .consumerWordWrite _ => true
  | .coalesceTimerExpiry => true
  | .listFetchComplete _ => true
  | .streamWriteComplete _ => true

end Sys2Proof
end

