-- ==== Sys2Proof/Safety.lean ====
section
/-! DEFINITION. What counts as a sound state of the bridge, and the vocabulary the statements share. -/

namespace Sys2Proof.Machine

/-! ### Invariants -/

/-- What every count, size, time and pointer of a root that has passed its checks meets (R18, the root record table). -/
structure RootCfg.Legal (c : RootCfg) : Prop where
  cmdSize : c.cmdSize = 16 ∨ c.cmdSize = 64
  evSize : c.evSize = 16 ∨ c.evSize = 64 ∨ c.evSize = 256
  threshold : 1 ≤ c.evThreshold ∧ c.evThreshold < c.evSize
  coalesce : 1 ≤ c.coalesceMs ∧ c.coalesceMs ≤ 1000
  freshness : 1 ≤ c.freshnessS ∧ c.freshnessS ≤ 60
  passes : 1 ≤ c.passCount ∧ c.passCount ≤ 8
  scanners : 1 ≤ c.scannerCount ∧ c.scannerCount ≤ 8
  views : c.viewCount ≤ 16
  curves : 1 ≤ c.curveCount ∧ c.curveCount ≤ 4
  debounce : 1 ≤ c.debounce ∧ c.debounce ≤ 8
  pointers : ∀ w ∈ [c.passPtr, c.channelPtr, c.curvePtr, c.cellPtr, c.viewPtr], w.toNat % 16 = 0

/-- What an event ring in force may be (R18, R172). -/
def EvRing.Legal (r : EvRing) : Prop := (r.size = 16 ∨ r.size = 64 ∨ r.size = 256) ∧ 1 ≤ r.threshold ∧ r.threshold < r.size

/-- The configuration is one that passed both groups of the root checks, its ranges and its windows, at this bridge's
root address (R18). -/
def State.passed (s : State) (c : RootCfg) : Prop := c.Legal ∧ windowsOk (rootAddr s).toNat c = true

/-- Every configuration held is one whose root passed its checks (R18, R19, R23): the pending one, the one in force in
RUN and HALT, the one that a reload may fall back on, and the event rings; past the root a load holds a pending
configuration; the active window set is that of the configuration in force (R4); no pass has more than its 64 cells or
a persistence above 8. -/
structure State.Configured (s : State) : Prop where
  pending : ∀ c, s.life.pendingCfg = some c → s.passed c
  loading : ∀ j, s.life.load = some j → j.stage ≠ .root → s.life.pendingCfg.isSome = true
  inForce : s.life.phase = .run ∨ s.life.phase = .halt → s.passed s.life.params
  reloading : ∀ j, s.life.load = some j → j.kind = .reload → s.passed s.life.params
  active : ∀ w, s.path.windows = some w → w = windowsOf s.life.params
  ring : ∀ r, s.ev.ring = some r → r.Legal
  adopt : ∀ r, s.ev.adopt = some r → r.Legal
  cells : ∀ p < 8, (s.map.passes.get p).cfg.cellCount ≤ 64 ∧ (s.map.passes.get p).cfg.persistence ≤ 8

/-- The bounds of the bridge's queues, lists and counters: the frame, line and pending-event queues (R31, R76, R167),
the lost, suppressed-write and fairness counts (R11, R12, R167), the refresh queue, each pass at most once (R95), the
workspace (R97), the hot list and the eligible count (R148), the ring indices once their rings are in force (R159,
R167), the verdict histories (R59), the persistence counts (R131), the exposures with their remainders (R140) and the
commit ages (R93). -/
structure State.Bounded (s : State) : Prop where
  frames : s.intake.queue.length ≤ Config.frameQueueMax
  lines : s.view.queue.length ≤ Config.lineQueueMax
  events : s.ev.pending.length ≤ Config.pendingEventsMax
  lost : s.ev.lost ≤ 65535
  suppressed : s.path.suppressed ≤ 65535
  fairness : s.path.fairness ≤ Config.fairnessMax
  refresh : s.map.queue.Nodup ∧ ∀ p ∈ s.map.queue, p < 8
  inFlight : ∀ w, s.map.work = some w → w.pass < 8 ∧ w.image.length ≤ 64
  hot : s.hot.list.length ≤ Config.hotListMax
  eligible : s.hot.eligible ≤ 512
  cmdRing : s.life.params.cmdSize ≠ 0 → s.cmd.head < s.life.params.cmdSize ∧ s.cmd.tail < s.life.params.cmdSize
  evRing : ∀ r, s.ev.ring = some r → s.ev.producer < r.size ∧ s.ev.consumer < r.size
  histories : ∀ c < 128, (s.conv.channels.get c).history.length ≤ s.life.params.debounce
  persist : ∀ c < 512, (s.alarm.recs.get c).persist ≤ 7
  exposure : ∀ c < 512, (s.alarm.recs.get c).exposureS ≤ 4294967295 ∧ (s.alarm.recs.get c).exposureMs ≤ 999
  ages : ∀ p < 8, ∀ a, (s.map.passes.get p).commitAge = some a → a ≤ 65535

/-- The temperature lies in the range of every temperature the bridge computes, where it is present (spec 00, Numbers
and units). -/
def inTempRange (t : Option Int) : Prop := ∀ x, t = some x → -5000 ≤ x ∧ x ≤ 15000

/-- Every temperature the bridge holds lies in its range, and is present exactly where its rule says: a cell's where its
source is neither VOID nor OOS (R92, R106), a channel's supplied one in GOOD and SUSPECT (R47, R62); so are TC
components, spot snapshots (R92), spots (R81), what a recompute's image holds of them (R98), the thermocouple values of
pairings (R84) and the temperatures of rate references (R125). -/
structure State.InRange (s : State) : Prop where
  cells : ∀ c < 512, inTempRange (s.map.cells.get c).temp ∧
    ((s.map.cells.get c).temp = none ↔ (s.map.cells.get c).source = .void ∨ (s.map.cells.get c).source = .oos)
  parts : ∀ c < 512, inTempRange (s.map.cells.get c).tcComp ∧
    inTempRange ((s.map.cells.get c).snap.map Snapshot.value)
  channels : ∀ c < 128, inTempRange (s.conv.channels.get c).supplied ∧ inTempRange (s.conv.channels.get c).lastConv ∧
    ((s.conv.channels.get c).supplied.isSome = true ↔
      (s.conv.channels.get c).quality = .good ∨ (s.conv.channels.get c).quality = .suspect)
  spots : ∀ c < 512, inTempRange ((s.view.spots.get c).map Spot.value)
  pairings : ∀ c < 512, inTempRange ((s.view.pairings.get c).map Pairing.tc)
  references : ∀ c < 512, inTempRange ((s.alarm.recs.get c).ref.map RateRef.temp)
  image : ∀ w, s.map.work = some w → ∀ i ∈ w.image, inTempRange (i.a.bind ChanImage.supplied) ∧
    inTempRange (i.b.bind ChanImage.supplied) ∧ inTempRange (i.spot.map SpotImage.value)

/-- The lifephase, the load in progress and the window set agree (R4, R14, R16, R17, R23): a load is in progress exactly
in LOAD, and only then is a configuration pending; no state rests in SAMPLE, and the set is empty exactly before a
configuration is in force. -/
structure State.Phased (s : State) : Prop where
  load : s.life.load.isSome = true ↔ s.life.phase = .load
  pending : s.life.pendingCfg.isSome = true → s.life.phase = .load
  notSample : s.life.phase ≠ .sample
  unset : s.life.phase = .clear ∨ s.life.phase = .idle → s.path.windows = none
  set : s.life.phase = .run ∨ s.life.phase = .halt → s.path.windows.isSome = true
  first : ∀ j, s.life.load = some j → j.kind = .first → s.path.windows = none
  reload : ∀ j, s.life.load = some j → j.kind = .reload → s.path.windows.isSome = true

/-- Outside RUN nothing is queued, in hand or in flight, no refresh timer runs, and TAKE_OK is deasserted (R14, R33, R45,
R71, R89, R119, R177). -/
structure State.Paused (s : State) : Prop where
  frames : s.life.phase ≠ .run → s.intake.queue = []
  takeOk : s.life.phase ≠ .run → s.intake.takeOk = false
  frame : s.life.phase ≠ .run → s.conv.inHand = none
  lines : s.life.phase ≠ .run → s.view.queue = []
  line : s.life.phase ≠ .run → s.view.inHand = none
  refresh : s.life.phase ≠ .run → s.map.queue = []
  recompute : s.life.phase ≠ .run → s.map.work = none
  timers : s.life.phase ≠ .run → ∀ p < 8, (s.map.passes.get p).timer = none
  exporting : s.life.phase ≠ .run → s.exp.job = none

/-- The refresh queue holds each pass at most once, and no frozen pass and no pass in OOS; the pass in flight is not in
OOS, and its recompute carries the discard mark where the pass is frozen (R95, R110, R113). -/
structure State.Scheduled (s : State) : Prop where
  once : s.map.queue.Nodup
  runnable : ∀ p ∈ s.map.queue, (s.map.passes.get p).frozen = false ∧ (s.map.passes.get p).mode ≠ .oos
  inFlight : ∀ w, s.map.work = some w → (s.map.passes.get w.pass).mode ≠ .oos
  marked : ∀ w, s.map.work = some w → (s.map.passes.get w.pass).frozen = true → w.discard = true

/-- The cell holds ALM# asserted (R138): a set level-unacknowledged flag with its peak at or above the threshold in
force, or a set rate-unacknowledged flag while rate routing is on. -/
def callsAlm (s : State) (c : Nat) : Prop :=
  ((s.alarm.recs.get c).levelUnack = true ∧ s.life.params.threshold.level.code ≤ (s.alarm.recs.get c).peak.code) ∨
    ((s.alarm.recs.get c).rateUnack = true ∧ s.life.params.routing = true)

/-- ALM# is asserted exactly while one of the 512 cells holds it asserted (R138). -/
def State.AlmTrue (s : State) : Prop := s.alarm.alm = true ↔ ∃ c < 512, callsAlm s c

/-- The hot list stands in the order of R150, each cell at most once. -/
def State.Ranked (s : State) : Prop :=
  (s.hot.list.Pairwise fun a b => a.margin < b.margin ∨ (a.margin = b.margin ∧ a.cell < b.cell)) ∧
    (s.hot.list.map HotEntry.cell).Nodup

/-- While the configuration lock is set, a configuration is in force and no load is in progress (R16, R25). -/
def State.Locked (s : State) : Prop := s.life.lock = true → s.life.phase = .run ∨ s.life.phase = .halt

/-! ### Vocabulary -/

/-- A bridge access of this kind is on the memory port, its completion not to be discarded (R12, R13). -/
def onPortKind (s : State) (k : ReqKind) : Prop :=
  ∃ r : BridgeReq, r.kind = k ∧ s.path.memPort = some (.bridge r false)

/-- The command answers a next state that meets `P`. -/
def answers (c : Instr) (s : State) (P : State → Prop) : Prop := ∃ t, exec c s = .next t ∧ P t

/-- The index after the head index (R161). -/
def nextHead (s : State) : Nat := (s.cmd.head + 1) % s.life.params.cmdSize

/-- The head-word write that an entry's end posts (R161, R180). -/
def nextHeadWrite (s : State) : BridgeReq :=
  ⟨.headWord, s.life.params.cmdBase + 0xF04, [BitVec.ofNat 32 (nextHead s)]⟩

/-- The end of a ring entry, no urgent code being pending: the memory port free, the head moved on by one and its write
posted (R161); `u` is `s` with whatever the entry's execution changed. -/
def entryEnded (s u : State) : State :=
  { u with
    cmd := { u.cmd with head := nextHead s }
    path := { u.path with memPort := none, cmdOut := u.path.cmdOut ++ [nextHeadWrite s] } }

/-- A ring entry stands fetched: its record's fetch is on the memory port and no urgent code is pending (R161). -/
def entryFetched (s : State) : Prop := onPortKind s .ringFetch ∧ s.cmd.urgent = none

/-- The Command Engine in BUSY with the fetch of the head's record posted (R161). -/
def headFetched (s : State) : State :=
  { s with
    cmd := { s.cmd with engine := .busy }
    path := { s.path with cmdOut := s.path.cmdOut ++
      [⟨.ringFetch, s.life.params.cmdBase + BitVec.ofNat 32 (16 * s.cmd.head), []⟩] } }

/-- A pending urgent code taken: the register empty, the note clear and the clearing write posted (R165). -/
def codeTaken (s : State) : State :=
  { s with
    cmd := { s.cmd with urgent := none, note := false }
    path := { s.path with cmdOut := s.path.cmdOut ++ [⟨.urgentClear, s.life.params.cmdBase + 0xF08, [0]⟩] } }

/-- An urgent code accepted (R165): taken, and in RUN carried out. FREEZE ALL freezes every configured pass, takes it out of
the refresh queue and marks its recompute in flight; THAW ALL thaws each and appends those it unfreezes, ascending, unless
in OOS (R116); ABORT EXPORT ends an export in flight (R177). -/
def codeAccepted (u : Urgent) (s : State) : State :=
  let named := fun p : Nat => decide (p < s.life.params.passCount)
  if s.life.phase = .run then
    match u with
    | .freezeAll => { codeTaken s with map := { s.map with
        passes := s.map.passes.mapIdx fun p x => { x with frozen := x.frozen || named p }
        queue := s.map.queue.filter fun p => !named p
        work := s.map.work.map fun w => { w with discard := w.discard || named w.pass } } }
    | .thawAll => { codeTaken s with map := { s.map with
        passes := s.map.passes.mapIdx fun p x => { x with frozen := x.frozen && !named p }
        queue := s.map.queue ++ (List.range 8).filter fun p =>
          named p && (s.map.passes.get p).frozen && decide ((s.map.passes.get p).mode ≠ .oos) } }
    | .abortExport =>
      match s.exp.job with
      | none => codeTaken s
      | some j => { codeTaken s with
          exp := { s.exp with job := none, outcome := .aborted }
          path := { (codeTaken s).path with expOut := [] }
          ev := s.ev.take ⟨.exportEnd, BitVec.ofNat 16 j.reached, s.life.clock, 6, BitVec.ofNat 32 s.exp.bytes⟩ }
  else codeTaken s

/-- The commands that a ring record spells (R163). -/
def isRingCommand (c : Instr) : Prop := (encodeRecord c).isSome = true

/-- The command is a row that completes a bridge access of this kind (R13): for a ring fetch its error, or the command
that the fetched record spells. -/
def completesKind (c : Instr) : ReqKind → Prop
  | .eventRecord _ => ∃ e, c = .eventRecordWriteComplete e
  | .producerWord _ => ∃ e, c = .producerWordWriteComplete e
  | .ringFetch => c = .ringFetchError ∨ (isRingCommand c ∧ c.wellFormed = true)
  | .headWord => ∃ e, c = .headWordWriteComplete e
  | .urgentClear => ∃ e, c = .urgentClearWriteComplete e
  | .listFetch => ∃ reply, c = .listFetchComplete reply
  | .stream => ∃ e, c = .streamWriteComplete e
  | .configFetch => ∃ reply, c = .configFetchComplete reply
  | .resultWord => ∃ e, c = .resultWordWriteComplete e

/-! ### Events, hand-overs and grants -/

/-- The Event Writer after these events have been handed to it, in this order (R167). -/
def takes (es : List Event) (w : EventWriter) : EventWriter := es.foldl EventWriter.take w

/-- The events of a cell's alarm work, stamped with the heater clock as they are handed over (R142, R167). -/
def stampedAt (clock : W32) (es : List EventData) : List Event :=
  es.map fun e => ⟨e.1, e.2.1, clock, e.2.2.1, e.2.2.2⟩

/-- A ring entry refused: COMMAND/REFUSED with its index, its opcode and the reason's code (R163). -/
def refused (opcode reason : Nat) (s : State) : State :=
  { s with ev := s.ev.take ⟨.commandRefused, BitVec.ofNat 16 s.cmd.head, s.life.clock, BitVec.ofNat 32 opcode,
      BitVec.ofNat 32 reason⟩ }

/-- The channel is in use: its flag is set and its scanner is configured (R47). -/
def usedChannel (s : State) (c : Nat) : Bool :=
  (s.conv.channels.get c).cfg.inUse && decide (c / 16 < s.life.params.scannerCount)

/-- A channel after a lost-frame notice for a scanner (R65). -/
def lostChannel (s : State) (scanner c : Nat) : Channel :=
  if c / 16 = scanner ∧ usedChannel s c = true then
    { s.conv.channels.get c with sticky := { (s.conv.channels.get c).sticky with frameLost := true } }
  else s.conv.channels.get c

/-- The events of a lost-frame notice for a scanner: FAULT_SET with FRAME_LOST for each in-use channel whose set lacks
it, ascending (R65). -/
def lostEvents (s : State) (scanner : Nat) : List Event :=
  (((List.range 16).map fun i => scanner * 16 + i).filter fun c =>
    usedChannel s c && !(s.conv.channels.get c).sticky.frameLost).map fun c =>
      ⟨.channelFaultSet, BitVec.ofNat 16 c, s.life.clock, 8, 0⟩

/-- The leader event of a rebuild, where the cell at rank 0 changes (R155). -/
def leaderEvents (before after : Hot) (clock : W32) : List Event :=
  if before.list.head?.map HotEntry.cell = after.list.head?.map HotEntry.cell then []
  else [⟨.hotLeader,
    match after.list.head? with | some e => BitVec.ofNat 16 e.cell | none => 0x8000, clock,
    match after.list.head? with | some e => BitVec.ofInt 32 e.margin | none => 0xFFFF8000,
    match before.list.head? with | some e => BitVec.ofNat 32 e.cell | none => 0xFFFF8000⟩]

/-- The host access granted the memory port and driven as received, the fairness count following (R2, R12). -/
def hostGranted (a : HostAccess) (s : State) : State :=
  { s with path := { s.path with
      memPort := some (.host a), upstream := none
      fairness :=
        if s.path.evOut = [] ∧ s.path.cmdOut = [] ∧ s.path.expOut = [] then 0 else s.path.fairness + 1 } }

/-- The row that a host write of this value to the urgent word is (R164). -/
def urgentRow (v : W32) : Instr :=
  if v = 0 then .urgentCancel else if v = 1 then .freezeAll else if v = 2 then .thawAll
  else if v = 3 then .abortExport else .urgentUnknown v

/-- The rows that one granted write beat is handed over as: an intake beat always, a watched word with all four byte
enables set only, a start value other than 1 and 2 not at all (R5, R6, R16). -/
def handedAs (w : Watch) (b : Beat) : List Instr :=
  match w with
  | .frame off => [.frameSlotWrite off b]
  | .line off => [.lineSlotWrite off b]
  | .none => []
  | .tail => if b.be = 0xF#4 then [.tailWordWrite b.data] else []
  | .urgent => if b.be = 0xF#4 then [urgentRow b.data] else []
  | .consumer => if b.be = 0xF#4 then [.consumerWordWrite b.data] else []
  | .start =>
    if b.be = 0xF#4 then if b.data = 1 then [.loadStartValue] else if b.data = 2 then [.loadStopValue] else [] else []

/-- The rows are carried out one after another from `s`, and leave `t`. -/
def carriedOut : List Instr → State → State → Prop
  | [], s, t => t = s
  | c :: cs, s, t => ∃ u, exec c s = .next u ∧ carriedOut cs u t

/-- The word with these contributions, each a field's value already at its place. -/
def wordOfSum (fields : List Nat) : W32 := BitVec.ofNat 32 fields.sum

/-- A signed 16-bit field that may be absent: two's complement, or the marker 0x8000 (R178). -/
def half (x : Option Int) : Nat := match x with | some x => (x % 65536).toNat | none => 0x8000

/-- One bit of a record as a number. -/
def one (b : Bool) : Nat := if b then 1 else 0

end Sys2Proof.Machine
end

