-- ==== Sys2Proof/Certificates/Slice0/Obligations.lean ====
section
/-! DEFINITION. The statements for the provers. -/

open Sys2Proof Sys2Proof.Machine

/-! ### The machine -/

/-- R14 and each block's chapter: what power-on leaves, the clear of 2 ms running. The levels of RESET# and the idle bus
ports are the model's choice (log entry 30).
The state after power-on meets every invariant of Safety.lean. -/
def Obligations.ResetIsClearedAndSound : Prop :=
  (State.reset.life.phase = .clear ∧ State.reset.life.clearLeft = some 2000 ∧ State.reset.life.clock = 0 ∧
      State.reset.life.lock = false ∧ State.reset.life.lastResult = .none ∧ State.reset.path.windows = none ∧
      State.reset.path.extent = ⟨0, [], 0, 0⟩ ∧
      State.reset.path.latch = none ∧ State.reset.path.fairness = 0 ∧ State.reset.path.suppressed = 0 ∧
      State.reset.intake.takeOk = false ∧ State.reset.alarm.alm = false ∧ State.reset.ev.evt = false ∧
      State.reset.cmd.engine = .off ∧ State.reset.cmd.head = 0 ∧ State.reset.cmd.tail = 0 ∧ State.reset.cmd.urgent = none ∧
      State.reset.ev.ring = none ∧ State.reset.ev.pending = [] ∧ State.reset.exp.job = none ∧
      State.reset.hot.list = [] ∧ State.reset.map.queue = [] ∧ State.reset.map.work = none ∧ State.reset.pending = []) ∧
  (State.reset.Bounded ∧ State.reset.Configured ∧ State.reset.Phased ∧ State.reset.Locked ∧ State.reset.Paused ∧
      State.reset.Scheduled ∧ State.reset.InRange ∧ State.reset.AlmTrue ∧ State.reset.Ranked)

/-- A step carries out the command at the front of the queue with the queue's rest; on an empty queue the block idles
(log entry 2). -/
def Obligations.StepRunsFrontCommand : Prop :=
  (∀ (c : Instr) (rest : List Instr) (s : State), s.pending = c :: rest → step s = exec c { s with pending := rest }) ∧
    ∀ s : State, s.pending = [] → step s = .next s

/-- Every well-formed command answers a next state, from every state. A command term that names no step of the part
(UNKNOWN_OPCODE with an opcode that names a command, URGENT_UNKNOWN with a value R164 names) faults: the model's choice
(log entry 27).
No command touches the queue of waiting commands. -/
def Obligations.EveryCommandAnswersAndKeepsTheQueue : Prop :=
  (∀ (c : Instr) (s : State),
      (c.wellFormed = true → ∃ t, exec c s = .next t) ∧ (c.wellFormed = false → ∃ f, exec c s = .fault f)) ∧
  (∀ (c : Instr) (s t : State), exec c s = .next t → t.pending = s.pending)

/-! ### Power, RESET#, straps and the heater clock (R14, R15, R26) -/

/-- R14: power-on puts every block in its cleared state from whatever state it was in; RESET#'s release starts the clear
over its 200 µs or 2 ms.
R14, R13, R2: the assertion of RESET# clears every block, withdraws every waiting bridge request, and leaves a host
access that stands or is on the memory port to be carried to its end; a bridge access on the port has its completion
discarded.
R13, R16: the completion of a bridge access that is to be discarded, by any row that completes its kind and whatever the
row carries, frees the port and does nothing else (log entry 21).
The model's choices here: the zeroing stands at the entry to CLEAR (log entry 6), power-on leaves both bus ports idle
(log entry 25), and a release of RESET# that is not held does nothing (log entry 1). -/
def Obligations.PowerAndResetClearEveryBlock : Prop :=
  ((∀ (held : Bool) (s : State), exec (.powerOn held) s = .next { State.reset with
        life := { State.reset.life with resetHeld := held, clearLeft := if held then none else some 2000 }
        pending := s.pending }) ∧
      (∀ s : State, s.life.resetHeld = true → exec .resetRelease s = .next { s with
        life := { s.life with
          resetHeld := false, clearLeft := some (if s.life.powerClearDone then 200 else 2000) } }) ∧
      ∀ s : State, s.life.resetHeld = false → exec .resetRelease s = .next s) ∧
  (∀ s : State, answers .resetAssert s fun t =>
      t.life = { State.reset.life with resetHeld := true, clearLeft := none, powerClearDone := s.life.powerClearDone } ∧
        t.intake = State.reset.intake ∧ t.conv = State.reset.conv ∧ t.view = State.reset.view ∧
        t.map = State.reset.map ∧ t.alarm = State.reset.alarm ∧ t.hot = State.reset.hot ∧ t.cmd = State.reset.cmd ∧
        t.ev = State.reset.ev ∧ t.exp = State.reset.exp ∧ t.pending = s.pending ∧
        t.path = { State.reset.path with
          upstream := s.path.upstream, memPort := t.path.memPort, hostResp := s.path.hostResp } ∧
        (∀ a, s.path.memPort = some (.host a) → t.path.memPort = some (.host a)) ∧
        (∀ r d, s.path.memPort = some (.bridge r d) → t.path.memPort = some (.bridge r true)) ∧
        (s.path.memPort = none → t.path.memPort = none)) ∧
  (∀ (r : BridgeReq) (c : Instr) (s : State), s.path.memPort = some (.bridge r true) → completesKind c r.kind →
      exec c s = .next { s with path := { s.path with memPort := none } })

/-- R14, R15, R17: at the end of the clear the straps are kept, and SAMPLE ends in IDLE, or with AUTOLOAD high in LOAD, a
first load that fetches from the root address ROOT × 0x10000.
R26: the clock counts one millisecond, wrapping at 2^32, in every lifephase but CLEAR, and a tick changes nothing
else; nothing moves the heater clock but its tick and the clears of power-on and RESET#; a load does not touch it. -/
def Obligations.ClearEndAndTheHeaterClock : Prop :=
  (∀ (root : BitVec 4) (s : State),
    s.life.phase = .clear → s.life.resetHeld = false → s.life.clearLeft.isSome = true →
      exec (.clearEnd root false) s = .next { s with
        life := { s.life with
          phase := .idle, rootStrap := root, autoload := false, clearLeft := none, powerClearDone := true } } ∧
      exec (.clearEnd root true) s = .next { s with
        life := { s.life with
          phase := .load, rootStrap := root, autoload := true, clearLeft := none, powerClearDone := true
          pendingCfg := none
          load := some ⟨.first, .root, BitVec.ofNat 32 (root.toNat * 0x10000) + 16, [], 0, [], []⟩ }
        path := { s.path with
          lifeOut := s.path.lifeOut ++ [⟨.configFetch, BitVec.ofNat 32 (root.toNat * 0x10000), []⟩] } }) ∧
  (∀ s : State,
      (s.life.phase ≠ .clear → exec .heaterClockTick s = .next { s with
        life := { s.life with clock := s.life.clock + 1, trefEdges := 0 } }) ∧
      (s.life.phase = .clear → exec .heaterClockTick s = .next s)) ∧
  (∀ (c : Instr) (s t : State),
      (∀ held, c ≠ .powerOn held) → c ≠ .resetAssert → c ≠ .heaterClockTick → exec c s = .next t →
        t.life.clock = s.life.clock)

/-! ### The memory path (R2 to R13) -/

/-- R2: a host access outside the active map window, at whatever address, waits at the upstream port unchanged; while
the host is held no access is taken. One into the active map window is served at once, as a map-window write or read
(R7, R11).
R3, R4, R7: an address lies in the active map window exactly where a window set is in force, the lifephase is RUN, LOAD
or HALT, and the address lies in the 16 KiB from the map base; its offset is counted from that base.
R2: memory's completion of the host access on the port is returned to the host beat for beat, and the port is
free. -/
def Obligations.HostAccessesPassThrough : Prop :=
  (∀ (a : HostAccess) (s : State),
      (hostHeld s = false → mapHit s a.addr = false →
        exec (.hostAccess a) s = .next { s with path := { s.path with upstream := some a } }) ∧
      (hostHeld s = false → mapHit s a.addr = true →
        exec (.hostAccess a) s = if a.write = true then exec (.mapWrite a.drive) s else exec (.mapRead a.drive) s) ∧
      (hostHeld s = true → exec (.hostAccess a) s = .next s)) ∧
  (∀ (a : W32) (s : State),
      (mapHit s a = true ↔ (s.life.phase = .run ∨ s.life.phase = .load ∨ s.life.phase = .halt) ∧
        ∃ w, s.path.windows = some w ∧ w.map.toNat ≤ a.toNat ∧ a.toNat < w.map.toNat + 16384) ∧
      (mapHit s a = true → ∀ w, s.path.windows = some w → mapOffset s a = a.toNat - w.map.toNat)) ∧
  (∀ (resp : List BeatResp) (a : HostAccess) (s : State), s.path.memPort = some (.host a) →
      exec (.hostAccessComplete resp) s = .next { s with
        path := { s.path with memPort := none, hostResp := some resp } })

/-- R12: the waiting host access outside the map window is granted while the fairness count is below 8 or no Event
Writer, Command Engine or Export Engine request waits; a read is driven as received, the count follows, and nothing else
changes.
R12: when the host is not granted, the port goes to the first waiting request in the order Event Writer, Command
Engine, Export Engine; to the Life Controller only when no other bridge request and no host access waits. The count
returns to 0 and nothing else changes. -/
def Obligations.PortGrantsFollowTheArbiter : Prop :=
  (∀ (a : HostAccess) (s : State),
    s.path.memPort = none → s.path.upstream = some a → mapHit s a.addr = false → a.write = false →
    (s.path.fairness < 8 ∨ (s.path.evOut = [] ∧ s.path.cmdOut = [] ∧ s.path.expOut = [])) →
      exec .memoryPortGrant s = .next (hostGranted a s)) ∧
  (∀ s : State, s.path.memPort = none → (s.path.upstream = none ∨ 8 ≤ s.path.fairness) →
    (∀ r rest, s.path.evOut = r :: rest → exec .memoryPortGrant s = .next { s with
      path := { s.path with memPort := some (.bridge r false), fairness := 0, evOut := rest } }) ∧
    (∀ r rest, s.path.evOut = [] → s.path.cmdOut = r :: rest → exec .memoryPortGrant s = .next { s with
      path := { s.path with memPort := some (.bridge r false), fairness := 0, cmdOut := rest } }) ∧
    (∀ r rest, s.path.evOut = [] → s.path.cmdOut = [] → s.path.expOut = r :: rest →
      exec .memoryPortGrant s = .next { s with
        path := { s.path with memPort := some (.bridge r false), fairness := 0, expOut := rest } }) ∧
    (∀ r rest, s.path.upstream = none → s.path.evOut = [] → s.path.cmdOut = [] → s.path.expOut = [] →
      s.path.lifeOut = r :: rest → exec .memoryPortGrant s = .next { s with
        path := { s.path with memPort := some (.bridge r false), fairness := 0, lifeOut := rest } }))

/-- R3, R4, R5, R6: where a host write is watched, in every state of a run: the start word at the root address in IDLE,
LOAD, RUN and HALT, whatever windows are in force; with a window set in force, the words at offsets 0xF00 and 0xF08 of
the command window and at 0xF04, or 0x1F04 of a ring of 256, of the event window in RUN, LOAD and HALT, by any address in
the four bytes of the word (log entry 32); the 1 KiB intake windows in RUN alone, with the offset from their base.
R5, R6: a granted host write is driven as received and handed over within the grant, beat by beat in address order
under the decode that stands at the grant: a tail, urgent, consumer or start word as its row with the word written when
all four byte enables are set, an intake beat as its row whatever its enables. A watched beat with fewer enables, a
start value other than 1 and 2 (R16), and a beat on any other word hand nothing over, so that nothing but the port
changes. -/
def Obligations.GrantedWritesAreHandedOver : Prop :=
  (∀ (a : W32) (s : State), s.Phased → s.Configured →
    let word := a.toNat / 4 * 4
    let rings := s.life.phase = .run ∨ s.life.phase = .load ∨ s.life.phase = .halt
    (watchOf s a = .start ↔ (s.life.phase = .idle ∨ rings) ∧ word = s.life.rootStrap.toNat * 0x10000) ∧
    (s.path.windows = none → watchOf s a = .start ∨ watchOf s a = .none) ∧
    ∀ w, s.path.windows = some w →
      (watchOf s a = .tail ↔ rings ∧ word = w.cmd.toNat + 0xF00) ∧
      (watchOf s a = .urgent ↔ rings ∧ word = w.cmd.toNat + 0xF08) ∧
      (watchOf s a = .consumer ↔ rings ∧ word = w.event.toNat + if w.evSize = 256 then 0x1F04 else 0xF04) ∧
      (∀ off : BitVec 10, watchOf s a = .frame off ↔
        s.life.phase = .run ∧ w.frame.toNat ≤ a.toNat ∧ a.toNat < w.frame.toNat + 1024 ∧
          off.toNat = a.toNat - w.frame.toNat) ∧
      (∀ off : BitVec 10, watchOf s a = .line off ↔
        s.life.phase = .run ∧ w.line.toNat ≤ a.toNat ∧ a.toNat < w.line.toNat + 1024 ∧
          off.toNat = a.toNat - w.line.toNat)) ∧
  (∀ (addr : W32) (block : BitVec 28) (b b0 b1 b2 b3 : Beat) (s : State),
    s.Phased → s.path.memPort = none →
    (s.path.fairness < 8 ∨ (s.path.evOut = [] ∧ s.path.cmdOut = [] ∧ s.path.expOut = [])) →
    (s.path.upstream = some ⟨true, .single addr b⟩ → mapHit s addr = false →
      answers .memoryPortGrant s (carriedOut (handedAs (watchOf s addr) b) (hostGranted ⟨true, .single addr b⟩ s))) ∧
    (s.path.upstream = some ⟨true, .burst block b0 b1 b2 b3⟩ → mapHit s (block ++ 0#4) = false →
      answers .memoryPortGrant s (carriedOut
        (handedAs (watchOf s (block ++ 0#4)) b0 ++ handedAs (watchOf s ((block ++ 0#4) + 4)) b1 ++
          handedAs (watchOf s ((block ++ 0#4) + 8)) b2 ++ handedAs (watchOf s ((block ++ 0#4) + 12)) b3)
        (hostGranted ⟨true, .burst block b0 b1 b2 b3⟩ s))))

/-- R7, R8: a single-beat read of a record's first word is answered from internal state, never reaching memory; it
copies the whole record into the latch and starts the hold of 100 µs, whatever the latch held.
R7, R9: a single-beat read of another word of a record comes from the copy while the latch holds that record, and
live otherwise; a read in a zero region returns zero. The latch is left as it is.
R10: a burst is served as four single reads in address order, their words returned together. Byte enables play no
part. -/
def Obligations.MapReadsFollowTheLatch : Prop :=
  (∀ (a : W32) (b : Beat) (r : RecordId) (s : State), mapHit s a = true → hostHeld s = false →
      recordAt (mapOffset s a) = some (r, 0) →
        exec (.mapRead (.single a b)) s = .next { s with
          path := { s.path with
            latch := some ⟨r, liveRecord s r, 100⟩
            upstream := none
            hostResp := some [.data ((liveRecord s r).getD 0 0)] } }) ∧
  (∀ (a : W32) (b : Beat) (s : State), mapHit s a = true → hostHeld s = false →
        (∀ r n copy hold, recordAt (mapOffset s a) = some (r, n + 1) → s.path.latch = some ⟨r, copy, hold⟩ →
          exec (.mapRead (.single a b)) s = .next { s with
            path := { s.path with upstream := none, hostResp := some [.data (copy.getD (n + 1) 0)] } }) ∧
        (∀ r n, recordAt (mapOffset s a) = some (r, n + 1) →
          (∀ l, s.path.latch = some l → l.rid ≠ r) →
          exec (.mapRead (.single a b)) s = .next { s with
            path := { s.path with
              upstream := none, hostResp := some [.data ((liveRecord s r).getD (n + 1) 0)] } }) ∧
        (recordAt (mapOffset s a) = none →
          exec (.mapRead (.single a b)) s = .next { s with
            path := { s.path with upstream := none, hostResp := some [.data 0] } })) ∧
  (∀ (block : BitVec 28) (b0 b1 b2 b3 : Beat) (s : State),
      mapHit s (block ++ 0#4) = true → mapHit s ((block ++ 0#4) + 12) = true → hostHeld s = false →
      ∃ w0 w1 w2 w3 t0 t1 t2 t3,
        exec (.mapRead (.single (block ++ 0#4) b0)) s = .next t0 ∧ t0.path.hostResp = some [.data w0] ∧
        exec (.mapRead (.single ((block ++ 0#4) + 4) b1)) t0 = .next t1 ∧ t1.path.hostResp = some [.data w1] ∧
        exec (.mapRead (.single ((block ++ 0#4) + 8) b2)) t1 = .next t2 ∧ t2.path.hostResp = some [.data w2] ∧
        exec (.mapRead (.single ((block ++ 0#4) + 12) b3)) t2 = .next t3 ∧ t3.path.hostResp = some [.data w3] ∧
        exec (.mapRead (.burst block b0 b1 b2 b3)) s = .next { t3 with
          path := { t3.path with hostResp := some [.data w0, .data w1, .data w2, .data w3] } })

/-- R7: the layout of the map window: where each record stands, and that the regions between them belong to none. A
record outside the record extent reads as zero in every word: the header and the cells of a pass at or above the pass
count, cells at or above their pass's cell count, channels of scanners at or above the scanner count, views at or above
the view count. -/
def Obligations.MapWindowLayout : Prop :=
  ((∀ n < 16, recordAt (4 * n) = some (.status, n)) ∧
    (∀ p < 8, ∀ n < 8, recordAt (0x40 + 32 * p + 4 * n) = some (.passHeader p, n)) ∧
    (∀ n < 32, recordAt (0x140 + 4 * n) = some (.hotList, n)) ∧
    (∀ v < 16, ∀ n < 2, recordAt (0x200 + 8 * v + 4 * n) = some (.viewRec v, n)) ∧
    (∀ c < 128, ∀ n < 4, recordAt (0x800 + 16 * c + 4 * n) = some (.channelRec c, n)) ∧
    (∀ c < 512, ∀ n < 4, recordAt (0x1000 + 16 * c + 4 * n) = some (.cellRec c, n)) ∧
    (∀ off, (0x1C0 ≤ off ∧ off < 0x200) ∨ (0x280 ≤ off ∧ off < 0x800) ∨ 0x3000 ≤ off → recordAt off = none)) ∧
  (∀ s : State,
    (∀ p, s.path.extent.passCount ≤ p → liveRecord s (.passHeader p) = List.replicate 8 0) ∧
    (∀ c, s.path.extent.passCount ≤ c / 64 ∨ s.path.extent.cellCounts.getD (c / 64) 0 ≤ c % 64 →
      liveRecord s (.cellRec c) = List.replicate 4 0) ∧
    (∀ c, s.path.extent.scannerCount ≤ c / 16 → liveRecord s (.channelRec c) = List.replicate 4 0) ∧
    (∀ v, s.path.extent.viewCount ≤ v → liveRecord s (.viewRec v) = List.replicate 2 0))

/-- The contents of the cell, channel and view records within the record extent, word by word with every bit of no field
0 (R72, R91, R121, R147 and the layouts of spec 10): the live spot and its age in whole seconds up to 255, the absent
markers, and the newest run of like verdicts with its length and kind. -/
def Obligations.CellChannelAndViewRecords : Prop :=
  ∀ s : State,
    (∀ c < 512, c / 64 < s.path.extent.passCount → c % 64 < s.path.extent.cellCounts.getD (c / 64) 0 →
      let cell := s.map.cells.get c
      let r := s.alarm.recs.get c
      let gen := (s.map.passes.get (c / 64)).gen.toNat
      let spot := s.view.spots.get c
      let age := match spot with | some sp => min ((s.life.clock - sp.time).toNat / 1000) 255 | none => 0
      liveRecord s (.cellRec c) =
        [wordOfSum [gen, 0x100 * cell.source.code, 0x10000 * half cell.temp],
          BitVec.ofNat 32 r.exposureS,
          wordOfSum [half r.margin, 0x10000 * half r.rate],
          wordOfSum [age, 0x100 * r.level.code, 0x400 * r.peak.code, 0x1000 * one cell.disagree,
            0x2000 * one cell.clamped, 0x4000 * one spot.isSome, 0x8000 * one (s.view.pairings.get c).isSome,
            0x10000 * one r.rateAlarm, 0x20000 * one r.levelUnack, 0x40000 * one r.rateUnack, 0x1000000 * gen]]) ∧
    (∀ c < 128, c / 16 < s.path.extent.scannerCount → ∀ (old : List Bool) (n : Nat) (g : Bool),
      (s.conv.channels.get c).history = old ++ List.replicate n g → old.getLast? ≠ some g → n < 16 →
      (n = 0 → old = [] ∧ g = false) →
      let ch := s.conv.channels.get c
      let f := ch.sticky
      liveRecord s (.channelRec c) =
        [wordOfSum [ch.quality.code, 0x100 * one f.scannerFault, 0x200 * one f.openCircuit, 0x400 * one f.overrange,
            0x800 * one f.cjBad, 0x1000 * one f.outOfCurve, 0x2000 * one f.spike, 0x4000 * one f.stale,
            0x8000 * one f.frameLost, 0x10000 * half ch.supplied],
          wordOfSum [half ch.lastConv, 0x10000 * half (some ch.lastRaw)],
          wordOfSum [half (some ch.lastCj), 0x10000 * n, 0x100000 * one g, 0x200000 * one ch.clamped,
            0x400000 * one ch.lastVerdict.isSome],
          ch.lastVerdict.getD 0xFFFF8000]) ∧
    (∀ v < 16, v < s.path.extent.viewCount → (s.view.views.get v).spans.length ≤ 16 →
      let x := s.view.views.get v
      liveRecord s (.viewRec v) =
        [wordOfSum [half (some x.correction), 0x10000 * (x.remembered.getD 0).toNat, 0x1000000 * one x.remembered.isSome],
          wordOfSum [x.accepted.toNat, 0x10000 * x.spans.length,
            0x1000000 * (x.spans.filter fun sp => (s.view.pairings.get sp.cell).isSome).length]])

/-- The contents of the hot list block, the pass header and the status record (R107, R147, R157, R182 and the layouts of
spec 10): sixteen ranks, those beyond the list zero; the counts by source over the pass's cells in the extent and its
worst-margin cell, the smallest margin at the lowest index; the cells that hold ALM# asserted and the lowest of them;
every other word as its owning block stands. -/
def Obligations.HotListHeaderAndStatusRecords : Prop :=
  ∀ s : State,
    (∀ n < 16,
      (∀ e, s.hot.list[n]? = some e → e.cell < 65536 →
        (liveRecord s .hotList).getD (2 * n) 0 = wordOfSum [e.cell, 0x10000 * half (some e.margin)] ∧
        (liveRecord s .hotList).getD (2 * n + 1) 0 = wordOfSum [e.source.code, 0x100 * e.level.code]) ∧
      (s.hot.list[n]? = none →
        (liveRecord s .hotList).getD (2 * n) 0 = 0 ∧ (liveRecord s .hotList).getD (2 * n + 1) 0 = 0)) ∧
    (∀ p < 8, p < s.path.extent.passCount → s.path.extent.cellCounts.getD p 0 ≤ 64 →
      let x := s.map.passes.get p
      let cells := (List.range (s.path.extent.cellCounts.getD p 0)).map fun k => p * 64 + k
      let count := fun src => (cells.filter fun c => decide ((s.map.cells.get c).source = src)).length
      let h := liveRecord s (.passHeader p)
      h.length = 8 ∧
      h.getD 0 0 = wordOfSum [x.gen.toNat, 0x100 * x.mode.code, 0x400 * one x.frozen,
        0x800 * one (decide (p ∈ s.map.queue)), 0x1000 * one (decide (s.map.work.map Work.pass = some p)),
        0x2000 * one x.lastCommit.isSome] ∧
      h.getD 1 0 = x.lastCommit.getD 0xFFFF8000 ∧
      h.getD 2 0 = (match x.commitAge with | some a => BitVec.ofNat 32 a | none => 0xFFFF8000) ∧
      h.getD 3 0 = wordOfSum [count .void, 0x100 * count .tc, 0x10000 * count .fused, 0x1000000 * count .pyro] ∧
      h.getD 4 0 = wordOfSum [count .interp, 0x100 * count .held, 0x10000 * count .oos,
        0x1000000 * (cells.filter fun c => (s.map.cells.get c).disagree).length] ∧
      ((∀ c ∈ cells, (s.alarm.recs.get c).margin = none) → h.getD 5 0 = 0x80008000) ∧
      (∀ c ∈ cells, ∀ m, (s.alarm.recs.get c).margin = some m →
        (∀ d ∈ cells, ∀ k, (s.alarm.recs.get d).margin = some k → m < k ∨ (m = k ∧ c ≤ d)) →
        h.getD 5 0 = wordOfSum [c, 0x10000 * half (some m)]) ∧
      h.getD 6 0 = 0 ∧ h.getD 7 0 = wordOfSum [0x1000000 * x.gen.toNat]) ∧
    (s.Bounded → (s.life.params.cmdSize = 16 ∨ s.life.params.cmdSize = 64) → (∀ r, s.ev.ring = some r → r.size ≤ 256) →
      s.ev.ring.isSome = true →
      let holds := (List.range 512).filter fun c =>
        ((s.alarm.recs.get c).levelUnack &&
            decide (s.life.params.threshold.level.code ≤ (s.alarm.recs.get c).peak.code)) ||
          ((s.alarm.recs.get c).rateUnack && s.life.params.routing)
      liveRecord s .status =
        [wordOfSum ([s.life.phase.code, 0x100 * s.life.lastResult.code, 0x10000 * one s.life.lock,
            0x20000 * s.life.params.threshold.code, 0x80000 * one s.life.params.routing, 0x100000 * one s.alarm.alm,
            0x200000 * one s.intake.takeOk, 0x400000 * one s.ev.evt, 0x800000 * one s.ev.pathError] ++
            (List.range 8).map fun i => 2 ^ (24 + i) * one (s.intake.scanners.get i).silent),
          s.life.clock,
          wordOfSum [s.intake.queue.length, 0x100 * s.view.queue.length, 0x10000 * s.map.queue.length,
            0x1000000 * (s.map.work.map Work.pass).getD 0xFF],
          wordOfSum [holds.length, 0x10000 * holds.head?.getD 0x8000],
          wordOfSum [s.hot.eligible, 0x10000 * s.hot.list.length],
          wordOfSum [s.cmd.head, 0x100 * s.cmd.tail, 0x10000 * s.cmd.engine.code,
            0x1000000 * (match s.cmd.urgent with | some u => u.code | none => 0)],
          wordOfSum [s.ev.producer, 0x100 * s.ev.consumer, 0x10000 * s.ev.lost],
          wordOfSum [one s.exp.job.isSome, 0x100 * s.exp.outcome.code],
          BitVec.ofNat 32 s.exp.bytes, 0, 0, 0, 0, 0, 0, s.life.clock])

/-- R11: a host write into the active map window, single beat or burst, completes toward the host without reaching
memory. With the holdoff timer stopped it hands PATH/MAP_WRITE over with the offset of its (first) beat and the
suppressed count, and the timer starts with 1 s; with the timer running it only counts, saturating at 65,535.
R9, R11: when its hold runs out the latch is emptied; when the holdoff timer is due it stops and the suppressed
count is kept; a timer that is not due stands. -/
def Obligations.MapWritesReachNoMemoryAndTimersRunOut : Prop :=
  (∀ (d : Drive) (s : State), mapHit s d.addr = true → hostHeld s = false →
        (s.path.holdoff = none → exec (.mapWrite d) s = .next { s with
          ev := s.ev.take ⟨.pathMapWrite, BitVec.ofNat 16 (mapOffset s d.addr), s.life.clock, 0,
            BitVec.ofNat 32 s.path.suppressed⟩
          path := { s.path with
            holdoff := some ⟨s.life.clock, 1000⟩
            suppressed := 0
            upstream := none
            hostResp := some (d.beats.map fun _ => .ack) } }) ∧
        (s.path.holdoff.isSome = true → exec (.mapWrite d) s = .next { s with
          path := { s.path with
            suppressed := if 65535 ≤ s.path.suppressed + 1 then 65535 else s.path.suppressed + 1
            upstream := none
            hostResp := some (d.beats.map fun _ => .ack) } })) ∧
  (∀ s : State,
      exec .latchHoldExpiry s = .next { s with path := { s.path with latch := none } } ∧
      (∀ tm, s.path.holdoff = some tm → tm.len ≤ (s.life.clock - tm.start).toNat →
        exec .mapWriteHoldoffExpiry s = .next { s with path := { s.path with holdoff := none } }) ∧
      (∀ tm, s.path.holdoff = some tm → (s.life.clock - tm.start).toNat < tm.len →
        exec .mapWriteHoldoffExpiry s = .next s))

/-! ### Loads and the lock (R16 to R25) -/

/-- R16, R17: the start value begins a first load in IDLE, fetching the root record; in CLEAR, LOAD and RUN, and in HALT
with the lock set, it is ignored.
R16, R24, R45, R71, R89, R119, R166: a start value in HALT with the lock clear begins a reload, every block paused: the
slots cleared, the queues empty, nothing in hand or in flight, the timers stopped, the Command Engine in WAIT_LOAD (from
BUSY once its entry has ended); cells, channels, spots, pairings, alarm records, the hot list and the window set stay,
and the root record is fetched. -/
def Obligations.StartValueBeginsALoad : Prop :=
  (∀ s : State,
      (s.life.phase = .idle → exec .loadStartValue s = .next { s with
        life := { s.life with
          phase := .load, pendingCfg := none
          load := some ⟨.first, .root, BitVec.ofNat 32 (s.life.rootStrap.toNat * 0x10000) + 16, [], 0, [], []⟩ }
        path := { s.path with
          lifeOut := s.path.lifeOut ++ [⟨.configFetch, BitVec.ofNat 32 (s.life.rootStrap.toNat * 0x10000), []⟩] } }) ∧
      (s.life.phase = .load ∨ s.life.phase = .run ∨ s.life.phase = .clear ∨ (s.life.phase = .halt ∧ s.life.lock = true) →
        exec .loadStartValue s = .next s)) ∧
  (∀ s : State, s.life.phase = .halt → s.life.lock = false →
      answers .loadStartValue s fun t =>
        t.life = { s.life with
          phase := .load, pendingCfg := none
          load := some ⟨.reload, .root, BitVec.ofNat 32 (s.life.rootStrap.toNat * 0x10000) + 16, [], 0, [], []⟩ } ∧
        t.path.lifeOut = s.path.lifeOut ++
          [⟨.configFetch, BitVec.ofNat 32 (s.life.rootStrap.toNat * 0x10000), []⟩] ∧
        t.cmd = { s.cmd with
          engine := if s.cmd.engine = .ready ∨ s.cmd.engine = .stalled then .waitLoad else s.cmd.engine } ∧
        t.path.cmdOut = s.path.cmdOut ∧ t.path.memPort = s.path.memPort ∧
        t.intake.queue = [] ∧ t.intake.takeOk = false ∧ (∀ i < 8, (t.intake.scanners.get i).timer = none) ∧
        (∀ i < 8, t.intake.slots.getD i (Slot.empty 18) = Slot.empty 18) ∧
        t.conv = { s.conv with inHand := none } ∧
        t.view = { s.view with slots := t.view.slots, queue := [], inHand := none } ∧
        (∀ i < 4, t.view.slots.getD i (Slot.empty 33) = Slot.empty 33) ∧
        t.map.cells = s.map.cells ∧ t.map.queue = [] ∧ t.map.work = none ∧
        (∀ p < 8, t.map.passes.get p = { s.map.passes.get p with timer := none }) ∧
        t.alarm = s.alarm ∧ t.hot = s.hot ∧ t.path.windows = s.path.windows ∧ t.path.extent = s.path.extent ∧
        t.exp.job = none)

/-- R16, R23: a stop value in LOAD ends the load at once with STOPPED: IDLE after a first load, HALT after a reload; a
waiting configuration fetch is withdrawn, one on the port is to be discarded, the result word is posted, and the
configuration in force stays. After a reload channels, curves and views stay as the load has left them (R22); after a
first load the View Unit and the Map Engine stand cleared (R88, R117), and so does the Conversion Engine (the model's
reading, log entry 34). -/
def Obligations.StopValueEndsTheLoad : Prop :=
  ∀ (j : LoadJob) (s : State), s.life.phase = .load → s.life.load = some j →
    answers .loadStopValue s fun t =>
      t.life = { s.life with
        phase := if j.kind = .first then .idle else .halt
        lastResult := .stopped, load := none, pendingCfg := none } ∧
      t.path.lifeOut = (s.path.lifeOut.filter fun r => decide (r.kind ≠ .configFetch)) ++
        [⟨.resultWord, BitVec.ofNat 32 (s.life.rootStrap.toNat * 0x10000) + 4,
          [BitVec.ofNat 32 (7 + 256 * if j.kind = .first then 2 else 5)]⟩] ∧
      (∀ r d, s.path.memPort = some (.bridge r d) → r.kind = .configFetch →
        t.path.memPort = some (.bridge r true)) ∧
      t.path.windows = s.path.windows ∧ t.path.extent = s.path.extent ∧ t.intake = s.intake ∧
      (j.kind = .first → t.conv = State.reset.conv ∧ t.view = State.reset.view ∧ t.map = State.reset.map ∧
        t.alarm = s.alarm) ∧
      (j.kind = .reload → t.conv = s.conv ∧ t.view = s.view)

/-- R17: a fetched burst that does not complete the root record is kept, and the next burst of the record is asked
for; a root record that passes its checks becomes the pending configuration, and the pass table's first burst is asked
for. Each follow-up fetch is posted within the completion, which is the model's choice (log entry 14).
R17, R18, R23: a memory error on a configuration fetch ends the load with FETCH_ERROR, a root record out of its ranges
with BAD_FORMAT, and one whose windows fail with BAD_WINDOW; the configuration in force stays.
R23: the result-word write's completion frees the port; an error on it is ignored. -/
def Obligations.FetchesFeedOrEndTheLoad : Prop :=
  (∀ (w0 w1 w2 w3 : W32) (j : LoadJob) (s : State),
      onPortKind s .configFetch → s.life.load = some j → j.stage = .root → j.words.length < 16 →
        exec (.configFetchComplete (.words w0 w1 w2 w3)) s = .next { s with
          life := { s.life with load := some { j with words := j.words ++ [w0, w1, w2, w3], addr := j.addr + 16 } }
          path := { s.path with memPort := none, lifeOut := s.path.lifeOut ++ [⟨.configFetch, j.addr, []⟩] } }) ∧
  (∀ (w0 w1 w2 w3 : W32) (c : RootCfg) (j : LoadJob) (s : State),
      onPortKind s .configFetch → s.life.load = some j → j.stage = .root → j.words.length = 16 →
      parseRoot (j.words ++ [w0, w1, w2, w3]) = some c → windowsOk (s.life.rootStrap.toNat * 0x10000) c = true →
        exec (.configFetchComplete (.words w0 w1 w2 w3)) s = .next { s with
          life := { s.life with
            pendingCfg := some c
            load := some { j with stage := .pass, addr := c.passPtr + 16, words := [], index := 0 } }
          path := { s.path with memPort := none, lifeOut := s.path.lifeOut ++ [⟨.configFetch, c.passPtr, []⟩] } }) ∧
  (∀ (reply : FetchReply) (r : LoadResult) (j : LoadJob) (s : State),
      onPortKind s .configFetch → s.life.load = some j →
      (reply = .error ∧ r = .fetchError ∨
        (∃ w0 w1 w2 w3, reply = .words w0 w1 w2 w3 ∧ j.stage = .root ∧ j.words.length = 16 ∧
          (parseRoot (j.words ++ [w0, w1, w2, w3]) = none ∧ r = .badFormat ∨
            ∃ c, parseRoot (j.words ++ [w0, w1, w2, w3]) = some c ∧
              windowsOk (s.life.rootStrap.toNat * 0x10000) c = false ∧ r = .badWindow))) →
      answers (.configFetchComplete reply) s fun t =>
        t.life = { s.life with
          phase := if j.kind = .first then .idle else .halt
          lastResult := r, load := none, pendingCfg := none } ∧
        t.path.windows = s.path.windows ∧ t.path.extent = s.path.extent) ∧
  (∀ (error : Bool) (s : State), onPortKind s .resultWord →
      exec (.resultWordWriteComplete error) s = .next { s with path := { s.path with memPort := none } })

/-- R18, R3: a root record passes its range checks exactly where every field lies in its range and every code in its
table, and its window checks exactly where every base is a multiple of 4 KiB and no address lies in two of the five
extents and the root record; R183: its values are its fields at their places.
R19, R183: a pass record passes exactly where every field lies in its range, H no more than A, its values being its
fields; a channel record not in use always, its ignored fields stored as zeros, which is the model's choice (log entry
10), one in use with BAD_FORMAT for its offset or spike limit before BAD_REFERENCE for its curve, which is the model's
reading (log entry 9); a curve exactly with 2 to 32 breakpoints that increase strictly in both values, BAD_CURVE
otherwise. -/
def Obligations.RootPassChannelAndCurveChecks : Prop :=
  (∀ ws : List W32,
    let f : Nat → Nat → Nat → Nat := fun i lo width => ((ws.getD i 0).toNat / 2 ^ lo) % 2 ^ width
    let size := [16, 64, 256].getD (f 9 8 8) 0
    let ok :=
      ws.getD 2 0 = 1 ∧ f 3 1 2 ≤ 2 ∧ f 9 0 8 ≤ 1 ∧ f 9 8 8 ≤ 2 ∧ 1 ≤ f 9 16 16 ∧ f 9 16 16 < size ∧
        1 ≤ f 10 0 16 ∧ f 10 0 16 ≤ 1000 ∧ 1 ≤ f 10 16 8 ∧ f 10 16 8 ≤ 60 ∧ 1 ≤ f 12 0 8 ∧ f 12 0 8 ≤ 8 ∧
        1 ≤ f 12 8 8 ∧ f 12 8 8 ≤ 8 ∧ f 12 16 8 ≤ 16 ∧ 1 ≤ f 12 24 8 ∧ f 12 24 8 ≤ 4 ∧ 1 ≤ f 13 0 8 ∧ f 13 0 8 ≤ 8 ∧
        ∀ i < 19, 14 ≤ i → (ws.getD i 0).toNat % 16 = 0
    (¬ok → parseRoot ws = none) ∧
    (ok → parseRoot ws = some
      { lockAtLoad := (ws.getD 3 0).getLsbD 0
        threshold := if f 3 1 2 = 0 then .advise else if f 3 1 2 = 1 then .high else .over
        routing := (ws.getD 3 0).getLsbD 3
        frameBase := ws.getD 4 0, lineBase := ws.getD 5 0, cmdBase := ws.getD 6 0, eventBase := ws.getD 7 0
        mapBase := ws.getD 8 0, cmdSize := if f 9 0 8 = 0 then 16 else 64, evSize := size, evThreshold := f 9 16 16
        coalesceMs := f 10 0 16, freshnessS := f 10 16 8, classMask := (ws.getD 11 0).extractLsb' 0 12
        passCount := f 12 0 8, scannerCount := f 12 8 8, viewCount := f 12 16 8, curveCount := f 12 24 8
        debounce := f 13 0 8, passPtr := ws.getD 14 0, channelPtr := ws.getD 15 0, curvePtr := ws.getD 16 0
        cellPtr := ws.getD 17 0, viewPtr := ws.getD 18 0 })) ∧
  (∀ (root : Nat) (c : RootCfg),
    windowsOk root c = true ↔
      (∀ b ∈ [c.frameBase, c.lineBase, c.cmdBase, c.eventBase, c.mapBase], b.toNat % 4096 = 0) ∧
      [(root, 80), (c.frameBase.toNat, 1024), (c.lineBase.toNat, 1024), (c.cmdBase.toNat, 4096),
        (c.eventBase.toNat, if c.evSize = 256 then 8192 else 4096), (c.mapBase.toNat, 16384)].Pairwise
          fun x y => ∀ a, ¬(x.1 ≤ a ∧ a < x.1 + x.2 ∧ y.1 ≤ a ∧ a < y.1 + y.2)) ∧
  (∀ ws : List W32,
    let f : Nat → Nat → Nat → Nat := fun i lo width => ((ws.getD i 0).toNat / 2 ^ lo) % 2 ^ width
    let ok :=
      1 ≤ f 0 0 8 ∧ f 0 0 8 ≤ 64 ∧ f 0 8 8 ≤ 3 ∧ f 0 16 8 ≤ 16 ∧ 2 ≤ f 0 24 8 ∧ f 0 24 8 ≤ 8 ∧
        250 ≤ f 1 0 16 ∧ f 1 0 16 ≤ 60000 ∧ 10 ≤ f 1 16 16 ∧ f 1 16 16 ≤ 600 ∧
        1 ≤ f 2 0 16 ∧ f 2 0 16 ≤ 2000 ∧ 1 ≤ f 2 16 16 ∧ f 2 16 16 ≤ 600 ∧
        f 3 0 16 ≤ 2000 ∧ 1 ≤ f 3 16 16 ∧ f 3 16 16 ≤ 3600 ∧
        f 4 0 16 ≤ 3000 ∧ f 4 16 16 ≤ f 4 0 16 ∧ f 5 0 16 ≤ 500 ∧ 1 ≤ f 5 16 8 ∧ f 5 16 8 ≤ 8 ∧ f 6 0 16 ≤ 15000
    (¬ok → parsePass ws = none) ∧
    (ok → parsePass ws = some
      { cellCount := f 0 0 8
        initialMode := if f 0 8 8 = 0 then .normal else if f 0 8 8 = 1 then .spall else if f 0 8 8 = 2 then .decoke else .oos
        weight := f 0 16 8, spanLimit := f 0 24 8, refreshMs := f 1 0 16, rateWindowS := f 1 16 16, rateLimit := f 2 0 16
        maxAgeS := f 2 16 16, disagreeLimit := f 3 0 16, holdS := f 3 16 16, advisory := f 4 0 16, high := f 4 16 16
        hysteresis := f 5 0 16, persistence := f 5 16 8, decokeLimit := f 6 0 16 })) ∧
  (∀ (curves : Nat) (ws : List W32),
    let f : Nat → Nat → Nat → Nat := fun i lo width => ((ws.getD i 0).toNat / 2 ^ lo) % 2 ^ width
    let offset : Int := ((ws.getD 0 0).extractLsb' 16 16).toInt
    ((ws.getD 0 0).getLsbD 0 = false → parseChannel curves ws = .ok ⟨false, 0, 0, 0⟩) ∧
    ((ws.getD 0 0).getLsbD 0 = true →
      (offset < -500 ∨ 500 < offset ∨ 5000 < f 1 0 16 → parseChannel curves ws = .bad .badFormat) ∧
      (-500 ≤ offset → offset ≤ 500 → f 1 0 16 ≤ 5000 → curves ≤ f 0 8 8 →
        parseChannel curves ws = .bad .badReference) ∧
      (-500 ≤ offset → offset ≤ 500 → f 1 0 16 ≤ 5000 → f 0 8 8 < curves →
        parseChannel curves ws = .ok ⟨true, f 0 8 8, offset, f 1 0 16⟩))) ∧
  (∀ ws : List W32,
    let n := (ws.getD 0 0).toNat % 256
    let point := fun k => (⟨(ws.getD (2 + 2 * k) 0).toInt, ((ws.getD (3 + 2 * k) 0).extractLsb' 0 16).toInt⟩ : Breakpoint)
    (2 ≤ n ∧ n ≤ 32 ∧ (∀ k, k + 1 < n → (point k).emf < (point (k + 1)).emf ∧ (point k).temp < (point (k + 1)).temp) →
      parseCurve ws = .ok ((List.range n).map point)) ∧
    (¬(2 ≤ n ∧ n ≤ 32 ∧ ∀ k, k + 1 < n → (point k).emf < (point (k + 1)).emf ∧ (point k).temp < (point (k + 1)).temp) →
      parseCurve ws = .bad .badCurve))

/-- R20: a cell record with a limit above 15,000 gives BAD_FORMAT; a channel that is not of a configured scanner, not
in use, or named before in this load, or named twice by the record, gives BAD_REFERENCE; otherwise the record passes,
0xFF standing for no channel.
R21: a view record with more than 16 spans or a correction outside −1000..+1000 gives BAD_FORMAT; span by span in
their order, pixels above 63 or in the wrong order give BAD_FORMAT, and a cell that is not configured or named before,
or a pixel shared with an earlier span of the view, gives BAD_REFERENCE; otherwise the record passes.
R22: records are written one by one: a pass, channel, curve, cell or view record that passes replaces the
configuration part of its entry alone, the cell records in the order of the cell table, and one that fails is not
written although those before it in its burst are.
R17: a record that is not complete is kept and the next burst of its table asked for; after the last record of a table
the next table's first burst is asked for, and words beyond the table's end belong to no record (R183). The fetch is
posted within the completion, which is the model's choice (log entry 14). A curve or view record is waited for by its
own count, even one out of range (log entry 8).
Which result a record with two faults gives, a cell's limit and a span's pixels before their references, is the
model's reading of the order of the text (log entry 9). -/
def Obligations.CellAndViewChecksAndTableWrites : Prop :=
  (∀ (channels : Nat) (inUse : Nat → Bool) (used : List Nat) (w : W32),
    let a := w.toNat % 256
    let b := w.toNat / 256 % 256
    let limit := w.toNat / 65536
    let free := fun n => n = 255 ∨ (n < channels ∧ inUse n = true ∧ n ∉ used)
    (15000 < limit → parseCell channels inUse used w = .bad .badFormat) ∧
    (limit ≤ 15000 → ¬(free a ∧ free b ∧ (a = b → a = 255)) →
      parseCell channels inUse used w = .bad .badReference) ∧
    (limit ≤ 15000 → free a → free b → (a = b → a = 255) →
      parseCell channels inUse used w =
        .ok ⟨if a = 255 then none else some a, if b = 255 then none else some b, limit⟩)) ∧
  (∀ (cellOk : Nat → Bool) (used : List Nat) (ws : List W32),
    let n := (ws.getD 0 0).toNat / 65536 % 256
    let correction := ((ws.getD 0 0).extractLsb' 0 16).toInt
    let span := fun k => (⟨(ws.getD (1 + k) 0).toNat % 256, (ws.getD (1 + k) 0).toNat / 256 % 256,
      (ws.getD (1 + k) 0).toNat / 65536⟩ : Span)
    let shape := fun k => (span k).first ≤ 63 ∧ (span k).last ≤ 63 ∧ (span k).first ≤ (span k).last
    let refs := fun k => cellOk (span k).cell = true ∧ (span k).cell ∉ used ∧
      ∀ i < k, (span i).cell ≠ (span k).cell ∧ ((span k).last < (span i).first ∨ (span i).last < (span k).first)
    (16 < n ∨ correction < -1000 ∨ 1000 < correction → parseView cellOk used ws = .bad .badFormat) ∧
    (n ≤ 16 → -1000 ≤ correction → correction ≤ 1000 →
      ((∀ k < n, shape k ∧ refs k) → parseView cellOk used ws = .ok (correction, (List.range n).map span)) ∧
      (∀ k < n, (∀ i < k, shape i ∧ refs i) →
        (¬shape k → parseView cellOk used ws = .bad .badFormat) ∧
        (shape k → ¬refs k → parseView cellOk used ws = .bad .badReference)))) ∧
  (∀ (w0 w1 w2 w3 : W32) (c : RootCfg) (j : LoadJob) (s : State),
    onPortKind s .configFetch → s.life.load = some j → s.life.pendingCfg = some c →
    let ws := j.words ++ [w0, w1, w2, w3]
    let wants := fun (job : LoadJob) (addr : W32) (u : State) => { u with
      life := { s.life with load := some { job with addr := addr + 16 } }
      path := { s.path with memPort := none, lifeOut := s.path.lifeOut ++ [⟨.configFetch, addr, []⟩] } }
    let goes := fun (job : LoadJob) (rest : List W32) (n total : Nat) (st : Stage) (ptr : W32) (u : State) =>
      if j.index + n < total then wants { job with index := j.index + n, words := rest } j.addr u
      else wants { job with stage := st, index := 0, words := [] } ptr u
    let failed := fun (r : LoadResult) (t : State) => t.life.lastResult = r ∧ t.life.load = none ∧ t.view = s.view
    let curveLen := fun l : List W32 => 2 + 2 * ((l.getD 0 0).toNat % 256)
    let viewLen := fun l : List W32 => 1 + (l.getD 0 0).toNat / 65536 % 256
    (j.stage = .pass ∧ ws.length < 8 ∨ j.stage = .curve ∧ ws.length < curveLen ws ∨
        j.stage = .view ∧ ws.length < viewLen ws →
      exec (.configFetchComplete (.words w0 w1 w2 w3)) s = .next (wants { j with words := ws } j.addr s)) ∧
    (j.stage = .pass → ws.length = 8 →
      (∀ x, parsePass ws = some x → exec (.configFetchComplete (.words w0 w1 w2 w3)) s = .next
        (goes j [] 1 c.passCount .channel c.channelPtr { s with
          map := { s.map with passes := s.map.passes.set j.index { s.map.passes.get j.index with cfg := x } } })) ∧
      (parsePass ws = none → j.kind = .reload →
        answers (.configFetchComplete (.words w0 w1 w2 w3)) s fun t =>
          failed .badFormat t ∧ t.conv = s.conv ∧ ∀ p < 8, (t.map.passes.get p).cfg = (s.map.passes.get p).cfg)) ∧
    (j.stage = .channel → j.words = [] → j.index + 1 < c.scannerCount * 16 →
      (∀ x y, parseChannel c.curveCount [w0, w1] = .ok x → parseChannel c.curveCount [w2, w3] = .ok y →
        exec (.configFetchComplete (.words w0 w1 w2 w3)) s = .next
          (goes j [] 2 (c.scannerCount * 16) .curve c.curvePtr { s with
            conv := { s.conv with
              channels := (s.conv.channels.set j.index { s.conv.channels.get j.index with cfg := x }).set (j.index + 1)
                { s.conv.channels.get (j.index + 1) with cfg := y } } })) ∧
      (∀ x r, parseChannel c.curveCount [w0, w1] = .ok x → parseChannel c.curveCount [w2, w3] = .bad r →
        j.kind = .reload → answers (.configFetchComplete (.words w0 w1 w2 w3)) s fun t =>
          failed r t ∧ t.conv = { s.conv with
            channels := s.conv.channels.set j.index { s.conv.channels.get j.index with cfg := x } }) ∧
      (∀ r, parseChannel c.curveCount [w0, w1] = .bad r → j.kind = .reload →
        answers (.configFetchComplete (.words w0 w1 w2 w3)) s fun t => failed r t ∧ t.conv = s.conv)) ∧
    (j.stage = .curve → curveLen ws ≤ ws.length →
      let rest := ws.drop (curveLen ws)
      (∀ x, parseCurve (ws.take (curveLen ws)) = .ok x →
        (j.index + 1 < c.curveCount → rest = [] ∨ rest.length < curveLen rest) →
        exec (.configFetchComplete (.words w0 w1 w2 w3)) s = .next
          (goes j rest 1 c.curveCount .cell c.cellPtr { s with
            conv := { s.conv with curves := s.conv.curves.set j.index x } })) ∧
      (∀ r, parseCurve (ws.take (curveLen ws)) = .bad r → j.kind = .reload →
        answers (.configFetchComplete (.words w0 w1 w2 w3)) s fun t => failed r t ∧ t.conv = s.conv)) ∧
    (j.stage = .cell → j.words = [] → s.Configured → ∀ xs : List CellCfg,
      let total := (configuredCells c s).length
      let cell := fun k => (configuredCells c s).getD (j.index + k) 0
      let used := fun k => j.usedChannels ++ (xs.take k).flatMap fun y => y.chanA.toList ++ y.chanB.toList
      let parse := fun k =>
        parseCell (c.scannerCount * 16) (fun n => (s.conv.channels.get n).cfg.inUse) (used k) (ws.getD k 0)
      (∀ k x, xs[k]? = some x → parse k = .ok x) →
      (1 ≤ xs.length → j.index + xs.length ≤ total →
        (xs.length = 4 ∧ j.index + 4 < total ∨ xs.length ≤ 4 ∧ j.index + xs.length = total ∧ c.viewCount ≠ 0) →
        answers (.configFetchComplete (.words w0 w1 w2 w3)) s fun t =>
          t = goes { j with usedChannels := used xs.length } [] xs.length total .view c.viewPtr
            { s with map := { s.map with cells := t.map.cells } } ∧
          (∀ k x, xs[k]? = some x → t.map.cells.get (cell k) = { s.map.cells.get (cell k) with cfg := x }) ∧
          ∀ i < 512, (∀ k < xs.length, i ≠ cell k) → t.map.cells.get i = s.map.cells.get i) ∧
      (∀ r, xs.length < 4 → xs = [] ∨ j.index + xs.length < total → parse xs.length = .bad r → j.kind = .reload →
        answers (.configFetchComplete (.words w0 w1 w2 w3)) s fun t =>
          failed r t ∧ t.conv = s.conv ∧
            (∀ k x, xs[k]? = some x → (t.map.cells.get (cell k)).cfg = x) ∧
            ∀ i < 512, (∀ k < xs.length, i ≠ cell k) → (t.map.cells.get i).cfg = (s.map.cells.get i).cfg)) ∧
    (j.stage = .view → viewLen ws ≤ ws.length →
      let rest := ws.drop (viewLen ws)
      (∀ x, parseView (cellConfigured c s) j.usedCells (ws.take (viewLen ws)) = .ok x → j.index + 1 < c.viewCount →
        rest = [] ∨ rest.length < viewLen rest →
        exec (.configFetchComplete (.words w0 w1 w2 w3)) s = .next (wants
          { j with index := j.index + 1, words := rest, usedCells := j.usedCells ++ x.2.map Span.cell } j.addr { s with
            view := { s.view with
              views := s.view.views.set j.index
                { s.view.views.get j.index with correction := x.1, spans := x.2 } } })) ∧
      (∀ r, parseView (cellConfigured c s) j.usedCells (ws.take (viewLen ws)) = .bad r → j.kind = .reload →
        answers (.configFetchComplete (.words w0 w1 w2 w3)) s fun t => failed r t ∧ t.conv = s.conv)))

/-- R17, R23: when the last record of the last table passes, wherever in its burst it lies, the load ends OK and RUN is
entered with the pending configuration adopted: the last cell record of a configuration without views, as the first to
the fourth word of its burst behind the cell records before it, and the last view record otherwise, behind any view
records that the same words complete.
R22, R90: the last records are written with the others: each cell of the cell table and each view has the configuration
part of its record. -/
def Obligations.LastRecordEndsTheLoad : Prop :=
  ∀ (w0 w1 w2 w3 : W32) (j : LoadJob) (c : RootCfg) (s : State),
    onPortKind s .configFetch → s.life.load = some j → s.life.pendingCfg = some c →
    let opened := fun t : State => t.life = { s.life with
      phase := .run, lastResult := .ok, load := none, pendingCfg := none, params := c
      lock := s.life.lock || c.lockAtLoad }
    (∀ xs : List CellCfg, j.stage = .cell → j.words = [] → c.viewCount = 0 →
      1 ≤ xs.length → xs.length ≤ 4 → j.index + xs.length = (configuredCells c s).length →
      (∀ k x, xs[k]? = some x →
        parseCell (c.scannerCount * 16) (fun n => (s.conv.channels.get n).cfg.inUse)
          (j.usedChannels ++ (xs.take k).flatMap fun y => y.chanA.toList ++ y.chanB.toList)
          ([w0, w1, w2, w3].getD k 0) = .ok x) →
      answers (.configFetchComplete (.words w0 w1 w2 w3)) s fun t => opened t ∧
        (s.Configured → ∀ k x, xs[k]? = some x →
          (t.map.cells.get ((configuredCells c s).getD (j.index + k) 0)).cfg = x)) ∧
    (∀ xs : List (Int × List Span), j.stage = .view → 1 ≤ xs.length → j.index + xs.length = c.viewCount →
      (∀ k x, xs[k]? = some x →
        let rest := (j.words ++ [w0, w1, w2, w3]).drop ((xs.take k).map fun y => 1 + y.2.length).sum
        let n := 1 + (rest.getD 0 0).toNat / 65536 % 256
        n ≤ rest.length ∧
          parseView (cellConfigured c s) (j.usedCells ++ (xs.take k).flatMap fun y => y.2.map Span.cell)
            (rest.take n) = .ok x) →
      answers (.configFetchComplete (.words w0 w1 w2 w3)) s fun t => opened t ∧
        (s.Configured → ∀ k x, xs[k]? = some x →
          (t.view.views.get (j.index + k)).correction = x.1 ∧ (t.view.views.get (j.index + k)).spans = x.2))

/-- R23 and each block's part of it, at whatever fetch a load ends with OK: the Path Unit takes the new windows and
extent (R4), the lock follows its flag (R25), intake begins afresh (R44), channels (R70) and views (R90) have fresh
state under the configuration parts that the load has written, those at or above their count none, which is the
model's choice (log entry 10), and the configuration parts of passes, cells and views below their count are those
before the last burst but for the records in that burst (R22), passes take their initial modes, those beyond the count
NORMAL with no timer (log entry 29), and cells are HELD, VOID or OOS (R118), rate references and persistence counts
are cleared and margins measured anew (R124, R145), the hot list is empty, the event ring (R172, a write in progress
ending first: log entry 19) and the command ring (R166) keep their indices exactly where base and size are unchanged,
the result word is posted and LIFE/LOAD_END handed over. Where no urgent code was left pending, every pass is thawed
and those in service are queued. -/
def Obligations.LoadEndAdoptsTheConfiguration : Prop :=
  ∀ (reply : FetchReply) (j : LoadJob) (c : RootCfg) (s t : State),
    s.Phased → s.Configured → s.Paused → onPortKind s .configFetch → s.life.load = some j →
    s.life.pendingCfg = some c → exec (.configFetchComplete reply) s = .next t → t.life.load = none → t.life.lastResult = .ok →
      (t.life = { s.life with
          phase := .run, lastResult := .ok, load := none, pendingCfg := none, params := c
          lock := s.life.lock || c.lockAtLoad } ∧
        t.path.windows = some ⟨c.frameBase, c.lineBase, c.cmdBase, c.eventBase, c.mapBase, c.evSize⟩ ∧
        t.path.latch = none ∧
        t.path.extent = ⟨c.passCount, (List.range c.passCount).map fun p => (t.map.passes.get p).cfg.cellCount,
          c.scannerCount, c.viewCount⟩ ∧
        t.path.lifeOut = s.path.lifeOut ++
          [⟨.resultWord, BitVec.ofNat 32 (s.life.rootStrap.toNat * 0x10000) + 4, [0x00000401]⟩]) ∧
      (t.intake = { s.intake with takeOk := true, scanners := t.intake.scanners } ∧
        ∀ i < 8, t.intake.scanners.get i =
          ⟨none, if i < c.scannerCount then some ⟨s.life.clock, c.freshnessS * 1000⟩ else none, false⟩) ∧
      (t.conv = { s.conv with channels := t.conv.channels } ∧ ∀ i < 128,
        let cfg := if i / 16 < c.scannerCount then (s.conv.channels.get i).cfg else ⟨false, 0, 0, 0⟩
        t.conv.channels.get i = ⟨cfg, if cfg.inUse = true then .nodata else .unused,
          none, none, 0, 0, [], ⟨false, false, false, false, false, false, false, false⟩, false, none⟩) ∧
      (t.view = { s.view with views := t.view.views, spots := t.view.spots, pairings := t.view.pairings } ∧
        (∀ v < 16, (t.view.views.get v).remembered = none ∧ (t.view.views.get v).accepted = 0 ∧
          (c.viewCount ≤ v → (t.view.views.get v).spans = [] ∧ (t.view.views.get v).correction = 0)) ∧
        ∀ i < 512, t.view.spots.get i = none ∧ t.view.pairings.get i = none) ∧
      ((∀ v < 16, v < c.viewCount → j.stage = .cell ∨ v < j.index →
          (t.view.views.get v).correction = (s.view.views.get v).correction ∧
            (t.view.views.get v).spans = (s.view.views.get v).spans) ∧
        (∀ p < 8, (t.map.passes.get p).cfg = (s.map.passes.get p).cfg) ∧
        (j.stage = .view → ∀ i < 512, (t.map.cells.get i).cfg = (s.map.cells.get i).cfg) ∧
        (j.stage = .cell → j.words = [] → j.index < (configuredCells c s).length →
          ∀ i < 512, i ∉ ((configuredCells c s).drop j.index).take 4 →
            (t.map.cells.get i).cfg = (s.map.cells.get i).cfg)) ∧
      (t.map.work = none ∧ ∀ p < 8,
        (p < c.passCount → (t.map.passes.get p).mode = (t.map.passes.get p).cfg.initialMode ∧
          (t.map.passes.get p).gen = (s.map.passes.get p).gen + 1 ∧
          (t.map.passes.get p).timer = some ⟨s.life.clock, (t.map.passes.get p).cfg.refreshMs⟩) ∧
        (c.passCount ≤ p → (t.map.passes.get p).mode = .normal ∧
          (t.map.passes.get p).gen = (s.map.passes.get p).gen ∧ (t.map.passes.get p).timer = none) ∧
        (t.map.passes.get p).lastCommit = (s.map.passes.get p).lastCommit ∧
        (t.map.passes.get p).commitAge = (s.map.passes.get p).commitAge) ∧
      (∀ i < 512,
        let cfg := (t.map.cells.get i).cfg
        let x := t.map.passes.get (i / 64)
        t.map.cells.get i =
          if i / 64 < c.passCount ∧ i % 64 < x.cfg.cellCount then
            if x.cfg.initialMode = .oos then ⟨cfg, none, .oos, false, false, none, none, none⟩
            else if (s.map.cells.get i).temp.isSome = true then
              ⟨cfg, (s.map.cells.get i).temp, .held, false, (s.map.cells.get i).clamped, some s.life.clock, none, none⟩
            else ⟨cfg, none, .void, false, false, none, none, none⟩
          else ⟨cfg, none, .void, false, false, none, none, none⟩) ∧
      ((∀ i < 512, t.alarm.recs.get i =
          { s.alarm.recs.get i with
            ref := none, persist := 0
            margin := if (t.map.cells.get i).source = .held then
                (t.map.cells.get i).temp.map fun x =>
                  (if (t.map.passes.get (i / 64)).mode = .decoke then (t.map.passes.get (i / 64)).cfg.decokeLimit
                    else (t.map.cells.get i).cfg.limit) - x
              else none }) ∧
        t.AlmTrue ∧ t.hot.list = [] ∧ t.hot.eligible = 0) ∧
      (s.cmd.urgent = none →
        (∀ p < c.passCount, (t.map.passes.get p).frozen = false) ∧
        t.map.queue = (List.range c.passCount).filter fun p =>
          decide ((t.map.passes.get p).cfg.initialMode ≠ .oos)) ∧
      ((j.kind = .reload ∧ s.life.params.cmdBase = c.cmdBase ∧ s.life.params.cmdSize = c.cmdSize →
          t.cmd.head = s.cmd.head ∧ t.cmd.tail = s.cmd.tail ∧
            (outstanding s .commandEngine = false → s.cmd.engine = .waitLoad → s.cmd.urgent = none →
              s.cmd.head = s.cmd.tail → t.cmd = { s.cmd with engine := .ready }) ∧
            (∀ u, outstanding s .commandEngine = false → s.cmd.engine = .waitLoad → s.cmd.urgent = some u →
              t.cmd.urgent = none ∧ t.path.cmdOut = [⟨.urgentClear, c.cmdBase + 0xF08, [0]⟩])) ∧
        (¬(j.kind = .reload ∧ s.life.params.cmdBase = c.cmdBase ∧ s.life.params.cmdSize = c.cmdSize) →
          t.cmd.head = 0 ∧ t.cmd.tail = 0 ∧
            t.path.cmdOut = s.path.cmdOut ++ [⟨.headWord, c.cmdBase + 0xF04, [0]⟩] ∧
            (s.cmd.engine ≠ .busy → t.cmd.engine = .ready ∧ t.cmd.urgent = s.cmd.urgent))) ∧
      (outstanding s .eventWriter = false →
        let r : EvRing := ⟨c.eventBase, c.evSize, c.evThreshold, c.coalesceMs, c.classMask⟩
        let kept := ∃ o, s.ev.ring = some o ∧ o.base = r.base ∧ o.size = r.size
        let told := takes (⟨.lifeLoadEnd, 0x8000, s.life.clock, 1, 4⟩ :: leaderEvents s.hot t.hot s.life.clock)
        (kept → t.ev = { told { s.ev with ring := some r, adopt := none } with evt := t.ev.evt } ∧ t.path.evOut = []) ∧
        (¬kept → t.ev = { told { s.ev with
              ring := some r, adopt := none, producer := 0, consumer := 0, coalesce := none, expired := false } with
            evt := t.ev.evt } ∧
          t.path.evOut =
            [⟨.producerWord false, r.base + BitVec.ofNat 32 (if r.size = 256 then 0x1F00 else 0xF00), [0]⟩]) ∧
        t.ev.evt = (decide (r.threshold ≤ unconsumed t.ev) || t.ev.expired)) ∧
      (outstanding s .eventWriter = true →
        t.ev.adopt = some ⟨c.eventBase, c.evSize, c.evThreshold, c.coalesceMs, c.classMask⟩ ∧
          t.ev.ring = s.ev.ring ∧ t.ev.producer = s.ev.producer ∧ t.ev.consumer = s.ev.consumer)

/-- R23, R120, R124, R146, R153, R166: a reload that ends with another result than OK, by a stop value or at whatever
fetch, enters HALT: the cells of the record extent are HELD or VOID, the VOID ones' last direct times left as they were,
which is the model's choice (log entry 35), and their margins absent, the other alarm fields kept; the generations of the extent's passes advance, their modes and freezes stay; configuration
parts alone may differ, by the records that passed before (R22). The configuration in force, its windows and extent, the
lock, the spots, the pairings and the ring indices stay. LIFE/LOAD_END is handed over and then the leader's going, and
the Command Engine leaves WAIT_LOAD. -/
def Obligations.FailedReloadHolds : Prop :=
  ∀ (c : Instr) (j : LoadJob) (s t : State),
    s.life.phase = .load → s.life.load = some j → j.kind = .reload →
    (c = .loadStopValue ∨ ∃ reply, c = .configFetchComplete reply) → exec c s = .next t → t.life.phase = .halt →
      let inside := fun i : Nat =>
        i / 64 < s.path.extent.passCount ∧ i % 64 < s.path.extent.cellCounts.getD (i / 64) 0
      (t.life = { s.life with
          phase := .halt, lastResult := t.life.lastResult, load := none, pendingCfg := none } ∧
        t.life.lastResult ≠ .ok ∧ t.path.windows = s.path.windows ∧ t.path.extent = s.path.extent ∧
        t.intake = s.intake ∧ t.view.spots = s.view.spots ∧ t.view.pairings = s.view.pairings) ∧
      (∀ i < 128, t.conv.channels.get i = { s.conv.channels.get i with cfg := (t.conv.channels.get i).cfg }) ∧
      (∀ i < 512, ∀ old, old = { s.map.cells.get i with cfg := (t.map.cells.get i).cfg } →
        (inside i → t.map.cells.get i =
          if old.temp.isSome = true then
            { old with source := .held, disagree := false, tcComp := none, snap := none }
          else { old with source := .void, disagree := false, clamped := false, tcComp := none, snap := none }) ∧
        (¬inside i → t.map.cells.get i = old)) ∧
      (∀ p < 8, t.map.passes.get p =
        { s.map.passes.get p with
          cfg := (t.map.passes.get p).cfg
          gen := if p < s.path.extent.passCount then (s.map.passes.get p).gen + 1 else (s.map.passes.get p).gen }) ∧
      (t.map.queue = s.map.queue ∧ t.map.work = s.map.work) ∧
      (∀ i < 512, t.alarm.recs.get i =
        { s.alarm.recs.get i with
          margin := if (t.map.cells.get i).source = .void then none else (s.alarm.recs.get i).margin }) ∧
      (t.alarm.alm = s.alarm.alm ∧ t.hot = hotOf t ∧
        ((∀ i < 512, ¬inside i → (s.map.cells.get i).source = .void) → t.hot.list = [] ∧ t.hot.eligible = 0)) ∧
      (t.ev = { takes (⟨.lifeLoadEnd, 0x8000, s.life.clock, BitVec.ofNat 32 t.life.lastResult.code, 5⟩ ::
          leaderEvents s.hot t.hot s.life.clock) s.ev with evt := t.ev.evt }) ∧
      (t.cmd.head = s.cmd.head ∧ t.cmd.tail = s.cmd.tail ∧ t.cmd.engine ≠ .waitLoad ∧
        (outstanding s .commandEngine = false → s.cmd.engine = .waitLoad → s.cmd.urgent = none →
          s.cmd.head = s.cmd.tail → t.cmd = { s.cmd with engine := .ready }) ∧
        (∀ u, outstanding s .commandEngine = false → s.cmd.engine = .waitLoad → s.cmd.urgent = some u →
          t.cmd.urgent = none ∧ t.path.cmdOut = [⟨.urgentClear, s.life.params.cmdBase + 0xF08, [0]⟩]))

/-- R25: while the configuration lock is set, in RUN or HALT, no command but power-on and RESET# clears it, and none
changes a curve, a channel's or a cell's configuration, a view's correction or spans, or the window bases. -/
def Obligations.LockedConfigurationIsKept : Prop :=
  ∀ (c : Instr) (s t : State),
    s.Phased → s.Locked → s.life.lock = true → (∀ held, c ≠ .powerOn held) → c ≠ .resetAssert → exec c s = .next t →
      t.life.lock = true ∧ t.conv.curves = s.conv.curves ∧
        (∀ i < 128, (t.conv.channels.get i).cfg = (s.conv.channels.get i).cfg) ∧
        (∀ i < 512, (t.map.cells.get i).cfg = (s.map.cells.get i).cfg) ∧
        (∀ i < 8, (t.map.passes.get i).cfg = (s.map.passes.get i).cfg) ∧
        (∀ i < 16, (t.view.views.get i).correction = (s.view.views.get i).correction ∧
          (t.view.views.get i).spans = (s.view.views.get i).spans) ∧
        t.path.windows = s.path.windows


/-! ### Frames, lines, channels and spots (R27 to R92) -/

/-- R27, R28, R73: a write beat that completes no slot is merged into its word, each byte whose enable is set replacing
the byte of its lane, and the word is captured when lane 3 is written; every other word of the slot and every other slot
stays; words above 17 of a frame slot and above 32 of a line slot are ordinary memory. -/
def Obligations.SlotBeatsMergeByLane : Prop :=
  ∀ (off : BitVec 10) (b : Beat) (s : State), s.life.phase = .run → s.path.windows.isSome = true →
    let merged := fun before after : W32 => ∀ lane < 4,
      after.extractLsb' (8 * lane) 8 = (if b.be.getLsbD lane then b.data else before).extractLsb' (8 * lane) 8
    (off.toNat % 128 / 4 < 17 ∨ (off.toNat % 128 / 4 = 17 ∧ b.be.getLsbD 3 = false) →
      answers (.frameSlotWrite off b) s fun t =>
        let n := off.toNat % 128 / 4
        let before := s.intake.slots.getD (off.toNat / 128) (Slot.empty 18)
        let after := t.intake.slots.getD (off.toNat / 128) (Slot.empty 18)
        t = { s with intake := { s.intake with slots := t.intake.slots } } ∧
        (∀ i < 8, i ≠ off.toNat / 128 →
          t.intake.slots.getD i (Slot.empty 18) = s.intake.slots.getD i (Slot.empty 18)) ∧
        (∀ w < 18, w ≠ n →
          after.words.get w = before.words.get w ∧ after.captured.get w = before.captured.get w) ∧
        merged (before.words.get n) (after.words.get n) ∧
        after.captured.get n = (before.captured.get n || b.be.getLsbD 3)) ∧
    (17 < off.toNat % 128 / 4 → exec (.frameSlotWrite off b) s = .next s) ∧
    (off.toNat % 256 / 4 < 32 ∨ (off.toNat % 256 / 4 = 32 ∧ b.be.getLsbD 3 = false) →
      answers (.lineSlotWrite off b) s fun t =>
        let n := off.toNat % 256 / 4
        let before := s.view.slots.getD (off.toNat / 256) (Slot.empty 33)
        let after := t.view.slots.getD (off.toNat / 256) (Slot.empty 33)
        t = { s with view := { s.view with slots := t.view.slots } } ∧
        (∀ i < 4, i ≠ off.toNat / 256 →
          t.view.slots.getD i (Slot.empty 33) = s.view.slots.getD i (Slot.empty 33)) ∧
        (∀ w < 33, w ≠ n →
          after.words.get w = before.words.get w ∧ after.captured.get w = before.captured.get w) ∧
        merged (before.words.get n) (after.words.get n) ∧
        after.captured.get n = (before.captured.get n || b.be.getLsbD 3)) ∧
    (32 < off.toNat % 256 / 4 → exec (.lineSlotWrite off b) s = .next s)

/-- R29, R31, R33: the last word's capture completes a frame slot and clears its buffer. With every earlier word captured
and room in the queue the frame joins it, TAKE_OK falling at 28 frames; at a full queue it is dropped with
INTAKE/QUEUE_FULL and, from a configured scanner, a lost-frame notice (R32, R65); with words missing INTAKE/INCOMPLETE
carries their number and the lowest of them.
R30, R75, R179: the frame's and the line's fields are those of the slot's words, the last one merged by lane as it is
written; bits of no field are not kept.
R74, R76: likewise for a line slot, with PYRO/LINE_QUEUE_FULL and PYRO/LINE_INCOMPLETE and no notice. -/
def Obligations.CompletedSlotsAreQueuedOrReported : Prop :=
  ∀ (off : BitVec 10) (b : Beat) (word : Nat → W32) (s : State),
    s.life.phase = .run → s.path.windows.isSome = true → b.be.getLsbD 3 = true →
    (off.toNat % 128 / 4 = 17 →
      let i := off.toNat / 128
      let slot := s.intake.slots.getD i (Slot.empty 18)
      (∀ w < 17, word w = slot.words.get w) →
      (∀ lane < 4, (word 17).extractLsb' (8 * lane) 8 =
        (if b.be.getLsbD lane then b.data else slot.words.get 17).extractLsb' (8 * lane) 8) →
      let missing := (List.range 17).filter fun w => !slot.captured.get w
      let f : Frame :=
        { scanner := (word 0).extractLsb' 0 8, seq := (word 0).extractLsb' 8 8, fault := (word 0).getLsbD 16
          overrun := (word 0).getLsbD 17, cj := ((word 1).extractLsb' 0 16).toInt
          inputs := Table.build 16 fun k =>
            ⟨((word (2 + k)).extractLsb' 0 16).toInt, (word (2 + k)).getLsbD 16, (word (2 + k)).getLsbD 17⟩ }
      let cleared := { s.intake with slots := s.intake.slots.set i (Slot.empty 18) }
      (missing = [] → s.intake.queue.length < 32 → exec (.frameSlotWrite off b) s = .next { s with
        intake := { cleared with
          queue := s.intake.queue ++ [f]
          takeOk := if 28 ≤ s.intake.queue.length + 1 then false else s.intake.takeOk } }) ∧
      (missing = [] → 32 ≤ s.intake.queue.length → answers (.frameSlotWrite off b) s fun t =>
        t = { s with
          intake := cleared
          conv := { s.conv with channels := t.conv.channels }
          ev := takes (⟨.intakeQueueFull, BitVec.ofNat 16 i, s.life.clock, BitVec.ofNat 32 f.scanner.toNat,
              BitVec.ofNat 32 f.seq.toNat⟩ ::
            if f.scanner.toNat < s.life.params.scannerCount then lostEvents s f.scanner.toNat else []) s.ev } ∧
        ∀ c < 128, t.conv.channels.get c = lostChannel s f.scanner.toNat c) ∧
      (∀ w rest, missing = w :: rest → exec (.frameSlotWrite off b) s = .next { s with
        intake := cleared
        ev := s.ev.take ⟨.intakeIncomplete, BitVec.ofNat 16 i, s.life.clock, BitVec.ofNat 32 (rest.length + 1),
          BitVec.ofNat 32 w⟩ })) ∧
    (off.toNat % 256 / 4 = 32 →
      let i := off.toNat / 256
      let slot := s.view.slots.getD i (Slot.empty 33)
      (∀ w < 32, word w = slot.words.get w) →
      (∀ lane < 4, (word 32).extractLsb' (8 * lane) 8 =
        (if b.be.getLsbD lane then b.data else slot.words.get 32).extractLsb' (8 * lane) 8) →
      let missing := (List.range 32).filter fun w => !slot.captured.get w
      let l : Line :=
        { view := (word 0).extractLsb' 0 8, seq := (word 0).extractLsb' 8 8, fault := (word 0).getLsbD 16
          count := (word 0).toNat / 2 ^ 24 % 128
          pixels := Table.build 64 fun p => (word (1 + p / 2)).toNat / 2 ^ (16 * (p % 2)) % 65536 }
      let cleared := { s.view with slots := s.view.slots.set i (Slot.empty 33) }
      (missing = [] → s.view.queue.length < 8 → exec (.lineSlotWrite off b) s = .next { s with
        view := { cleared with queue := s.view.queue ++ [l] } }) ∧
      (missing = [] → 8 ≤ s.view.queue.length → exec (.lineSlotWrite off b) s = .next { s with
        view := cleared
        ev := s.ev.take ⟨.pyroLineQueueFull, BitVec.ofNat 16 i, s.life.clock, BitVec.ofNat 32 l.view.toNat,
          BitVec.ofNat 32 l.seq.toNat⟩ }) ∧
      (∀ w rest, missing = w :: rest → exec (.lineSlotWrite off b) s = .next { s with
        view := cleared
        ev := s.ev.take ⟨.pyroLineIncomplete, BitVec.ofNat 16 i, s.life.clock, BitVec.ofNat 32 (rest.length + 1),
          BitVec.ofNat 32 w⟩ }))

/-- R34, R35, R36: in RUN with no frame in hand the head frame is taken; one of no configured scanner and one that repeats
its scanner's remembered sequence are discarded with their events, TAKE_OK rising at 24 frames (R33), nothing else
touched.
R37, R38, R39, R42, R49: any other is accepted: it is in hand with its channels' configuration parts, its sequence is
remembered, the freshness timer restarts and the silent flag is clear; RESUMED is handed over where the scanner was
silent, SEQ_GAP where its sequence is not the remembered one plus 1, and one lost-frame notice at a gap or an overrun
flag (R65), in that order. -/
def Obligations.FramesAreTakenInTurn : Prop :=
  ∀ (f : Frame) (rest : List Frame) (s : State),
    s.life.phase = .run → s.conv.inHand = none → s.intake.queue = f :: rest →
    let i := f.scanner.toNat
    let sc := s.intake.scanners.get i
    let popped := { s.intake with queue := rest, takeOk := if rest.length ≤ 24 then true else s.intake.takeOk }
    (s.life.params.scannerCount ≤ i → exec .frameTake s = .next { s with
      intake := popped
      ev := s.ev.take ⟨.intakeBadScanner, BitVec.ofNat 16 i, s.life.clock, BitVec.ofNat 32 f.seq.toNat, 0⟩ }) ∧
    (i < s.life.params.scannerCount → sc.remembered = some f.seq → exec .frameTake s = .next { s with
      intake := popped
      ev := s.ev.take ⟨.intakeDuplicate, BitVec.ofNat 16 i, s.life.clock, BitVec.ofNat 32 f.seq.toNat, 0⟩ }) ∧
    (i < s.life.params.scannerCount → sc.remembered ≠ some f.seq →
      let gap : Option Byte := sc.remembered.bind fun m => if f.seq = m + 1 then none else some (f.seq - m - 1)
      let lost := gap.isSome || f.overrun
      answers .frameTake s fun t =>
        t = { s with
          intake := { popped with
            scanners := s.intake.scanners.set i
              ⟨some f.seq, some ⟨s.life.clock, s.life.params.freshnessS * 1000⟩, false⟩ }
          conv := { s.conv with
            channels := t.conv.channels
            inHand := some ⟨f, Table.build 16 fun k => (s.conv.channels.get (i * 16 + k)).cfg⟩ }
          ev := takes
            ((if sc.silent = true then
                [⟨.scannerResumed, BitVec.ofNat 16 i, s.life.clock, BitVec.ofNat 32 f.seq.toNat, 0⟩] else []) ++
              (match gap with
                | some g => [⟨.scannerSeqGap, BitVec.ofNat 16 i, s.life.clock, BitVec.ofNat 32 g.toNat,
                    BitVec.ofNat 32 f.seq.toNat⟩]
                | none => []) ++
              if lost = true then lostEvents s i else []) s.ev } ∧
        ∀ c < 128, t.conv.channels.get c = if lost = true then lostChannel s i c else s.conv.channels.get c)

/-- R49, R51, R58, R59, R60, R61, R64: the completion of the frame in hand gives every channel of its scanner captured in
use the reading and the time of the verdict, the temperature converted (saturated, with CLAMPED, R55) where one was, the
verdict at the newest end of its history, the verdict's kind in its sticky set, and its quality and supplied temperature
by the debounce: a GOOD verdict gives GOOD from GOOD and SUSPECT and, at D in a row, from any other; a bad one gives
SUSPECT from GOOD and SUSPECT with the value held, and FAILED at D in a row. A channel whose table entry stands unused
stays so.
R63: FAULT_SET and then QUALITY go over channel by channel, ascending; every other channel and every configuration part
stays. -/
def Obligations.ConversionMovesEveryChannel : Prop :=
  ∀ (job : FrameJob) (s : State), s.conv.inHand = some job → job.frame.scanner.toNat < 8 →
    let f := job.frame
    let at_ := fun i => f.scanner.toNat * 16 + i
    let judged := fun i => judge f.fault f.cj (f.inputs.get i) (job.cfgs.get i) (s.conv.curves.get (job.cfgs.get i).curve)
      (s.conv.channels.get (at_ i)).lastConv
    answers .frameConversionComplete s fun t =>
      (t = { s with
        conv := { s.conv with inHand := none, channels := t.conv.channels }
        ev := takes ((List.range 16).flatMap fun i =>
          let old := s.conv.channels.get (at_ i)
          let new := t.conv.channels.get (at_ i)
          if (job.cfgs.get i).inUse = false then [] else
            (match (judged i).verdict with
              | some k => if old.sticky.has k = true then [] else
                [⟨.channelFaultSet, BitVec.ofNat 16 (at_ i), s.life.clock, BitVec.ofNat 32 k.code,
                  BitVec.ofNat 32 f.seq.toNat⟩]
              | none => []) ++
            if new.quality = old.quality then [] else
              [⟨.channelQuality, BitVec.ofNat 16 (at_ i), s.life.clock, BitVec.ofNat 32 old.quality.code,
                BitVec.ofNat 32 new.quality.code⟩]) s.ev }) ∧
      (∀ c < 128, c / 16 ≠ f.scanner.toNat ∨ (job.cfgs.get (c % 16)).inUse = false →
        t.conv.channels.get c = s.conv.channels.get c) ∧
      (∀ i < 16, (job.cfgs.get i).inUse = true →
        let old := s.conv.channels.get (at_ i)
        let new := t.conv.channels.get (at_ i)
        let o := judged i
        let d := s.life.params.debounce
        let full := new.history.length = d ∧ ∀ v ∈ new.history, v = o.verdict.isNone
        let same := old.quality ≠ .good ∧ old.quality ≠ .suspect ∧ old.quality ≠ .unused
        (new.cfg = old.cfg ∧ new.lastRaw = (f.inputs.get i).raw ∧ new.lastCj = f.cj ∧
          new.lastVerdict = some s.life.clock) ∧
        (∀ x, o.sum = some x → new.lastConv = some (saturate (-5000) 15000 x) ∧
          (new.clamped = true ↔ x < -5000 ∨ 15000 < x)) ∧
        (o.sum = none → new.lastConv = old.lastConv ∧ new.clamped = old.clamped) ∧
        new.history = (old.history ++ [o.verdict.isNone]).drop (old.history.length + 1 - d) ∧
        new.sticky = (match o.verdict with | some k => old.sticky.add k | none => old.sticky) ∧
        (∀ x, o.verdict = none → o.sum = some x →
          (old.quality = .good ∨ old.quality = .suspect ∨ (same ∧ full) →
            new.quality = .good ∧ new.supplied = some (saturate (-5000) 15000 x)) ∧
          (same → ¬full → new.quality = old.quality ∧ new.supplied = none)) ∧
        (o.verdict.isSome = true →
          (old.quality ≠ .unused → full → new.quality = .failed ∧ new.supplied = none) ∧
          (old.quality = .good ∨ old.quality = .suspect → ¬full →
            new.quality = .suspect ∧ new.supplied = old.supplied) ∧
          (same → ¬full → new.quality = old.quality ∧ new.supplied = none)) ∧
        (old.quality = .unused → new.quality = .unused ∧ new.supplied = none))

/-- R56: the verdict of a reading is the first that holds of SCANNER_FAULT, OPEN, OVERRANGE, CJ_BAD (R52: a junction
outside −400..1000 or outside the curve), OUT_OF_CURVE (R54), SPIKE (R57: a limit other than 0 exceeded against the last
converted temperature, where there is one) and GOOD, and the temperature T_j + o is formed from CJ_BAD's passing on.
R52, R53, R54: along a curve whose breakpoints increase strictly both conversions interpolate on the segment that the
value lies in, and the junction temperature of an emf beyond an end is that end's, so that it never leaves the curve. -/
def Obligations.VerdictsFollowTheirOrder : Prop :=
  ∀ (curve : List Breakpoint) (lo hi : Breakpoint), increasing curve = true →
    curve.head? = some lo → curve.getLast? = some hi →
    ((∀ v : Int, (∀ (k : Nat) (p r : Breakpoint), curve[k]? = some p → curve[k + 1]? = some r → p.temp ≤ v → v < r.temp →
          alongCurve Breakpoint.temp Breakpoint.emf v curve =
            p.emf + q ((v - p.temp) * (r.emf - p.emf)) (r.temp - p.temp)) ∧
        (v = hi.temp → alongCurve Breakpoint.temp Breakpoint.emf v curve = hi.emf)) ∧
      (∀ e : Int, (e < lo.emf → junction e curve = lo.temp) ∧ (hi.emf ≤ e → junction e curve = hi.temp) ∧
        (∀ (k : Nat) (p r : Breakpoint), curve[k]? = some p → curve[k + 1]? = some r → p.emf ≤ e → e < r.emf →
          junction e curve = p.temp + q ((e - p.emf) * (r.temp - p.temp)) (r.emf - p.emf)) ∧
        lo.temp ≤ junction e curve ∧ junction e curve ≤ hi.temp)) ∧
    (∀ (fault : Bool) (cj : Int) (rd : Reading) (cfg : ChannelCfg) (last : Option Int),
      let verdict := judge fault cj rd cfg curve last
      let cjGood := -400 ≤ cj ∧ cj ≤ 1000 ∧ lo.temp ≤ cj ∧ cj ≤ hi.temp
      let e : Int := 2 * rd.raw + alongCurve Breakpoint.temp Breakpoint.emf cj curve
      let sum : Int := junction e curve + cfg.offset
      let spike := cfg.spike ≠ 0 ∧ ∃ x : Int, last = some x ∧ cfg.spike < |saturate (-5000) 15000 sum - x|
      (fault = true → verdict = ⟨some .scannerFault, none⟩) ∧
      (fault = false → rd.openFlag = true → verdict = ⟨some .openCircuit, none⟩) ∧
      (fault = false → rd.openFlag = false → rd.overrange = true → verdict = ⟨some .overrange, none⟩) ∧
      (fault = false → rd.openFlag = false → rd.overrange = false →
        (¬cjGood → verdict = ⟨some .cjBad, none⟩) ∧
        (cjGood → e < lo.emf ∨ hi.emf < e → verdict = ⟨some .outOfCurve, some sum⟩) ∧
        (cjGood → lo.emf ≤ e → e ≤ hi.emf → (spike → verdict = ⟨some .spike, some sum⟩) ∧
          (¬spike → verdict = ⟨none, some sum⟩))))

/-- R41, R66: when its freshness timer is due a scanner falls silent: its remembered sequence is absent, its timer
stopped, and every in-use channel of it turns STALE with no history and no supplied or last converted temperature; the
other channels stay, and so do the curves and the frame in hand. Channel by channel, ascending, FAULT_SET goes over
where STALE joins the sticky set and QUALITY where the quality was not STALE, and after them SCANNER/SILENT with the
number of the scanner's in-use channels. A timer that is not due stands. -/
def Obligations.SilentScannersChannelsGoStale : Prop :=
  ∀ (i : Fin 8) (tm : Timer) (s : State), (s.intake.scanners.get i.val).timer = some tm →
    (tm.len ≤ (s.life.clock - tm.start).toNat →
      answers (.freshnessTimerExpiry i) s fun t =>
        let used := ((List.range 16).map fun k => i.val * 16 + k).filter (usedChannel s)
        t = { s with
          intake := { s.intake with scanners := s.intake.scanners.set i.val ⟨none, none, true⟩ }
          conv := { s.conv with channels := t.conv.channels }
          ev := takes
            ((used.flatMap fun c =>
                (if (s.conv.channels.get c).sticky.stale = true then []
                  else [⟨.channelFaultSet, BitVec.ofNat 16 c, s.life.clock, 7, 0⟩]) ++
                (if (s.conv.channels.get c).quality = .stale then []
                  else [⟨.channelQuality, BitVec.ofNat 16 c, s.life.clock,
                    BitVec.ofNat 32 (s.conv.channels.get c).quality.code, 5⟩])) ++
              [⟨.scannerSilent, BitVec.ofNat 16 i.val, s.life.clock, BitVec.ofNat 32 used.length, 0⟩]) s.ev } ∧
        ∀ c < 128, t.conv.channels.get c =
          if c / 16 = i.val ∧ (s.conv.channels.get c).cfg.inUse = true ∧ i.val < s.life.params.scannerCount then
            { s.conv.channels.get c with
              quality := .stale, supplied := none, lastConv := none, history := []
              sticky := { (s.conv.channels.get c).sticky with stale := true } }
          else s.conv.channels.get c) ∧
    ((s.life.clock - tm.start).toNat < tm.len → exec (.freshnessTimerExpiry i) s = .next s)

/-- R77 to R79: in RUN with no line in hand the head line is taken: discarded with its event when its view is not
configured, when it repeats the remembered sequence, or when its fault flag is set; otherwise accepted, its sequence
remembered, the view's count advanced and its correction captured.
R80 to R82: the completion of the line in hand gives the cell of each span of its view a spot where the span's run
has a valid pixel: the largest one plus the captured correction, saturated, at the present time. A span without a valid
pixel, and a cell that no span names, leave the spot as it was, and nothing else changes. -/
def Obligations.LinesAreTakenAndGiveSpots : Prop :=
  (∀ (l : Line) (rest : List Line) (s : State),
    s.life.phase = .run → s.view.inHand = none → s.view.queue = l :: rest →
    (s.life.params.viewCount ≤ l.view.toNat → exec .lineTake s = .next { s with
      view := { s.view with queue := rest }
      ev := s.ev.take ⟨.pyroBadView, BitVec.ofNat 16 l.view.toNat, s.life.clock, BitVec.ofNat 32 l.seq.toNat,
        BitVec.ofNat 32 s.life.params.viewCount⟩ }) ∧
    (l.view.toNat < s.life.params.viewCount →
      ((s.view.views.get l.view.toNat).remembered = some l.seq → exec .lineTake s = .next { s with
        view := { s.view with queue := rest }
        ev := s.ev.take ⟨.pyroDuplicate, BitVec.ofNat 16 l.view.toNat, s.life.clock,
          BitVec.ofNat 32 l.seq.toNat, 0⟩ }) ∧
      ((s.view.views.get l.view.toNat).remembered ≠ some l.seq → l.fault = true → exec .lineTake s = .next { s with
        view := { s.view with queue := rest }
        ev := s.ev.take ⟨.pyroFault, BitVec.ofNat 16 l.view.toNat, s.life.clock,
          BitVec.ofNat 32 l.seq.toNat, 0⟩ }) ∧
      ((s.view.views.get l.view.toNat).remembered ≠ some l.seq → l.fault = false → exec .lineTake s = .next { s with
        view := { s.view with
          queue := rest
          inHand := some ⟨l, (s.view.views.get l.view.toNat).correction⟩
          views := s.view.views.set l.view.toNat
            { s.view.views.get l.view.toNat with
              remembered := some l.seq, accepted := (s.view.views.get l.view.toNat).accepted + 1 } } }))) ∧
  (∀ (job : LineJob) (s : State), s.view.inHand = some job →
    let spans := (s.view.views.get job.line.view.toNat).spans
    answers .lineCompletion s fun t =>
      t = { s with view := { s.view with inHand := none, spots := t.view.spots } } ∧
      (∀ c, (∀ sp ∈ spans, sp.cell ≠ c) → t.view.spots.get c = s.view.spots.get c) ∧
      ((spans.map Span.cell).Nodup → ∀ sp ∈ spans, sp.cell < 512 →
        let valid := fun p : Nat => sp.first ≤ p ∧ p ≤ sp.last ∧ p < job.line.count ∧ p < 64 ∧
          1 ≤ job.line.pixels.get p ∧ job.line.pixels.get p ≤ 16000
        ((∀ p, ¬valid p) → t.view.spots.get sp.cell = s.view.spots.get sp.cell) ∧
        (∀ p, valid p → (∀ p', valid p' → job.line.pixels.get p' ≤ job.line.pixels.get p) →
          let b := job.line.pixels.get p
          t.view.spots.get sp.cell = some ⟨saturate (-5000) 15000 (b + job.correction), b,
            decide (saturate (-5000) 15000 (b + job.correction) ≠ b + job.correction), s.life.clock⟩)))

/-- R83, R105, R127: a spot and a rate reference retire at the age of one hour, a last direct time when it is older;
before that they stand.
R94, R95: when a pass's refresh timer is due it restarts with the pass's interval and the pass is appended, unless
it is queued, frozen or in OOS; a timer that is not due stands.
R93: a pass's commit age goes up by 1 at each further whole second since it was last set or counted, and stays at
65,535; before a first commit it stays absent. The field that holds the reading up to which seconds are counted is the
model's own (log entry 24). -/
def Obligations.AgesAndTimersRunOut : Prop :=
  (∀ (c : Fin 512) (s : State),
    (∀ sp, s.view.spots.get c.val = some sp →
      (3600000 ≤ (s.life.clock - sp.time).toNat → exec (.spotRetirement c) s = .next { s with
        view := { s.view with spots := s.view.spots.set c.val none } }) ∧
      ((s.life.clock - sp.time).toNat < 3600000 → exec (.spotRetirement c) s = .next s)) ∧
    (∀ ref, (s.alarm.recs.get c.val).ref = some ref →
      (3600000 ≤ (s.life.clock - ref.time).toNat → exec (.rateReferenceRetirement c) s = .next { s with
        alarm := { s.alarm with recs := s.alarm.recs.set c.val { s.alarm.recs.get c.val with ref := none } } }) ∧
      ((s.life.clock - ref.time).toNat < 3600000 → exec (.rateReferenceRetirement c) s = .next s)) ∧
    (∀ d, (s.map.cells.get c.val).lastDirect = some d →
      (3600000 < (s.life.clock - d).toNat → exec (.lastDirectTimeRetirement c) s = .next { s with
        map := { s.map with cells := s.map.cells.set c.val { s.map.cells.get c.val with lastDirect := none } } }) ∧
      ((s.life.clock - d).toNat ≤ 3600000 → exec (.lastDirectTimeRetirement c) s = .next s))) ∧
  (∀ (p : Fin 8) (tm : Timer) (s : State), (s.map.passes.get p.val).timer = some tm →
      (tm.len ≤ (s.life.clock - tm.start).toNat → exec (.refreshTimerExpiry p) s = .next { s with
        map := { s.map with
          passes := s.map.passes.set p.val { s.map.passes.get p.val with
            timer := some ⟨s.life.clock, (s.map.passes.get p.val).cfg.refreshMs⟩ }
          queue :=
            if s.map.queue.contains p.val = true ∨ (s.map.passes.get p.val).frozen = true ∨
                (s.map.passes.get p.val).mode = .oos then s.map.queue
            else s.map.queue ++ [p.val] } }) ∧
      ((s.life.clock - tm.start).toNat < tm.len → exec (.refreshTimerExpiry p) s = .next s)) ∧
  (∀ (p : Fin 8) (s : State),
      (∀ age, (s.map.passes.get p.val).commitAge = some age →
        (1000 ≤ (s.life.clock - (s.map.passes.get p.val).ageRef).toNat →
          exec (.commitAgeAdvance p) s = .next { s with map := { s.map with
            passes := s.map.passes.set p.val { s.map.passes.get p.val with
              commitAge := some (if 65535 ≤ age + 1 then 65535 else age + 1)
              ageRef := (s.map.passes.get p.val).ageRef + 1000 } } }) ∧
        ((s.life.clock - (s.map.passes.get p.val).ageRef).toNat < 1000 →
          exec (.commitAgeAdvance p) s = .next s)) ∧
      ((s.map.passes.get p.val).commitAge = none → exec (.commitAgeAdvance p) s = .next s))

/-! ### The tube map (R93 to R119) -/

/-- R97, R98: in RUN, with no recompute in flight, the head pass leaves the queue and its image is taken: for each
position the quality, supplied temperature and CLAMPED flag of the cell's channels and its spot with its age, fresh up to
the pass's max age; with one in flight, with an empty queue, or outside RUN, nothing starts.
R99, R93, R94: a recompute that completes without the discard mark commits. Every cell of the pass takes what fusion
gives it from the image and its own record, its pairing is written or removed (R84), the Alarm Unit works on its record
as it stood, cell by cell in ascending position (R142), ALM# is true, the hot list is the one the cells now give, and the
pass's generation, commit time, commit age and refresh timer follow; other passes' cells stay. R101: with the mark only
the workspace is emptied. The reading that the commit age is counted from is the model's field (log entry 24). -/
def Obligations.RecomputesStartAndCommit : Prop :=
  (∀ s : State,
    (∀ p rest, s.life.phase = .run → s.map.work = none → s.map.queue = p :: rest →
      let x := s.map.passes.get p
      let chan := fun c : Nat =>
        let ch := s.conv.channels.get c
        (⟨ch.quality, if ch.quality = .good ∨ ch.quality = .suspect then ch.supplied else none, ch.clamped⟩ : ChanImage)
      let spot := fun sp : Spot =>
        let age := (s.life.clock - sp.time).toNat
        (⟨sp.value, sp.brightness, sp.clamped, age, decide (age ≤ x.cfg.maxAgeS * 1000)⟩ : SpotImage)
      exec .recomputeStart s = .next { s with
        map := { s.map with
          queue := rest
          work := some ⟨p, (List.range x.cfg.cellCount).map fun k =>
            let cfg := (s.map.cells.get (p * 64 + k)).cfg
            ⟨cfg.chanA.map chan, cfg.chanB.map chan, (s.view.spots.get (p * 64 + k)).map spot⟩, false⟩ } }) ∧
    (s.life.phase ≠ .run ∨ s.map.work.isSome = true ∨ s.map.queue = [] → exec .recomputeStart s = .next s)) ∧
  (∀ (w : Work) (s : State), s.map.work = some w →
    (w.discard = true → exec .recomputeCompletion s = .next { s with map := { s.map with work := none } }) ∧
    (w.discard = false → w.pass < 8 → s.Configured →
      let x := s.map.passes.get w.pass
      let inside := fun c : Nat => c / 64 = w.pass ∧ c % 64 < x.cfg.cellCount
      let fused := fun c : Nat => fuseAt x.cfg s.life.clock w.image (c % 64) (s.map.cells.get c)
      let alarmed := fun c : Nat =>
        alarmCell ⟨c, x.cfg, x.mode, (s.map.cells.get c).cfg.limit, (fused c).source, (fused c).temp, s.life.clock,
          exposureCredit x s.life.clock⟩ (s.alarm.recs.get c)
      answers .recomputeCompletion s fun t =>
        (t = { s with
          map := { s.map with
            work := none
            cells := t.map.cells
            passes := s.map.passes.set w.pass { x with
              gen := x.gen + 1
              lastCommit := some s.life.clock, commitAge := some 0, ageRef := s.life.clock
              timer := some ⟨s.life.clock, x.cfg.refreshMs⟩ } }
          view := { s.view with pairings := t.view.pairings }
          alarm := t.alarm
          hot := t.hot
          ev := takes
            (((List.range x.cfg.cellCount).flatMap fun k => stampedAt s.life.clock (alarmed (w.pass * 64 + k)).2) ++
              leaderEvents s.hot t.hot s.life.clock) s.ev }) ∧
        (∀ c < 512, inside c →
          t.map.cells.get c = ⟨(s.map.cells.get c).cfg, (fused c).temp, (fused c).source, (fused c).disagree,
            (fused c).clamped,
            if (fused c).source.live = true then some s.life.clock else (s.map.cells.get c).lastDirect, (fused c).tc,
            (w.image.getD (c % 64) default).spot.map fun sp => ⟨sp.value, sp.brightness, sp.age, sp.fresh⟩⟩ ∧
          t.view.pairings.get c = pairingOf x.cfg s.life.clock (w.image.getD (c % 64) default) ∧
          t.alarm.recs.get c = (alarmed c).1) ∧
        (∀ c < 512, ¬inside c →
          t.map.cells.get c = s.map.cells.get c ∧ t.view.pairings.get c = s.view.pairings.get c ∧
            t.alarm.recs.get c = s.alarm.recs.get c) ∧
        t.AlmTrue ∧ t.hot = hotOf t))

/-- R102: the thermocouple value of an image and DISAGREE. R103, R106: its combination with the fresh spot, the result
saturated and CLAMPED where that changed it, where a GOOD contributing channel was clamped, or where the fresh spot was
(whatever the weight: the model's reading, log entry 33; both channels contribute under DISAGREE: its reading too, log
entry 12). R104: interpolation between the nearest measured neighbours
within the span limit. R105: HELD within the hold limit, VOID otherwise. The four follow one another, every temperature
they form lies in −5000..15,000, and a cell is without one exactly where it is VOID.
R84: a pairing stands exactly where the thermocouple value and a fresh unclamped spot are present, every channel that
contributed is GOOD, and DISAGREE is clear. -/
def Obligations.FusionFollowsItsFourSteps : Prop :=
  (∀ (limit : Int) (ci : CellImage),
    let ta := ci.a.bind ChanImage.supplied
    let tb := ci.b.bind ChanImage.supplied
    (ta = none → tb = none → tcOf limit ci = (none, false)) ∧
    (∀ x, ta = some x ∧ tb = none ∨ ta = none ∧ tb = some x → tcOf limit ci = (some x, false)) ∧
    (∀ x y, ta = some x → tb = some y →
      (limit ≠ 0 → limit < |x - y| → tcOf limit ci = (some (max x y), true)) ∧
      (limit = 0 ∨ |x - y| ≤ limit → tcOf limit ci = (some (q (x + y) 2), false)))) ∧
  (∀ (cfg : PassCfg) (ci : CellImage) (clock : W32),
    let tc := tcOf cfg.disagreeLimit ci
    let goodClamped := ∃ ch, (ci.a = some ch ∨ ci.b = some ch) ∧ ch.supplied.isSome = true ∧ ch.quality = .good ∧
      ch.clamped = true
    let allGood := ∀ ch, ci.a = some ch ∨ ci.b = some ch → ch.supplied.isSome = true → ch.quality = .good
    let gives := fun (x : Int) (src : Source) (clamp : Prop) =>
      (direct cfg ci).temp = some (saturate (-5000) 15000 x) ∧ (direct cfg ci).source = src ∧
        (direct cfg ci).disagree = tc.2 ∧ (direct cfg ci).tc = tc.1 ∧
        ((direct cfg ci).clamped = true ↔ x < -5000 ∨ 15000 < x ∨ clamp)
    (∀ t sp, tc.1 = some t → ci.spot = some sp → sp.fresh = true →
      gives (t + q (cfg.weight * (sp.value - t)) 16) .fused (goodClamped ∨ sp.clamped = true) ∧
      (allGood → tc.2 = false → sp.clamped = false → pairingOf cfg clock ci = some ⟨t, sp.brightness, clock⟩) ∧
      (¬allGood ∨ tc.2 = true ∨ sp.clamped = true → pairingOf cfg clock ci = none)) ∧
    (∀ sp, tc.1 = none → ci.spot = some sp → sp.fresh = true →
      gives sp.value .pyro (sp.clamped = true) ∧ pairingOf cfg clock ci = none) ∧
    ((∀ sp, ci.spot = some sp → sp.fresh = false) → pairingOf cfg clock ci = none ∧
      (∀ t, tc.1 = some t → gives t .tc goodClamped) ∧
      (tc.1 = none → direct cfg ci = ⟨none, .void, false, false, none⟩))) ∧
  (∀ (cfg : PassCfg) (ds : List Fused) (k : Nat) (d : Fused),
    (d.temp.isSome = true → interpolated cfg ds k d = d) ∧
    (d.temp = none →
      (∀ i j ti tj ci cj, i < k → k < j → measuredAt ds i = some (ti, ci) → measuredAt ds j = some (tj, cj) →
        (∀ n, i < n → n < j → n ≠ k → measuredAt ds n = none) →
        let x := ti + q ((tj - ti) * ((k : Int) - i)) ((j : Int) - i)
        (j - i ≤ cfg.spanLimit → interpolated cfg ds k d =
          ⟨some (saturate (-5000) 15000 x), .interp, false,
            decide (saturate (-5000) 15000 x ≠ x) || ci || cj, none⟩) ∧
        (cfg.spanLimit < j - i → interpolated cfg ds k d = d)) ∧
      ((∀ i < k, measuredAt ds i = none) ∨ (∀ j, k < j → measuredAt ds j = none) → interpolated cfg ds k d = d))) ∧
  (∀ (holdS : Nat) (clock : W32) (old : Cell) (d : Fused),
    let holds := ∃ t ld, old.temp = some t ∧ old.lastDirect = some ld ∧ (clock - ld).toNat ≤ holdS * 1000
    (d.temp.isSome = true → heldOrVoid holdS clock old d = d) ∧
    (d.temp = none → holds → heldOrVoid holdS clock old d = ⟨old.temp, .held, false, old.clamped, none⟩) ∧
    (d.temp = none → ¬holds → heldOrVoid holdS clock old d = ⟨none, .void, false, false, none⟩)) ∧
  (∀ (cfg : PassCfg) (clock : W32) (image : List CellImage) (k : Nat) (old : Cell),
    k < image.length → inTempRange old.temp →
      fuseAt cfg clock image k old =
        heldOrVoid cfg.holdS clock old
          (interpolated cfg (image.map (direct cfg)) k (direct cfg (image.getD k default))) ∧
      inTempRange (fuseAt cfg clock image k old).temp ∧
      ((fuseAt cfg clock image k old).temp = none ↔ (fuseAt cfg clock image k old).source = .void) ∧
      (fuseAt cfg clock image k old).source ≠ .oos)

/-- R113 to R115: FREEZE freezes each named pass, takes it out of the refresh queue and marks its recompute in flight;
THAW thaws each named frozen pass and appends it; FORCE REFRESH appends each named pass that is not queued, frozen or
in OOS. Nothing else changes but the head. -/
def Obligations.MaskCommandsActOnTheNamedPasses : Prop :=
  ∀ (mask : Byte) (s : State), s.life.phase = .run → entryFetched s → s.Scheduled →
    (∀ p < 8, mask.getLsbD p = true → p < s.life.params.passCount) →
      exec (.freeze mask) s = .next (entryEnded s { s with map := { s.map with
        passes := s.map.passes.mapIdx fun p x => { x with frozen := x.frozen || mask.getLsbD p }
        queue := s.map.queue.filter fun p => !mask.getLsbD p
        work := s.map.work.map fun w => { w with discard := w.discard || mask.getLsbD w.pass } } }) ∧
      exec (.thaw mask) s = .next (entryEnded s { s with map := { s.map with
        passes := s.map.passes.mapIdx fun p x => { x with frozen := x.frozen && !mask.getLsbD p }
        queue := s.map.queue ++ (List.range 8).filter fun p =>
          mask.getLsbD p && (s.map.passes.get p).frozen && decide ((s.map.passes.get p).mode ≠ .oos) } }) ∧
      exec (.forceRefresh mask) s = .next (entryEnded s { s with map := { s.map with
        queue := s.map.queue ++ (List.range 8).filter fun p =>
          mask.getLsbD p && !s.map.queue.contains p && !(s.map.passes.get p).frozen &&
            decide ((s.map.passes.get p).mode ≠ .oos) } })

/-- R108: SET MODE to the pass's present mode has no effect.
R109, R101: between NORMAL, SPALL and DECOKE it changes the mode; a recompute of the pass in flight is abandoned and the
pass appended, unless it is queued or frozen; no cell, no level and no ALM# changes.
R129: at an entry to SPALL or DECOKE each active rate alarm of the pass turns off, ascending, with its event; the model
takes the cells of the pass up to its cell count (log entry 29). -/
def Obligations.SetModeChangesTheModeAlone : Prop :=
  ∀ (pass mode : Byte) (m : Mode) (s : State), s.life.phase = .run → entryFetched s → s.Configured →
    pass.toNat < s.life.params.passCount → Mode.ofCode mode.toNat = some m →
    let p := pass.toNat
    let x := s.map.passes.get p
    let flying := s.map.work.any fun w => decide (w.pass = p)
    let off := fun c : Nat => (s.alarm.recs.get c).rateAlarm && decide (m ≠ .normal)
    (x.mode = m → exec (.setMode pass mode) s = .next (entryEnded s s)) ∧
    (x.mode ≠ m → x.mode ≠ .oos → m ≠ .oos →
      answers (.setMode pass mode) s fun t =>
        t = entryEnded s { s with
          alarm := { s.alarm with recs := t.alarm.recs }
          ev := takes (((List.range x.cfg.cellCount).filter fun k => off (p * 64 + k)).map fun k =>
            ⟨.alarmRateOff, BitVec.ofNat 16 (p * 64 + k), s.life.clock,
              match (s.alarm.recs.get (p * 64 + k)).rate with | some r => BitVec.ofInt 32 r | none => 0xFFFF8000,
              2⟩) s.ev
          map := { s.map with
            passes := s.map.passes.set p { x with mode := m }
            work := if flying = true then none else s.map.work
            queue :=
              if flying = true ∧ x.frozen = false ∧ p ∉ s.map.queue then s.map.queue ++ [p] else s.map.queue } } ∧
        ∀ c < 512, t.alarm.recs.get c =
          if c / 64 = p ∧ c % 64 < x.cfg.cellCount ∧ off c = true then { s.alarm.recs.get c with rateAlarm := false }
          else s.alarm.recs.get c)

/-- R110, R85, R135: SET MODE to OOS empties the pass's cells and removes their pairings, takes the pass out of the queue
and out of flight, turns its rate alarms off and makes its levels NORMAL with margins and rates absent, each with its
event, ascending; peaks, unacknowledged flags, references and exposures stay, and ALM# is true.
R111, R96: the exit from OOS makes its cells VOID, their references and margins absent, and appends it unless frozen;
that it acts on the positions below the cell count alone is the model's reading (log entry 29).
The generation advances and the hot list is rebuilt in both (R152), and nothing else changes but the head. -/
def Obligations.OutOfServiceEmptiesThePass : Prop :=
  ∀ (pass mode : Byte) (m : Mode) (s : State), s.life.phase = .run → entryFetched s → s.Scheduled → s.Configured →
    pass.toNat < s.life.params.passCount → Mode.ofCode mode.toNat = some m →
    let p := pass.toNat
    let x := s.map.passes.get p
    let inside := fun c : Nat => c / 64 = p ∧ c % 64 < x.cfg.cellCount
    (x.mode = .oos ↔ m ≠ .oos) →
      answers (.setMode pass mode) s fun t =>
        t = entryEnded s { s with
          map := { s.map with
            cells := t.map.cells
            passes := s.map.passes.set p { x with mode := m, gen := x.gen + 1 }
            work := if m = .oos ∧ s.map.work.any (fun w => decide (w.pass = p)) = true then none else s.map.work
            queue :=
              if m = .oos then s.map.queue.filter fun k => decide (k ≠ p)
              else if x.frozen = true then s.map.queue else s.map.queue ++ [p] }
          view := { s.view with pairings := t.view.pairings }
          alarm := t.alarm
          hot := t.hot
          ev := takes
            ((if m = .oos then (List.range 64).flatMap fun k =>
                let r := s.alarm.recs.get (p * 64 + k)
                (if r.rateAlarm = true then
                  [⟨.alarmRateOff, BitVec.ofNat 16 (p * 64 + k), s.life.clock,
                    match r.rate with | some v => BitVec.ofInt 32 v | none => 0xFFFF8000, 3⟩] else []) ++
                if r.level = .normal then [] else
                  [⟨.alarmLevel, BitVec.ofNat 16 (p * 64 + k), s.life.clock, BitVec.ofNat 32 r.level.code, 0⟩]
              else []) ++ leaderEvents s.hot t.hot s.life.clock) s.ev } ∧
        t.hot = hotOf t ∧ (m = .oos → t.AlmTrue) ∧ (m ≠ .oos → t.alarm.alm = s.alarm.alm) ∧
        ∀ c < 512,
          (inside c → t.map.cells.get c =
            ⟨(s.map.cells.get c).cfg, none, if m = .oos then .oos else .void, false, false, none, none, none⟩) ∧
          (¬inside c → t.map.cells.get c = s.map.cells.get c) ∧
          t.view.pairings.get c = (if m = .oos ∧ inside c then none else s.view.pairings.get c) ∧
          t.alarm.recs.get c =
            if m = .oos then
              if c / 64 = p then
                { s.alarm.recs.get c with
                  rateAlarm := false, rate := none, margin := none, level := .normal, persist := 0 }
              else s.alarm.recs.get c
            else if inside c then { s.alarm.recs.get c with ref := none, margin := none }
            else s.alarm.recs.get c

/-! ### Alarms and the hot list (R123 to R155) -/

/-- R123: a commit sets the margin to the effective limit less the temperature.
R125, R126, R128: with a live source the reference is taken where there is none; once the rate window has passed the rate
is computed and saturated, the reference is taken anew, and the rate alarm turns on above the limit in NORMAL alone and
off at or below it, each with its event ahead of the level's (R142).
R131, R134: the level is evaluated from the new margin.
R139, R140: a live cell with a margin at or below A is credited, the carry going into the seconds up to their end; any
other keeps its exposure. Exposure counts whole seconds, the floor, which is the model's reading (log entry 13). What a
commit credits is the time since the last commit up to the hold limit, the hold limit
from a commit age of 3600 s on, and nothing at a first commit. -/
def Obligations.CommitsWorkTheAlarmRecord : Prop :=
  (∀ (i : AlarmIn) (r : AlarmRec),
    let margin := i.temp.map fun t => (if i.mode = .decoke then i.cfg.decokeLimit else i.limit) - t
    let level := levelStep i { r with margin := margin }
    let out := alarmCell i r
    let quiet := out.1.rate = r.rate ∧ out.1.rateAlarm = r.rateAlarm ∧ out.1.rateUnack = r.rateUnack ∧ out.2 = level.2
    let uncredited := out.1.exposureS = r.exposureS ∧ out.1.exposureMs = r.exposureMs
    (out.1.margin = margin ∧ out.1.level = level.1.level ∧ out.1.persist = level.1.persist ∧
      out.1.peak = level.1.peak ∧ out.1.levelUnack = level.1.levelUnack) ∧
    (i.source.live = false → quiet ∧ out.1.ref = r.ref ∧ uncredited) ∧
    (∀ t, i.source.live = true → i.temp = some t →
      (r.ref = none → quiet ∧ out.1.ref = some ⟨t, i.clock⟩) ∧
      (∀ ref, r.ref = some ref →
        let delta := (i.clock - ref.time).toNat
        let rate := saturate (-32767) 32767 (q ((t - ref.temp) * 60000) delta)
        let told := fun kind (b : W32) => ((kind, BitVec.ofNat 16 i.cell, BitVec.ofInt 32 rate, b) : EventData) :: level.2
        (delta < i.cfg.rateWindowS * 1000 → quiet ∧ out.1.ref = some ref) ∧
        (i.cfg.rateWindowS * 1000 ≤ delta →
          out.1.rate = some rate ∧ out.1.ref = some ⟨t, i.clock⟩ ∧
          (i.cfg.rateLimit < rate →
            (r.rateAlarm = false → i.mode = .normal → out.1.rateAlarm = true ∧ out.1.rateUnack = true ∧
              out.2 = told .alarmRateOn (BitVec.ofInt 32 i.cfg.rateLimit)) ∧
            (r.rateAlarm = true ∨ i.mode ≠ .normal → out.1.rateAlarm = r.rateAlarm ∧
              out.1.rateUnack = r.rateUnack ∧ out.2 = level.2)) ∧
          (rate ≤ i.cfg.rateLimit → out.1.rateAlarm = false ∧ out.1.rateUnack = r.rateUnack ∧
            (r.rateAlarm = true → out.2 = told .alarmRateOff 1) ∧ (r.rateAlarm = false → out.2 = level.2)))) ∧
      ((∀ m, margin = some m → i.cfg.advisory < m) → uncredited) ∧
      (∀ m, margin = some m → m ≤ i.cfg.advisory → r.exposureS ≤ 4294967295 → r.exposureMs ≤ 999 →
        1000 * out.1.exposureS + out.1.exposureMs =
            min (1000 * r.exposureS + r.exposureMs + i.credit) 4294967295999 ∧
          out.1.exposureMs ≤ 999))) ∧
  (∀ (p : Pass) (clock : W32),
    (p.lastCommit = none → exposureCredit p clock = 0) ∧
    (∀ t age, p.lastCommit = some t → p.commitAge = some age →
      exposureCredit p clock =
        if 3600 ≤ age then p.cfg.holdS * 1000 else min (clock - t).toNat (p.cfg.holdS * 1000)))

/-- R130: the level function r(m) by its four bands, and down never lower than up.
R131 to R133: at a commit with a margin the level rises to the one the margin calls for at the P-th commit in a row
that calls for a higher one, falls as soon as the margin less the hysteresis calls for a lower one, and stays otherwise.
A rise and a fall hand one ALARM/LEVEL each; a rise sets the unacknowledged flag and raises the peak; a fall leaves
both. Without a margin the level stays and the count returns to 0 (R134). -/
def Obligations.LevelFollowsTheMarginBands : Prop :=
  (∀ m a h hys : Int,
      (m ≤ 0 → levelFor m a h = .over) ∧ (0 < m → m ≤ h → levelFor m a h = .high) ∧
        (0 < m → h < m → m ≤ a → levelFor m a h = .advise) ∧ (0 < m → h < m → a < m → levelFor m a h = .normal) ∧
        (0 ≤ hys → (levelFor m a h).code ≤ (levelFor (m - hys) a h).code) ∧
        (a = h → levelFor m a h ≠ .advise) ∧ (h = 0 → levelFor m a h ≠ .high) ∧
        (hys = 0 → levelFor (m - hys) a h = levelFor m a h)) ∧
  (∀ (i : AlarmIn) (r : AlarmRec),
      (r.margin = none → levelStep i r = ({ r with persist := 0 }, [])) ∧
      ∀ m, r.margin = some m →
        ((levelFor m i.cfg.advisory i.cfg.high).code > r.level.code → r.persist + 1 < i.cfg.persistence →
          levelStep i r = ({ r with persist := r.persist + 1 }, [])) ∧
        ((levelFor m i.cfg.advisory i.cfg.high).code > r.level.code → i.cfg.persistence ≤ r.persist + 1 →
          levelStep i r =
            ({ r with
                level := levelFor m i.cfg.advisory i.cfg.high, persist := 0, levelUnack := true
                peak := if r.peak.code ≤ (levelFor m i.cfg.advisory i.cfg.high).code
                  then levelFor m i.cfg.advisory i.cfg.high else r.peak },
              [(.alarmLevel, BitVec.ofNat 16 i.cell, BitVec.ofNat 32 r.level.code,
                BitVec.ofNat 32 (levelFor m i.cfg.advisory i.cfg.high).code)])) ∧
        ((levelFor m i.cfg.advisory i.cfg.high).code ≤ r.level.code →
          (levelFor (m - i.cfg.hysteresis) i.cfg.advisory i.cfg.high).code < r.level.code →
          levelStep i r =
            ({ r with level := levelFor (m - i.cfg.hysteresis) i.cfg.advisory i.cfg.high, persist := 0 },
              [(.alarmLevel, BitVec.ofNat 16 i.cell, BitVec.ofNat 32 r.level.code,
                BitVec.ofNat 32 (levelFor (m - i.cfg.hysteresis) i.cfg.advisory i.cfg.high).code)])) ∧
        ((levelFor m i.cfg.advisory i.cfg.high).code ≤ r.level.code →
          r.level.code ≤ (levelFor (m - i.cfg.hysteresis) i.cfg.advisory i.cfg.high).code →
          levelStep i r = ({ r with persist := 0 }, [])))

/-- R136, R137: ACK of a cell and ACK PASS of a pass clear the unacknowledged flags of the cells they name, whose peaks
become their levels, in RUN and in HALT; ALM# is evaluated afresh, asserted exactly while R138's condition holds.
R141: RESET EXPOSURE of a cell in RUN with the lock clear makes its exposure 0 and hands its event; under the lock it
is refused with LOCKED. -/
def Obligations.AlarmCommandsActOnTheirCells : Prop :=
  (∀ s : State, (s.life.phase = .run ∨ s.life.phase = .halt) → entryFetched s →
      let acked := fun c => { s.alarm.recs.get c with
        levelUnack := false, rateUnack := false, peak := (s.alarm.recs.get c).level }
      (∀ cell : W16, cell.toNat ≤ 511 → answers (.ack cell) s fun t =>
        t = entryEnded s { s with alarm := t.alarm } ∧ t.AlmTrue ∧
          ∀ c < 512, t.alarm.recs.get c = if c = cell.toNat then acked c else s.alarm.recs.get c) ∧
      (∀ pass : Byte, pass.toNat ≤ 7 → answers (.ackPass pass) s fun t =>
        t = entryEnded s { s with alarm := t.alarm } ∧ t.AlmTrue ∧
          ∀ c < 512, t.alarm.recs.get c = if c / 64 = pass.toNat then acked c else s.alarm.recs.get c)) ∧
  (∀ (cell : W16) (s : State), s.life.phase = .run → entryFetched s →
      (s.life.lock = false → cell.toNat ≤ 511 → exec (.resetExposure cell) s = .next (entryEnded s { s with
        alarm := { s.alarm with
          recs := s.alarm.recs.set cell.toNat
            { s.alarm.recs.get cell.toNat with exposureS := 0, exposureMs := 0 } }
        ev := s.ev.take ⟨.alarmExposureReset, BitVec.ofNat 16 cell.toNat, s.life.clock,
          BitVec.ofNat 32 (s.alarm.recs.get cell.toNat).exposureS, 0⟩ })) ∧
      (s.life.lock = true → exec (.resetExposure cell) s = .next (entryEnded s (refused 0x0A 3 s))))

/-- R150: the hot list that a rebuild forms holds exactly the first min(16, E) eligible cells, E being the eligible count,
in ascending margin and then ascending index, each once. -/
def Obligations.HotListHoldsTheClosestCells : Prop :=
  ∀ s : State,
    (hotOf s).eligible = ((List.range 512).filter fun c =>
      (s.map.cells.get c).source.live && decide ((s.map.passes.get (c / 64)).mode ≠ .oos)).length ∧
    (hotOf s).list.length = min 16 (hotOf s).eligible ∧
    (hotOf s).list.Pairwise (fun a b => a.margin < b.margin ∨ (a.margin = b.margin ∧ a.cell < b.cell)) ∧
    (∀ e ∈ (hotOf s).list, e.cell < 512 ∧ hotEntry s e.cell = some e) ∧
    (∀ c < 512, ∀ e, hotEntry s c = some e → e ∉ (hotOf s).list →
      ∀ x ∈ (hotOf s).list, x.margin < e.margin ∨ (x.margin = e.margin ∧ x.cell < e.cell)) ∧
    (∀ c < 512, ∀ e, hotEntry s c = some e → e.cell = c ∧ e.source = (s.map.cells.get c).source ∧
      e.level = (s.alarm.recs.get c).level ∧ ∀ m, (s.alarm.recs.get c).margin = some m → e.margin = m)

/-! ### The Command Engine (R159 to R166) and the commands of other blocks (R24, R25, R67, R68, R86, R87, R173) -/

/-- R160, R161, R162: a tail write sets the tail modulo the ring size, whatever the higher bits; it ends a stall, and in
READY or STALLED with an entry to take, no code pending and nothing outstanding, the fetch of the head's record is
posted; with a code pending or an access outstanding it is not (R12).
R162, R166: a failed ring fetch hands COMMAND/FETCH_ERROR with the head index, leaves the head, and stalls the engine, or
in LOAD leaves it in WAIT_LOAD; a pending code is accepted on the stall, no clearing write waiting (log entry 15).
R161, R162, R165: when the head-word write or the clearing write ends, with an error or without, a write posted after it
follows. With none, no code being pending, BUSY and READY take the next entry, its fetch being posted within this
completion (log entry 14), or are READY where head and tail are equal; a pending code is accepted in BUSY, READY and
STALLED; in LOAD the engine leaves BUSY for WAIT_LOAD and a code stays pending (R164, R166). STALLED and WAIT_LOAD are not
left. -/
def Obligations.TheRingIsFetchedFromHeadToTail : Prop :=
  (∀ (v : W32) (s : State), (ringWindows s).isSome = true →
    let moved := fun e : Engine => { s with
      cmd := { s.cmd with tail := v.toNat % s.life.params.cmdSize, engine := e } }
    ((s.cmd.engine = .busy ∨ s.cmd.engine = .waitLoad) → exec (.tailWordWrite v) s = .next (moved s.cmd.engine)) ∧
    ((s.cmd.engine = .ready ∨ s.cmd.engine = .stalled) →
      (s.cmd.head = v.toNat % s.life.params.cmdSize ∨ s.cmd.urgent ≠ none ∨ outstanding s .commandEngine = true →
        exec (.tailWordWrite v) s = .next (moved .ready)) ∧
      (s.cmd.head ≠ v.toNat % s.life.params.cmdSize → s.cmd.urgent = none → outstanding s .commandEngine = false →
        exec (.tailWordWrite v) s = .next (headFetched (moved .ready))))) ∧
  (∀ s : State, onPortKind s .ringFetch →
      let failed := fun e : Engine => { s with
        cmd := { s.cmd with engine := e }
        path := { s.path with memPort := none }
        ev := s.ev.take ⟨.commandFetchError, BitVec.ofNat 16 s.cmd.head, s.life.clock, 0, 0⟩ }
      (s.life.phase ≠ .load → s.cmd.urgent = none → exec .ringFetchError s = .next (failed .stalled)) ∧
      (∀ u, s.cmd.urgent = some u → s.path.cmdOut = [] → (s.life.phase = .run ∨ s.life.phase = .halt) →
        s.Configured → s.Scheduled → exec .ringFetchError s = .next (codeAccepted u (failed .stalled))) ∧
      (s.life.phase = .load → exec .ringFetchError s = .next (failed .waitLoad))) ∧
  (∀ (c : Instr) (s : State),
      (∃ error, c = .headWordWriteComplete error ∧ onPortKind s .headWord ∨
        c = .urgentClearWriteComplete error ∧ onPortKind s .urgentClear) →
      let ended := fun e : Engine => { s with
        cmd := { s.cmd with engine := e }
        path := { s.path with memPort := none } }
      (s.path.cmdOut ≠ [] ∨ s.cmd.engine = .waitLoad → exec c s = .next (ended s.cmd.engine)) ∧
      (s.path.cmdOut = [] →
        (s.cmd.engine = .busy → s.life.phase = .load → exec c s = .next (ended .waitLoad)) ∧
        (s.cmd.urgent = none → s.cmd.engine = .stalled → exec c s = .next (ended .stalled)) ∧
        (s.cmd.urgent = none → s.cmd.engine = .busy ∧ s.life.phase ≠ .load ∨ s.cmd.engine = .ready →
          exec c s = .next (if s.cmd.head = s.cmd.tail then ended .ready else headFetched (ended .ready))) ∧
        (∀ u, s.cmd.urgent = some u → s.cmd.engine = .busy ∨ s.cmd.engine = .ready ∨ s.cmd.engine = .stalled →
          (s.life.phase = .run ∨ s.life.phase = .halt) → s.Configured → s.Scheduled →
            exec c s = .next (codeAccepted u (ended s.cmd.engine)))))

/-- R163: an opcode that names no command is refused with UNKNOWN in every lifephase; the head moves past it and nothing
else changes.
R163: in LOAD every command whose opcode is named is refused with WRONG_PHASE, and so is, in HALT, every one but NOP,
ACK, ACK PASS, LOCK and RELOAD: the refusal event, the head past the entry, and nothing else.
R163, R25: NOP changes nothing but the head; LOCK sets the lock, set or not before; both run in RUN and in HALT. -/
def Obligations.EntriesRunOrAreRefusedByPhase : Prop :=
  (∀ (op : Byte) (s : State), 14 ≤ op.toNat → entryFetched s →
      exec (.unknownOpcode op) s = .next (entryEnded s (refused op.toNat 1 s))) ∧
  (∀ (c : Instr) (r : CmdRecord) (s : State), encodeRecord c = some r → (∀ op, c ≠ .unknownOpcode op) → entryFetched s →
      (s.life.phase = .load ∨ (s.life.phase = .halt ∧ c ≠ .nop ∧ (∀ x, c ≠ .ack x) ∧ (∀ p, c ≠ .ackPass p) ∧
        c ≠ .lock ∧ c ≠ .reload)) →
        exec c s = .next (entryEnded s (refused r.opcode.toNat 5 s))) ∧
  (∀ s : State, (s.life.phase = .run ∨ s.life.phase = .halt) → entryFetched s →
    exec .nop s = .next (entryEnded s s) ∧
      exec .lock s = .next (entryEnded s { s with life := { s.life with lock := true } }))

/-- The BAD_ARGUMENT refusals of each command in the lifephases that run it, the lock clear where the command checks it
first: a mask that names a pass not configured (R113, R114, R115, R173), a pass not configured or a mode code above 3
(R108), a channel not in use or an offset outside −500..+500 (R68), a view not configured (R86), a cell above 511 (R136,
R141), a pass above 7 (R137), a list address not a multiple of 16 (R173). CALIBRATE VIEW under the lock is refused with
LOCKED (R86). A refused entry hands COMMAND/REFUSED over and moves the head, and nothing else. -/
def Obligations.BadArgumentsAreRefused : Prop :=
  (∀ s : State, s.life.phase = .run → entryFetched s →
    (∀ mask : Byte, (∃ p < 8, mask.getLsbD p = true ∧ s.life.params.passCount ≤ p) →
      exec (.freeze mask) s = .next (entryEnded s (refused 1 2 s)) ∧
      exec (.thaw mask) s = .next (entryEnded s (refused 2 2 s)) ∧
      exec (.forceRefresh mask) s = .next (entryEnded s (refused 4 2 s)) ∧
      ∀ flagByte list, exec (.exportStart mask flagByte list) s = .next (entryEnded s (refused 0x0B 2 s))) ∧
    (∀ pass mode : Byte, s.life.params.passCount ≤ pass.toNat ∨ 3 < mode.toNat →
      exec (.setMode pass mode) s = .next (entryEnded s (refused 3 2 s))) ∧
    (∀ mask flagByte list, list.toNat % 16 ≠ 0 →
      exec (.exportStart mask flagByte list) s = .next (entryEnded s (refused 0x0B 2 s))) ∧
    (s.life.lock = false →
      (∀ (channel : Byte) (value : W16),
        usedChannel s channel.toNat = false ∨ value.toInt < -500 ∨ 500 < value.toInt →
        exec (.setOffset channel value) s = .next (entryEnded s (refused 6 2 s))) ∧
      (∀ view : Byte, s.life.params.viewCount ≤ view.toNat →
        exec (.calibrateView view) s = .next (entryEnded s (refused 7 2 s))) ∧
      (∀ cell : W16, 511 < cell.toNat →
        exec (.resetExposure cell) s = .next (entryEnded s (refused 0x0A 2 s)))) ∧
    (s.life.lock = true → ∀ view : Byte, exec (.calibrateView view) s = .next (entryEnded s (refused 7 3 s)))) ∧
  (∀ s : State, s.life.phase = .run ∨ s.life.phase = .halt → entryFetched s →
    (∀ cell : W16, 511 < cell.toNat → exec (.ack cell) s = .next (entryEnded s (refused 8 2 s))) ∧
    (∀ pass : Byte, 7 < pass.toNat → exec (.ackPass pass) s = .next (entryEnded s (refused 9 2 s))))

/-- R67: CLEAR FAULTS in RUN empties the sticky sets of the named channels, both ends included, and changes nothing else;
a last channel above 127 or below the first is refused with BAD_ARGUMENT.
R68: SET OFFSET in RUN with the lock clear replaces the offset of an in-use channel with a value of −500 to +500;
under the lock it is refused with LOCKED.
R86, R87: CALIBRATE VIEW in RUN with the lock clear, of a configured view with at least three pairings, replaces the
view's correction with q(S, n) saturated to −1000..+1000 and hands PYRO/CALIBRATED; with fewer pairings it is refused
with INSUFFICIENT. -/
def Obligations.ChannelAndViewCommandsAct : Prop :=
  (∀ (first last : Byte) (s : State), s.life.phase = .run → entryFetched s →
      (first.toNat ≤ last.toNat → last.toNat ≤ 127 → exec (.clearFaults first last) s = .next (entryEnded s { s with
        conv := { s.conv with
          channels := s.conv.channels.mapIdx fun c ch =>
            if first.toNat ≤ c ∧ c ≤ last.toNat then
              { ch with sticky := ⟨false, false, false, false, false, false, false, false⟩ }
            else ch } })) ∧
      (127 < last.toNat ∨ last.toNat < first.toNat →
        exec (.clearFaults first last) s = .next (entryEnded s (refused 5 2 s)))) ∧
  (∀ (channel : Byte) (value : W16) (s : State), s.life.phase = .run → entryFetched s →
      (s.life.lock = false → usedChannel s channel.toNat = true → -500 ≤ value.toInt → value.toInt ≤ 500 →
        exec (.setOffset channel value) s = .next (entryEnded s { s with
          conv := { s.conv with
            channels := s.conv.channels.set channel.toNat
              { s.conv.channels.get channel.toNat with
                cfg := { (s.conv.channels.get channel.toNat).cfg with offset := value.toInt } } } })) ∧
      (s.life.lock = true → exec (.setOffset channel value) s = .next (entryEnded s (refused 6 3 s)))) ∧
  (∀ (view : Byte) (s : State), s.life.phase = .run → entryFetched s → s.life.lock = false →
    view.toNat < s.life.params.viewCount →
    let entry := s.view.views.get view.toNat
    let pairings := entry.spans.filterMap fun sp => s.view.pairings.get sp.cell
    let new := saturate (-1000) 1000 (q ((pairings.map fun p => p.tc - p.brightness).sum) pairings.length)
    (3 ≤ pairings.length → exec (.calibrateView view) s = .next (entryEnded s { s with
        view := { s.view with views := s.view.views.set view.toNat { entry with correction := new } }
        ev := s.ev.take ⟨.pyroCalibrated, BitVec.ofNat 16 view.toNat, s.life.clock,
          BitVec.ofInt 32 entry.correction, BitVec.ofInt 32 new⟩ })) ∧
    (pairings.length < 3 → exec (.calibrateView view) s = .next (entryEnded s (refused 7 6 s))))

/-- R24, R166, R45, R71, R89, R119, R177: RELOAD in RUN or HALT with the lock clear enters LOAD as a reload, fetching the
root record, every block paused: slots cleared, queues empty, nothing in hand or in flight, freshness and refresh timers
stopped, and an export in flight ended ABORTED with EXPORT/END, its waiting request withdrawn; the engine stays as it is
until the head-word write has ended. Under the lock it is refused with LOCKED. -/
def Obligations.ReloadEntersLoad : Prop :=
  ∀ s : State, (s.life.phase = .run ∨ s.life.phase = .halt) → entryFetched s →
    (s.life.lock = false → answers .reload s fun t =>
      t.life = { s.life with
        phase := .load, pendingCfg := none
        load := some ⟨.reload, .root, BitVec.ofNat 32 (s.life.rootStrap.toNat * 0x10000) + 16, [], 0, [], []⟩ } ∧
      t.cmd = { s.cmd with
        head := nextHead s
        engine := if s.cmd.engine = .ready ∨ s.cmd.engine = .stalled then .waitLoad else s.cmd.engine } ∧
      t.path = { s.path with
        memPort := none
        cmdOut := s.path.cmdOut ++ [nextHeadWrite s]
        lifeOut := s.path.lifeOut ++ [⟨.configFetch, BitVec.ofNat 32 (s.life.rootStrap.toNat * 0x10000), []⟩]
        expOut := if s.exp.job.isSome = true then [] else s.path.expOut } ∧
      t.intake.queue = [] ∧ t.intake.takeOk = false ∧
      (∀ i < 8, t.intake.scanners.get i = { s.intake.scanners.get i with timer := none }) ∧
      (∀ i < 8, t.intake.slots.getD i (Slot.empty 18) = Slot.empty 18) ∧
      t.conv = { s.conv with inHand := none } ∧
      t.view = { s.view with slots := t.view.slots, queue := [], inHand := none } ∧
      (∀ i < 4, t.view.slots.getD i (Slot.empty 33) = Slot.empty 33) ∧
      t.map = { s.map with passes := t.map.passes, queue := [], work := none } ∧
      (∀ p < 8, t.map.passes.get p = { s.map.passes.get p with timer := none }) ∧
      t.alarm = s.alarm ∧ t.hot = s.hot ∧
      t.exp = { s.exp with
        job := none, outcome := if s.exp.job.isSome = true then .aborted else s.exp.outcome } ∧
      t.ev = (match s.exp.job with
        | some j => s.ev.take ⟨.exportEnd, BitVec.ofNat 16 j.reached, s.life.clock, 6, BitVec.ofNat 32 s.exp.bytes⟩
        | none => s.ev)) ∧
    (s.life.lock = true → exec .reload s = .next (entryEnded s (refused 0x0C 3 s)))

/-- R173, R174: EXPORT in RUN with a list address on 16 bytes, a mask of configured passes and no export in flight starts
one: no bytes written, no region and no entry held, and the first pair of list entries asked for.
R175, R184: the header turn is captured, the start time, the pass mask and the hot-list flag with every other word 0,
and the turns to come are the passes of the mask in ascending order, the hot list if flagged, and the trailer; no
generation is captured yet.
R173: with an export in flight EXPORT is refused with BUSY. -/
def Obligations.ExportStartsOrIsBusy : Prop :=
  ∀ (mask hotFlag : Byte) (list : W32) (s : State), s.life.phase = .run → entryFetched s →
    list.toNat % 16 = 0 → (∀ p < 8, mask.getLsbD p = true → p < s.life.params.passCount) →
    (s.exp.job = none → exec (.exportStart mask hotFlag list) s = .next { entryEnded s s with
      path := { (entryEnded s s).path with expOut := s.path.expOut ++ [⟨.listFetch, list, []⟩] }
      exp := { s.exp with
        bytes := 0
        job := some
          { mask := mask, hotFlag := decide (hotFlag ≠ 0), listAddr := list, cursor := 0, reached := 0, held := none
            region := none, lastUsed := false
            turns := ((List.range 8).filter fun p => mask.getLsbD p).map Turn.pass ++
              (if hotFlag ≠ 0 then [.hotList] else []) ++ [.trailer]
            buf := [s.life.clock, wordOfSum [mask.toNat, 0x100 * one (decide (hotFlag ≠ 0))], 0, 0, 0, 0, 0, 0]
            start := s.life.clock, gens := Table.fill 8 0 } } }) ∧
    (s.exp.job.isSome = true → exec (.exportStart mask hotFlag list) s = .next (entryEnded s { s with
      ev := s.ev.take ⟨.commandRefused, BitVec.ofNat 16 s.cmd.head, s.life.clock, 0x0B, 4⟩ }))

/-- R161, R165: a code pending when a ring entry's execution ends, in RUN or HALT, is accepted then: the register is
empty, the note clear, and the clearing write stands behind the head-word write; a RELOAD is left out, being in LOAD by
then. -/
def Obligations.PendingCodeIsAcceptedAtEntryEnd : Prop :=
  ∀ (c : Instr) (u : Urgent) (s : State), isRingCommand c → c.wellFormed = true → c ≠ .reload →
    onPortKind s .ringFetch → s.cmd.urgent = some u → (s.life.phase = .run ∨ s.life.phase = .halt) →
      answers c s fun t =>
        t.cmd = { s.cmd with head := nextHead s, urgent := none, note := false } ∧
          t.path.cmdOut = s.path.cmdOut ++
            [nextHeadWrite s, ⟨.urgentClear, s.life.params.cmdBase + 0xF08, [0]⟩] ∧
          t.path.memPort = none

/-- R164: every host urgent write sets the note; 0 empties the register, 1, 2 and 3 put their code into it in place of any
other, and any other value leaves it and is refused with UNKNOWN. R165: a clearing write not granted yet is withdrawn.
R164: in WAIT_LOAD, and in BUSY with another access of the engine's own waiting or one on the memory port, nothing else
happens. In BUSY with the clearing write alone outstanding its withdrawal ends it (log entry 31): in LOAD the engine
enters WAIT_LOAD, elsewhere a code in the register is accepted, or the next entry is fetched, or the engine is READY where
there is none (R161).
R164, R165: in READY and STALLED a code written is accepted within the hand-over, but after the clearing write where that
has been granted; a code that a refused value finds is accepted once nothing is outstanding. With the register empty, in
READY with nothing outstanding, the next entry is fetched where there is one (R12, R161).
R165: URGENT_ACCEPTANCE accepts a pending code in READY and STALLED with nothing outstanding, and otherwise changes
nothing (log entry 15).
R116, R165, R177: what an accepted code does is codeAccepted: in HALT it is taken and has no effect, and in RUN FREEZE ALL
and THAW ALL act on every configured pass, its queue place and its recompute in flight, and ABORT EXPORT on an export in
flight. -/
def Obligations.UrgentCodesAreHeldOrCarriedOut : Prop :=
  (∀ (c : Instr) (reg : Option Urgent) (ev : EventWriter) (s : State), (ringWindows s).isSome = true →
    let refuses := ∃ v : W32, c = .urgentUnknown v ∧ 4 ≤ v.toNat ∧ reg = s.cmd.urgent ∧
      ev = s.ev.take ⟨.commandRefused, 0x8000, s.life.clock, v, 1⟩
    ((c, reg) ∈ ([(.urgentCancel, none), (.freezeAll, some .freezeAll), (.thawAll, some .thawAll),
        (.abortExport, some .abortExport)] : List (Instr × Option Urgent)) ∧ ev = s.ev ∨ refuses) →
    let left := s.path.cmdOut.filter fun r => decide (r.kind ≠ .urgentClear)
    let own := left ≠ [] ∨ (onPort s .commandEngine).isSome = true
    let accepts := (s.life.phase = .run ∨ s.life.phase = .halt) ∧ s.Configured ∧ s.Scheduled
    let written := fun e : Engine => { s with
      cmd := { s.cmd with urgent := reg, note := true, engine := e }, path := { s.path with cmdOut := left }, ev := ev }
    (s.cmd.engine = .waitLoad ∨ s.cmd.engine = .busy ∧ own → exec c s = .next (written s.cmd.engine)) ∧
    (s.cmd.engine = .busy → ¬own → s.path.cmdOut ≠ [] →
      (s.life.phase = .load → exec c s = .next (written .waitLoad)) ∧
      (s.life.phase ≠ .load → reg = none →
        exec c s = .next (if s.cmd.head = s.cmd.tail then written .ready else headFetched (written .ready))) ∧
      (∀ u, reg = some u → accepts → exec c s = .next (codeAccepted u (written .busy)))) ∧
    (s.cmd.engine = .ready ∨ s.cmd.engine = .stalled →
      (reg = none →
        (s.cmd.engine = .stalled ∨ s.cmd.head = s.cmd.tail ∨ own → exec c s = .next (written s.cmd.engine)) ∧
        (s.cmd.engine = .ready → s.cmd.head ≠ s.cmd.tail → ¬own → exec c s = .next (headFetched (written .ready)))) ∧
      (∀ u, reg = some u →
        (onPortKind s .urgentClear ∨ refuses ∧ own → exec c s = .next (written s.cmd.engine)) ∧
        (accepts → ¬refuses ∧ ¬onPortKind s .urgentClear ∨ ¬own →
          exec c s = .next (codeAccepted u (written s.cmd.engine)))))) ∧
  (∀ s : State,
    (s.cmd.urgent = none ∨ outstanding s .commandEngine = true ∨ ¬(s.cmd.engine = .ready ∨ s.cmd.engine = .stalled) →
      exec .urgentAcceptance s = .next s) ∧
    (∀ u, s.cmd.urgent = some u → outstanding s .commandEngine = false →
      (s.cmd.engine = .ready ∨ s.cmd.engine = .stalled) → (s.life.phase = .run ∨ s.life.phase = .halt) →
      s.Configured → s.Scheduled → exec .urgentAcceptance s = .next (codeAccepted u s)))

/-! ### The Event Writer (R167 to R172) -/

/-- R167: an event handed over is discarded uncounted where no ring is in force and where the class mask suppresses
its class, LOST never being suppressed; with 8 events pending it is dropped and the lost count goes up by 1,
saturating at 65,535; otherwise it joins the end of the pending list. Nothing else of the Event Writer changes.
R168: with no write in progress and a ring in force, a full ring, its unconsumed count being its size less one, costs
the oldest pending event, which joins the lost count; with room, a lost count above 0 is written as a LOST/COUNT
record, and otherwise the oldest pending event is written, at ring base + producer × 16, its record as R181 lays it
out.
R168, R169: a record write that completes without error advances the producer index by one modulo the ring size,
clears the error flag, and posts the producer word, within this completion, so that it waits already at the next
grant, which is the model's choice (log entry 14); after a LOST record the lost count is 0. On an error nothing is
published, the flag is set, and an ordinary event joins the lost count.
R169, R171: when a producer-word write ends, with an error or without, EVT# is evaluated; the coalesce timer starts
after a record that was written into an empty ring; an error sets the error flag and loses nothing.
R172: a ring that waits to be adopted is adopted when the producer-word write, or a record write that fails, has
ended: indices, timer and flag are kept where base and size are unchanged; otherwise the indices are 0, the timer is
stopped, its flag clear and 0 is written to the new producer word, posted within the completion likewise (log entry
14). EVT# is evaluated under the new ring (log entry 19). -/
def Obligations.EventsAreWrittenAndPublished : Prop :=
  (∀ (e : Event) (w : EventWriter),
    (w.ring = none → w.take e = w) ∧
    ∀ r, w.ring = some r →
      (r.mask.getLsbD e.kind.cls = true → e.kind.cls ≠ 11 → w.take e = w) ∧
      (r.mask.getLsbD e.kind.cls = false ∨ e.kind.cls = 11 →
        (8 ≤ w.pending.length → w.take e = { w with lost := if 65535 ≤ w.lost + 1 then 65535 else w.lost + 1 }) ∧
        (w.pending.length < 8 → w.take e = { w with pending := w.pending ++ [e] }))) ∧
  (∀ (r : EvRing) (s : State), s.Configured → s.ev.ring = some r → outstanding s .eventWriter = false →
    let full := ((s.ev.producer : Int) - s.ev.consumer) % r.size = r.size - 1
    (∀ e rest, full → s.ev.pending = e :: rest → exec .eventWriterAction s = .next { s with
      ev := { s.ev with pending := rest, lost := if 65535 ≤ s.ev.lost + 1 then 65535 else s.ev.lost + 1 } }) ∧
    (¬full → 0 < s.ev.lost → exec .eventWriterAction s = .next { s with
      path := { s.path with evOut := s.path.evOut ++ [⟨.eventRecord true,
        r.base + BitVec.ofNat 32 (16 * s.ev.producer),
        [0x0000010B, s.life.clock, BitVec.ofNat 32 s.ev.lost, 0]⟩] } }) ∧
    (∀ e rest, ¬full → s.ev.lost = 0 → s.ev.pending = e :: rest →
      exec .eventWriterAction s = .next { s with
        ev := { s.ev with pending := rest }
        path := { s.path with evOut := s.path.evOut ++ [⟨.eventRecord false,
          r.base + BitVec.ofNat 32 (16 * s.ev.producer),
          [wordOfSum [e.kind.cls, 0x100 * e.kind.code, 0x10000 * e.subject.toNat], e.time, e.a, e.b]⟩] } })) ∧
  (∀ (r : EvRing) (lost : Bool) (s : State), s.Configured → s.ev.ring = some r →
      onPortKind s (.eventRecord lost) →
      exec (.eventRecordWriteComplete false) s = .next { s with
        ev := { s.ev with
          producer := (s.ev.producer + 1) % r.size
          pathError := false
          lost := if lost = true then 0 else s.ev.lost }
        path := { s.path with
          memPort := none
          evOut := s.path.evOut ++ [⟨.producerWord (decide (((s.ev.producer : Int) - s.ev.consumer) % r.size = 0)),
            r.base + BitVec.ofNat 32 (if r.size = 256 then 0x1F00 else 0xF00),
            [BitVec.ofNat 32 ((s.ev.producer + 1) % r.size)]⟩] } } ∧
      (s.ev.adopt = none → exec (.eventRecordWriteComplete true) s = .next { s with
        ev := { s.ev with
          pathError := true
          lost := if lost = true then s.ev.lost
            else if 65535 ≤ s.ev.lost + 1 then 65535 else s.ev.lost + 1 }
        path := { s.path with memPort := none } })) ∧
  (∀ (error first : Bool) (r : EvRing) (s : State), s.Configured → s.ev.ring = some r → s.ev.adopt = none →
      onPortKind s (.producerWord first) →
      exec (.producerWordWriteComplete error) s = .next { s with
        ev := { s.ev with
          pathError := s.ev.pathError || error
          coalesce := if first = true then some ⟨s.life.clock, r.coalesceMs⟩ else s.ev.coalesce
          evt := decide ((r.threshold : Int) ≤ ((s.ev.producer : Int) - s.ev.consumer) % r.size) || s.ev.expired }
        path := { s.path with memPort := none } }) ∧
  (∀ (c : Instr) (e : EventWriter) (a r : EvRing) (s : State),
      s.Configured → s.ev.ring = some r → s.ev.adopt = some a →
      ((∃ lost, c = .eventRecordWriteComplete true ∧ onPortKind s (.eventRecord lost) ∧ e = { s.ev with
          pathError := true
          lost := if lost = true then s.ev.lost
            else if 65535 ≤ s.ev.lost + 1 then 65535 else s.ev.lost + 1 }) ∨
        ∃ error first, c = .producerWordWriteComplete error ∧ onPortKind s (.producerWord first) ∧ e = { s.ev with
          pathError := s.ev.pathError || error
          coalesce := if first = true then some ⟨s.life.clock, r.coalesceMs⟩ else s.ev.coalesce }) →
      (a.base = r.base ∧ a.size = r.size → exec c s = .next { s with
        ev := { e with
          ring := some a, adopt := none
          evt := decide ((a.threshold : Int) ≤ ((s.ev.producer : Int) - s.ev.consumer) % a.size) || s.ev.expired }
        path := { s.path with memPort := none } }) ∧
      (¬(a.base = r.base ∧ a.size = r.size) → exec c s = .next { s with
        ev := { e with
          ring := some a, adopt := none, producer := 0, consumer := 0, coalesce := none, expired := false, evt := false }
        path := { s.path with
          memPort := none
          evOut := s.path.evOut ++ [⟨.producerWord false,
            a.base + BitVec.ofNat 32 (if a.size = 256 then 0x1F00 else 0xF00), [0]⟩] } }))

/-- R170, R171: a consumer write sets the mirrored index modulo the ring size; the expired flag is cleared, the timer is
stopped when the ring is left empty and restarted otherwise, and EVT# is asserted exactly when the unconsumed count,
(producer − consumer) mod ring size, is at or above N.
R171: when the coalesce timer is due it stops, the expired flag is set and EVT# is asserted; a timer that is not due
stands. -/
def Obligations.ConsumerAndCoalesceDriveEvt : Prop :=
  (∀ (v : W32) (r : EvRing) (s : State), (ringWindows s).isSome = true → s.Configured → s.ev.ring = some r →
        exec (.consumerWordWrite v) s = .next { s with
          ev := { s.ev with
            consumer := v.toNat % r.size
            expired := false
            coalesce := if ((s.ev.producer : Int) - v.toNat) % r.size = 0 then none else some ⟨s.life.clock, r.coalesceMs⟩
            evt := decide ((r.threshold : Int) ≤ ((s.ev.producer : Int) - v.toNat) % r.size) } }) ∧
  (∀ (tm : Timer) (s : State), s.ev.coalesce = some tm → s.ev.ring.isSome = true →
      (tm.len ≤ (s.life.clock - tm.start).toNat → exec .coalesceTimerExpiry s = .next { s with
        ev := { s.ev with coalesce := none, expired := true, evt := true } }) ∧
      ((s.life.clock - tm.start).toNat < tm.len → exec .coalesceTimerExpiry s = .next s))

/-! ### The Export Engine (R173 to R177, R184) -/

/-- R174, R176: a fetched pair's first entry is reached; on addresses and lengths of 16 bytes its region becomes
current and the stream's next burst is posted to it; otherwise the export ends with LIST_ERROR, and a memory error on
the fetch ends it with BUS_ERROR, EXPORT/END carrying the entries reached and the bytes written.
R175, R176, R177: a stream burst that completes without error is counted and, while the turn and the region have more,
the next burst follows at the region's next address, each burst being posted within the completion, which is the
model's choice (log entry 14); the trailer's last burst ends the export, DONE_EXACT exactly at the end of a LAST
region; an error ends it with BUS_ERROR; after an abort the burst is still counted. -/
def Obligations.ListFetchesAndStreamBurstsAct : Prop :=
  (∀ (j : ExportJob) (s : State), onPortKind s .listFetch → s.exp.job = some j →
    (∀ a l a' l' : W32, a.toNat % 16 = 0 → l.toNat % 16 = 0 →
      exec (.listFetchComplete (.words a l a' l')) s = .next { s with
        exp := { s.exp with
          job := some { j with
            cursor := j.cursor + 1, reached := j.reached + 1, held := some (a', l')
            region := some ⟨a, if l.toNat % 65536 = 0 then 65536 else l.toNat % 65536, l.getLsbD 31⟩
            lastUsed := l.getLsbD 31 } }
        path := { s.path with memPort := none, expOut := s.path.expOut ++ [⟨.stream, a, j.buf.take 4⟩] } }) ∧
    (∀ a l a' l' : W32, a.toNat % 16 ≠ 0 ∨ l.toNat % 16 ≠ 0 →
      exec (.listFetchComplete (.words a l a' l')) s = .next { s with
        exp := { s.exp with job := none, outcome := .listError }
        path := { s.path with memPort := none, expOut := [] }
        ev := s.ev.take ⟨.exportEnd, BitVec.ofNat 16 (j.reached + 1), s.life.clock, 4,
          BitVec.ofNat 32 s.exp.bytes⟩ }) ∧
    exec (.listFetchComplete .error) s = .next { s with
      exp := { s.exp with job := none, outcome := .busError }
      path := { s.path with memPort := none, expOut := [] }
      ev := s.ev.take ⟨.exportEnd, BitVec.ofNat 16 j.reached, s.life.clock, 5, BitVec.ofNat 32 s.exp.bytes⟩ }) ∧
  (∀ s : State, onPortKind s .stream →
    (∀ j r w rest, s.exp.job = some j → j.region = some r → j.buf.drop 4 = w :: rest → 16 < r.left →
      exec (.streamWriteComplete false) s = .next { s with
        exp := { s.exp with
          bytes := s.exp.bytes + 16
          job := some { j with
            buf := w :: rest, region := some { r with addr := r.addr + 16, left := r.left - 16 } } }
        path := { s.path with
          memPort := none, expOut := s.path.expOut ++ [⟨.stream, r.addr + 16, (w :: rest).take 4⟩] } }) ∧
    (∀ j r, s.exp.job = some j → j.region = some r → j.buf.drop 4 = [] → j.turns = [] →
      exec (.streamWriteComplete false) s = .next { s with
        exp := { s.exp with
          bytes := s.exp.bytes + 16, job := none
          outcome := if r.left ≤ 16 ∧ r.last = true then .doneExact else .doneShort }
        path := { s.path with memPort := none, expOut := [] }
        ev := s.ev.take ⟨.exportEnd, BitVec.ofNat 16 j.reached, s.life.clock,
          if r.left ≤ 16 ∧ r.last = true then 1 else 2, BitVec.ofNat 32 (s.exp.bytes + 16)⟩ }) ∧
    (∀ j, s.exp.job = some j → exec (.streamWriteComplete true) s = .next { s with
      exp := { s.exp with job := none, outcome := .busError }
      path := { s.path with memPort := none, expOut := [] }
      ev := s.ev.take ⟨.exportEnd, BitVec.ofNat 16 j.reached, s.life.clock, 5, BitVec.ofNat 32 s.exp.bytes⟩ }) ∧
    (s.exp.job = none → exec (.streamWriteComplete false) s = .next { s with
      exp := { s.exp with bytes := s.exp.bytes + 16 }
      path := { s.path with memPort := none } }))

/-- R175, R184: when a turn's last burst has been written the next turn is captured at that moment from the state that
stands: a pass's header as the map window serves it and then its cell pieces, the hot-list block as served, or the
trailer with the generations captured so far and the end time.
R174: where the current region is used up and stream bytes remain, a region is needed: after entry 31 the export ends
with LIST_ERROR, after a LAST entry with TRUNCATED, after an entry 31 that is LAST with the one of the two that the
free value of log entry 17 says; otherwise an entry of the pair still held is reached, and without one the pair that
holds the next entry is fetched. The burst or fetch that follows is posted within the completion, which is the model's
choice (log entry 14). -/
def Obligations.ExportRegionsAndTurnsFollow : Prop :=
  ∀ (j : ExportJob) (r : Region) (s : State), onPortKind s .stream → s.exp.job = some j → j.region = some r →
    let piece := fun c : Nat =>
      let cell := s.map.cells.get c
      liveRecord s (.cellRec c) ++
        [wordOfSum [half cell.tcComp, 0x10000 * half (cell.snap.map Snapshot.value)],
          (match cell.snap with
            | some x => wordOfSum [(x.brightness % 65536).toNat, 0x10000, 0x20000 * one x.fresh,
                0x40000 * one cell.lastDirect.isSome]
            | none => wordOfSum [0x40000 * one cell.lastDirect.isSome]),
          (match cell.snap with | some x => BitVec.ofNat 32 x.age | none => 0),
          (match cell.lastDirect with | some t => t | none => 0xFFFF8000)]
    let gen := fun p : Nat => (j.gens.get p).toNat
    let next := fun j' : ExportJob =>
      (∃ w rest, j.buf.drop 4 = w :: rest ∧ j' = { j with buf := w :: rest }) ∨
      (j.buf.drop 4 = [] ∧ ∃ turn rest, j.turns = turn :: rest ∧
        match turn with
        | .pass p => j' = { j with
            turns := rest, gens := j.gens.set p (s.map.passes.get p).gen
            buf := liveRecord s (.passHeader p) ++
              (List.range (s.map.passes.get p).cfg.cellCount).flatMap fun k => piece (p * 64 + k) }
        | .hotList => j' = { j with turns := rest, buf := liveRecord s .hotList }
        | .trailer => j' = { j with
            turns := rest
            buf := [wordOfSum [gen 0, 0x100 * gen 1, 0x10000 * gen 2, 0x1000000 * gen 3],
              wordOfSum [gen 4, 0x100 * gen 5, 0x10000 * gen 6, 0x1000000 * gen 7], s.life.clock, 0, 0, 0, 0, 0] })
    ∀ j', next j' →
      let ended := fun (o : ExportOutcome) (reached code : Nat) => { s with
        exp := { s.exp with bytes := s.exp.bytes + 16, job := none, outcome := o }
        path := { s.path with memPort := none, expOut := [] }
        ev := s.ev.take ⟨.exportEnd, BitVec.ofNat 16 reached, s.life.clock, BitVec.ofNat 32 code,
          BitVec.ofNat 32 (s.exp.bytes + 16)⟩ }
      let goes := fun (job : ExportJob) (request : BridgeReq) => { s with
        exp := { s.exp with bytes := s.exp.bytes + 16, job := some job }
        path := { s.path with memPort := none, expOut := s.path.expOut ++ [request] } }
      (16 < r.left → exec (.streamWriteComplete false) s = .next
        (goes { j' with region := some { r with addr := r.addr + 16, left := r.left - 16 } }
          ⟨.stream, r.addr + 16, j'.buf.take 4⟩)) ∧
      (r.left ≤ 16 →
        (31 < j.cursor → j.lastUsed = false →
          exec (.streamWriteComplete false) s = .next (ended .listError j.reached 4)) ∧
        (j.cursor ≤ 31 → j.lastUsed = true →
          exec (.streamWriteComplete false) s = .next (ended .truncated j.reached 3)) ∧
        (31 < j.cursor → j.lastUsed = true → exec (.streamWriteComplete false) s = .next
          (if Config.lastEntryTruncates then ended .truncated j.reached 3 else ended .listError j.reached 4)) ∧
        (j.cursor ≤ 31 → j.lastUsed = false →
          (∀ a l, j.held = some (a, l) → a.toNat % 16 = 0 → l.toNat % 16 = 0 →
            exec (.streamWriteComplete false) s = .next
              (goes { j' with
                cursor := j.cursor + 1, reached := j.reached + 1, held := none
                region := some ⟨a, if l.toNat % 65536 = 0 then 65536 else l.toNat % 65536, l.getLsbD 31⟩
                lastUsed := l.getLsbD 31 } ⟨.stream, a, j'.buf.take 4⟩)) ∧
          (∀ a l, j.held = some (a, l) → a.toNat % 16 ≠ 0 ∨ l.toNat % 16 ≠ 0 →
            exec (.streamWriteComplete false) s = .next (ended .listError (j.reached + 1) 4)) ∧
          (j.held = none → exec (.streamWriteComplete false) s = .next
            (goes { j' with region := none }
              ⟨.listFetch, j.listAddr + BitVec.ofNat 32 (16 * (j.cursor / 2)), []⟩))))

/-! ### Records (R180) and invariants -/

/-- R180: for every command that a ring record spells and every argument its fields admit, the record decodes to that
command; a record with an opcode that names no command decodes to UNKNOWN_OPCODE with it. -/
def Obligations.RecordsDecodeAsEncoded : Prop :=
  ∀ (c : Instr) (r : CmdRecord), c.wellFormed = true → encodeRecord c = some r → decodeRecord r = c

/-- The bounds of State.Bounded hold after every step: the frame, line and pending-event queues (R31, R76, R167), the
lost, suppressed-write and fairness counts (R11, R12, R167), the refresh queue and the workspace (R95, R97), the hot list
and the eligible count (R148), the ring indices (R159, R167), verdict histories (R59), persistence counts (R131),
exposures (R140) and commit ages (R93). -/
def Obligations.EveryStepKeepsTheBounds : Prop :=
  ∀ s t : State, s.Phased → s.Configured → s.Bounded → step s = .next t → t.Bounded

/-- Every configuration held stays one whose root passed its range and window checks, and the active window set stays
that of the configuration in force, after every step (R4, R18, R19, R23). -/
def Obligations.EveryStepKeepsConfigurationsLegal : Prop :=
  ∀ s t : State, s.Phased → s.Configured → step s = .next t → t.Configured

/-- The lifephase, the load in progress, the window set and the lock agree after every step (R4, R14, R16, R23, R25). -/
def Obligations.EveryStepKeepsTheLifephase : Prop :=
  ∀ s t : State, s.Phased → s.Locked → step s = .next t → t.Phased ∧ t.Locked

/-- Outside RUN nothing is queued, in hand, in flight or exported, and TAKE_OK is deasserted, after every step (R14, R33,
R45, R71, R89, R119, R177). -/
def Obligations.EveryStepKeepsThePause : Prop :=
  ∀ s t : State, s.Phased → s.Paused → step s = .next t → t.Paused

/-- The refresh queue holds no pass twice, no frozen pass and no pass in OOS, after every step (R95, R110, R113). -/
def Obligations.EveryStepKeepsTheSchedule : Prop :=
  ∀ s t : State, s.Phased → s.Paused → s.Scheduled → step s = .next t → t.Scheduled

/-- ALM# is asserted exactly while its condition holds, after every step (R138). -/
def Obligations.EveryStepKeepsAlmTrue : Prop := ∀ s t : State, s.AlmTrue → step s = .next t → t.AlmTrue

/-- Every temperature the bridge computes for a cell or a channel stays within −5000..15,000 after every step: cells, TC
components and spot snapshots (R92, R106), channels (R47, R62), spots (R81), the image of a recompute in flight (R98), the
thermocouple values of pairings (R84) and the temperatures of rate references (R125). A cell is without one exactly where
it is VOID or OOS, and a channel supplies one exactly in GOOD and SUSPECT. -/
def Obligations.EveryStepKeepsTemperaturesInRange : Prop :=
  ∀ s t : State, s.InRange → step s = .next t → t.InRange

/-- The hot list stands in ascending order of margin, then of cell, each cell once, after every step (R148, R150). -/
def Obligations.EveryStepKeepsTheRanking : Prop := ∀ s t : State, s.Ranked → step s = .next t → t.Ranked
end

