-- ==== Sys2Proof/Laws/State.lean ====
section
/-! SUPPORT. The updates of one field of State: one lemma per field, true by rfl, so that no later proof unfolds a record
update. -/

namespace Sys2Proof.Machine

/-! ### withRecs -/

section
variable (x : Table AlarmRec 512) (s : State)

@[simp] theorem withRecs_life : (withRecs x s).life = s.life := rfl
@[simp] theorem withRecs_path : (withRecs x s).path = s.path := rfl
@[simp] theorem withRecs_intake : (withRecs x s).intake = s.intake := rfl
@[simp] theorem withRecs_conv : (withRecs x s).conv = s.conv := rfl
@[simp] theorem withRecs_view : (withRecs x s).view = s.view := rfl
@[simp] theorem withRecs_map : (withRecs x s).map = s.map := rfl
@[simp] theorem withRecs_hot : (withRecs x s).hot = s.hot := rfl
@[simp] theorem withRecs_cmd : (withRecs x s).cmd = s.cmd := rfl
@[simp] theorem withRecs_ev : (withRecs x s).ev = s.ev := rfl
@[simp] theorem withRecs_exp : (withRecs x s).exp = s.exp := rfl
@[simp] theorem withRecs_pending : (withRecs x s).pending = s.pending := rfl
@[simp] theorem withRecs_alarm_recs : (withRecs x s).alarm.recs = x := rfl
@[simp] theorem withRecs_alarm_alm : (withRecs x s).alarm.alm = s.alarm.alm := rfl

end

/-! ### withChannels -/

section
variable (x : Table Channel 128) (s : State)

@[simp] theorem withChannels_life : (withChannels x s).life = s.life := rfl
@[simp] theorem withChannels_path : (withChannels x s).path = s.path := rfl
@[simp] theorem withChannels_intake : (withChannels x s).intake = s.intake := rfl
@[simp] theorem withChannels_view : (withChannels x s).view = s.view := rfl
@[simp] theorem withChannels_map : (withChannels x s).map = s.map := rfl
@[simp] theorem withChannels_alarm : (withChannels x s).alarm = s.alarm := rfl
@[simp] theorem withChannels_hot : (withChannels x s).hot = s.hot := rfl
@[simp] theorem withChannels_cmd : (withChannels x s).cmd = s.cmd := rfl
@[simp] theorem withChannels_ev : (withChannels x s).ev = s.ev := rfl
@[simp] theorem withChannels_exp : (withChannels x s).exp = s.exp := rfl
@[simp] theorem withChannels_pending : (withChannels x s).pending = s.pending := rfl
@[simp] theorem withChannels_conv_channels : (withChannels x s).conv.channels = x := rfl
@[simp] theorem withChannels_conv_curves : (withChannels x s).conv.curves = s.conv.curves := rfl
@[simp] theorem withChannels_conv_inHand : (withChannels x s).conv.inHand = s.conv.inHand := rfl

end

/-! ### withCells -/

section
variable (x : Table Cell 512) (s : State)

@[simp] theorem withCells_life : (withCells x s).life = s.life := rfl
@[simp] theorem withCells_path : (withCells x s).path = s.path := rfl
@[simp] theorem withCells_intake : (withCells x s).intake = s.intake := rfl
@[simp] theorem withCells_conv : (withCells x s).conv = s.conv := rfl
@[simp] theorem withCells_view : (withCells x s).view = s.view := rfl
@[simp] theorem withCells_alarm : (withCells x s).alarm = s.alarm := rfl
@[simp] theorem withCells_hot : (withCells x s).hot = s.hot := rfl
@[simp] theorem withCells_cmd : (withCells x s).cmd = s.cmd := rfl
@[simp] theorem withCells_ev : (withCells x s).ev = s.ev := rfl
@[simp] theorem withCells_exp : (withCells x s).exp = s.exp := rfl
@[simp] theorem withCells_pending : (withCells x s).pending = s.pending := rfl
@[simp] theorem withCells_map_cells : (withCells x s).map.cells = x := rfl
@[simp] theorem withCells_map_passes : (withCells x s).map.passes = s.map.passes := rfl
@[simp] theorem withCells_map_queue : (withCells x s).map.queue = s.map.queue := rfl
@[simp] theorem withCells_map_work : (withCells x s).map.work = s.map.work := rfl

end

/-! ### withPasses -/

section
variable (x : Table Pass 8) (s : State)

@[simp] theorem withPasses_life : (withPasses x s).life = s.life := rfl
@[simp] theorem withPasses_path : (withPasses x s).path = s.path := rfl
@[simp] theorem withPasses_intake : (withPasses x s).intake = s.intake := rfl
@[simp] theorem withPasses_conv : (withPasses x s).conv = s.conv := rfl
@[simp] theorem withPasses_view : (withPasses x s).view = s.view := rfl
@[simp] theorem withPasses_alarm : (withPasses x s).alarm = s.alarm := rfl
@[simp] theorem withPasses_hot : (withPasses x s).hot = s.hot := rfl
@[simp] theorem withPasses_cmd : (withPasses x s).cmd = s.cmd := rfl
@[simp] theorem withPasses_ev : (withPasses x s).ev = s.ev := rfl
@[simp] theorem withPasses_exp : (withPasses x s).exp = s.exp := rfl
@[simp] theorem withPasses_pending : (withPasses x s).pending = s.pending := rfl
@[simp] theorem withPasses_map_cells : (withPasses x s).map.cells = s.map.cells := rfl
@[simp] theorem withPasses_map_passes : (withPasses x s).map.passes = x := rfl
@[simp] theorem withPasses_map_queue : (withPasses x s).map.queue = s.map.queue := rfl
@[simp] theorem withPasses_map_work : (withPasses x s).map.work = s.map.work := rfl

end

/-! ### withQueue -/

section
variable (x : List Nat) (s : State)

@[simp] theorem withQueue_life : (withQueue x s).life = s.life := rfl
@[simp] theorem withQueue_path : (withQueue x s).path = s.path := rfl
@[simp] theorem withQueue_intake : (withQueue x s).intake = s.intake := rfl
@[simp] theorem withQueue_conv : (withQueue x s).conv = s.conv := rfl
@[simp] theorem withQueue_view : (withQueue x s).view = s.view := rfl
@[simp] theorem withQueue_alarm : (withQueue x s).alarm = s.alarm := rfl
@[simp] theorem withQueue_hot : (withQueue x s).hot = s.hot := rfl
@[simp] theorem withQueue_cmd : (withQueue x s).cmd = s.cmd := rfl
@[simp] theorem withQueue_ev : (withQueue x s).ev = s.ev := rfl
@[simp] theorem withQueue_exp : (withQueue x s).exp = s.exp := rfl
@[simp] theorem withQueue_pending : (withQueue x s).pending = s.pending := rfl
@[simp] theorem withQueue_map_cells : (withQueue x s).map.cells = s.map.cells := rfl
@[simp] theorem withQueue_map_passes : (withQueue x s).map.passes = s.map.passes := rfl
@[simp] theorem withQueue_map_queue : (withQueue x s).map.queue = x := rfl
@[simp] theorem withQueue_map_work : (withQueue x s).map.work = s.map.work := rfl

end

/-! ### withWork -/

section
variable (x : Option Work) (s : State)

@[simp] theorem withWork_life : (withWork x s).life = s.life := rfl
@[simp] theorem withWork_path : (withWork x s).path = s.path := rfl
@[simp] theorem withWork_intake : (withWork x s).intake = s.intake := rfl
@[simp] theorem withWork_conv : (withWork x s).conv = s.conv := rfl
@[simp] theorem withWork_view : (withWork x s).view = s.view := rfl
@[simp] theorem withWork_alarm : (withWork x s).alarm = s.alarm := rfl
@[simp] theorem withWork_hot : (withWork x s).hot = s.hot := rfl
@[simp] theorem withWork_cmd : (withWork x s).cmd = s.cmd := rfl
@[simp] theorem withWork_ev : (withWork x s).ev = s.ev := rfl
@[simp] theorem withWork_exp : (withWork x s).exp = s.exp := rfl
@[simp] theorem withWork_pending : (withWork x s).pending = s.pending := rfl
@[simp] theorem withWork_map_cells : (withWork x s).map.cells = s.map.cells := rfl
@[simp] theorem withWork_map_passes : (withWork x s).map.passes = s.map.passes := rfl
@[simp] theorem withWork_map_queue : (withWork x s).map.queue = s.map.queue := rfl
@[simp] theorem withWork_map_work : (withWork x s).map.work = x := rfl

end

/-! ### withScanners -/

section
variable (x : Table Scanner 8) (s : State)

@[simp] theorem withScanners_life : (withScanners x s).life = s.life := rfl
@[simp] theorem withScanners_path : (withScanners x s).path = s.path := rfl
@[simp] theorem withScanners_conv : (withScanners x s).conv = s.conv := rfl
@[simp] theorem withScanners_view : (withScanners x s).view = s.view := rfl
@[simp] theorem withScanners_map : (withScanners x s).map = s.map := rfl
@[simp] theorem withScanners_alarm : (withScanners x s).alarm = s.alarm := rfl
@[simp] theorem withScanners_hot : (withScanners x s).hot = s.hot := rfl
@[simp] theorem withScanners_cmd : (withScanners x s).cmd = s.cmd := rfl
@[simp] theorem withScanners_ev : (withScanners x s).ev = s.ev := rfl
@[simp] theorem withScanners_exp : (withScanners x s).exp = s.exp := rfl
@[simp] theorem withScanners_pending : (withScanners x s).pending = s.pending := rfl
@[simp] theorem withScanners_intake_slots : (withScanners x s).intake.slots = s.intake.slots := rfl
@[simp] theorem withScanners_intake_queue : (withScanners x s).intake.queue = s.intake.queue := rfl
@[simp] theorem withScanners_intake_scanners : (withScanners x s).intake.scanners = x := rfl
@[simp] theorem withScanners_intake_takeOk : (withScanners x s).intake.takeOk = s.intake.takeOk := rfl

end

/-! ### withViews -/

section
variable (x : Table ViewEntry 16) (s : State)

@[simp] theorem withViews_life : (withViews x s).life = s.life := rfl
@[simp] theorem withViews_path : (withViews x s).path = s.path := rfl
@[simp] theorem withViews_intake : (withViews x s).intake = s.intake := rfl
@[simp] theorem withViews_conv : (withViews x s).conv = s.conv := rfl
@[simp] theorem withViews_map : (withViews x s).map = s.map := rfl
@[simp] theorem withViews_alarm : (withViews x s).alarm = s.alarm := rfl
@[simp] theorem withViews_hot : (withViews x s).hot = s.hot := rfl
@[simp] theorem withViews_cmd : (withViews x s).cmd = s.cmd := rfl
@[simp] theorem withViews_ev : (withViews x s).ev = s.ev := rfl
@[simp] theorem withViews_exp : (withViews x s).exp = s.exp := rfl
@[simp] theorem withViews_pending : (withViews x s).pending = s.pending := rfl
@[simp] theorem withViews_view_slots : (withViews x s).view.slots = s.view.slots := rfl
@[simp] theorem withViews_view_queue : (withViews x s).view.queue = s.view.queue := rfl
@[simp] theorem withViews_view_inHand : (withViews x s).view.inHand = s.view.inHand := rfl
@[simp] theorem withViews_view_views : (withViews x s).view.views = x := rfl
@[simp] theorem withViews_view_spots : (withViews x s).view.spots = s.view.spots := rfl
@[simp] theorem withViews_view_pairings : (withViews x s).view.pairings = s.view.pairings := rfl

end

/-! ### withSpots -/

section
variable (x : Table (Option Spot) 512) (s : State)

@[simp] theorem withSpots_life : (withSpots x s).life = s.life := rfl
@[simp] theorem withSpots_path : (withSpots x s).path = s.path := rfl
@[simp] theorem withSpots_intake : (withSpots x s).intake = s.intake := rfl
@[simp] theorem withSpots_conv : (withSpots x s).conv = s.conv := rfl
@[simp] theorem withSpots_map : (withSpots x s).map = s.map := rfl
@[simp] theorem withSpots_alarm : (withSpots x s).alarm = s.alarm := rfl
@[simp] theorem withSpots_hot : (withSpots x s).hot = s.hot := rfl
@[simp] theorem withSpots_cmd : (withSpots x s).cmd = s.cmd := rfl
@[simp] theorem withSpots_ev : (withSpots x s).ev = s.ev := rfl
@[simp] theorem withSpots_exp : (withSpots x s).exp = s.exp := rfl
@[simp] theorem withSpots_pending : (withSpots x s).pending = s.pending := rfl
@[simp] theorem withSpots_view_slots : (withSpots x s).view.slots = s.view.slots := rfl
@[simp] theorem withSpots_view_queue : (withSpots x s).view.queue = s.view.queue := rfl
@[simp] theorem withSpots_view_inHand : (withSpots x s).view.inHand = s.view.inHand := rfl
@[simp] theorem withSpots_view_views : (withSpots x s).view.views = s.view.views := rfl
@[simp] theorem withSpots_view_spots : (withSpots x s).view.spots = x := rfl
@[simp] theorem withSpots_view_pairings : (withSpots x s).view.pairings = s.view.pairings := rfl

end

/-! ### withPairings -/

section
variable (x : Table (Option Pairing) 512) (s : State)

@[simp] theorem withPairings_life : (withPairings x s).life = s.life := rfl
@[simp] theorem withPairings_path : (withPairings x s).path = s.path := rfl
@[simp] theorem withPairings_intake : (withPairings x s).intake = s.intake := rfl
@[simp] theorem withPairings_conv : (withPairings x s).conv = s.conv := rfl
@[simp] theorem withPairings_map : (withPairings x s).map = s.map := rfl
@[simp] theorem withPairings_alarm : (withPairings x s).alarm = s.alarm := rfl
@[simp] theorem withPairings_hot : (withPairings x s).hot = s.hot := rfl
@[simp] theorem withPairings_cmd : (withPairings x s).cmd = s.cmd := rfl
@[simp] theorem withPairings_ev : (withPairings x s).ev = s.ev := rfl
@[simp] theorem withPairings_exp : (withPairings x s).exp = s.exp := rfl
@[simp] theorem withPairings_pending : (withPairings x s).pending = s.pending := rfl
@[simp] theorem withPairings_view_slots : (withPairings x s).view.slots = s.view.slots := rfl
@[simp] theorem withPairings_view_queue : (withPairings x s).view.queue = s.view.queue := rfl
@[simp] theorem withPairings_view_inHand : (withPairings x s).view.inHand = s.view.inHand := rfl
@[simp] theorem withPairings_view_views : (withPairings x s).view.views = s.view.views := rfl
@[simp] theorem withPairings_view_spots : (withPairings x s).view.spots = s.view.spots := rfl
@[simp] theorem withPairings_view_pairings : (withPairings x s).view.pairings = x := rfl

end

/-! ### withCmd -/

section
variable (x : Cmd) (s : State)

@[simp] theorem withCmd_life : (withCmd x s).life = s.life := rfl
@[simp] theorem withCmd_path : (withCmd x s).path = s.path := rfl
@[simp] theorem withCmd_intake : (withCmd x s).intake = s.intake := rfl
@[simp] theorem withCmd_conv : (withCmd x s).conv = s.conv := rfl
@[simp] theorem withCmd_view : (withCmd x s).view = s.view := rfl
@[simp] theorem withCmd_map : (withCmd x s).map = s.map := rfl
@[simp] theorem withCmd_alarm : (withCmd x s).alarm = s.alarm := rfl
@[simp] theorem withCmd_hot : (withCmd x s).hot = s.hot := rfl
@[simp] theorem withCmd_ev : (withCmd x s).ev = s.ev := rfl
@[simp] theorem withCmd_exp : (withCmd x s).exp = s.exp := rfl
@[simp] theorem withCmd_pending : (withCmd x s).pending = s.pending := rfl
@[simp] theorem withCmd_cmd : (withCmd x s).cmd = x := rfl

end

/-! ### withEv -/

section
variable (x : EventWriter) (s : State)

@[simp] theorem withEv_life : (withEv x s).life = s.life := rfl
@[simp] theorem withEv_path : (withEv x s).path = s.path := rfl
@[simp] theorem withEv_intake : (withEv x s).intake = s.intake := rfl
@[simp] theorem withEv_conv : (withEv x s).conv = s.conv := rfl
@[simp] theorem withEv_view : (withEv x s).view = s.view := rfl
@[simp] theorem withEv_map : (withEv x s).map = s.map := rfl
@[simp] theorem withEv_alarm : (withEv x s).alarm = s.alarm := rfl
@[simp] theorem withEv_hot : (withEv x s).hot = s.hot := rfl
@[simp] theorem withEv_cmd : (withEv x s).cmd = s.cmd := rfl
@[simp] theorem withEv_exp : (withEv x s).exp = s.exp := rfl
@[simp] theorem withEv_pending : (withEv x s).pending = s.pending := rfl
@[simp] theorem withEv_ev : (withEv x s).ev = x := rfl

end

/-! ### withLife -/

section
variable (x : Life) (s : State)

@[simp] theorem withLife_path : (withLife x s).path = s.path := rfl
@[simp] theorem withLife_intake : (withLife x s).intake = s.intake := rfl
@[simp] theorem withLife_conv : (withLife x s).conv = s.conv := rfl
@[simp] theorem withLife_view : (withLife x s).view = s.view := rfl
@[simp] theorem withLife_map : (withLife x s).map = s.map := rfl
@[simp] theorem withLife_alarm : (withLife x s).alarm = s.alarm := rfl
@[simp] theorem withLife_hot : (withLife x s).hot = s.hot := rfl
@[simp] theorem withLife_cmd : (withLife x s).cmd = s.cmd := rfl
@[simp] theorem withLife_ev : (withLife x s).ev = s.ev := rfl
@[simp] theorem withLife_exp : (withLife x s).exp = s.exp := rfl
@[simp] theorem withLife_pending : (withLife x s).pending = s.pending := rfl
@[simp] theorem withLife_life : (withLife x s).life = x := rfl

end

/-! ### withLoad -/

section
variable (x : Option LoadJob) (s : State)

@[simp] theorem withLoad_path : (withLoad x s).path = s.path := rfl
@[simp] theorem withLoad_intake : (withLoad x s).intake = s.intake := rfl
@[simp] theorem withLoad_conv : (withLoad x s).conv = s.conv := rfl
@[simp] theorem withLoad_view : (withLoad x s).view = s.view := rfl
@[simp] theorem withLoad_map : (withLoad x s).map = s.map := rfl
@[simp] theorem withLoad_alarm : (withLoad x s).alarm = s.alarm := rfl
@[simp] theorem withLoad_hot : (withLoad x s).hot = s.hot := rfl
@[simp] theorem withLoad_cmd : (withLoad x s).cmd = s.cmd := rfl
@[simp] theorem withLoad_ev : (withLoad x s).ev = s.ev := rfl
@[simp] theorem withLoad_exp : (withLoad x s).exp = s.exp := rfl
@[simp] theorem withLoad_pending : (withLoad x s).pending = s.pending := rfl
@[simp] theorem withLoad_life_phase : (withLoad x s).life.phase = s.life.phase := rfl
@[simp] theorem withLoad_life_rootStrap : (withLoad x s).life.rootStrap = s.life.rootStrap := rfl
@[simp] theorem withLoad_life_autoload : (withLoad x s).life.autoload = s.life.autoload := rfl
@[simp] theorem withLoad_life_resetHeld : (withLoad x s).life.resetHeld = s.life.resetHeld := rfl
@[simp] theorem withLoad_life_clearLeft : (withLoad x s).life.clearLeft = s.life.clearLeft := rfl
@[simp] theorem withLoad_life_powerClearDone : (withLoad x s).life.powerClearDone = s.life.powerClearDone := rfl
@[simp] theorem withLoad_life_load : (withLoad x s).life.load = x := rfl
@[simp] theorem withLoad_life_pendingCfg : (withLoad x s).life.pendingCfg = s.life.pendingCfg := rfl
@[simp] theorem withLoad_life_lastResult : (withLoad x s).life.lastResult = s.life.lastResult := rfl
@[simp] theorem withLoad_life_lock : (withLoad x s).life.lock = s.life.lock := rfl
@[simp] theorem withLoad_life_params : (withLoad x s).life.params = s.life.params := rfl
@[simp] theorem withLoad_life_clock : (withLoad x s).life.clock = s.life.clock := rfl
@[simp] theorem withLoad_life_trefEdges : (withLoad x s).life.trefEdges = s.life.trefEdges := rfl

end

/-! ### emit -/

section
variable (k : EventKind) (sub : W16) (a b : W32) (s : State)

@[simp] theorem emit_life : (emit k sub a b s).life = s.life := rfl
@[simp] theorem emit_path : (emit k sub a b s).path = s.path := rfl
@[simp] theorem emit_intake : (emit k sub a b s).intake = s.intake := rfl
@[simp] theorem emit_conv : (emit k sub a b s).conv = s.conv := rfl
@[simp] theorem emit_view : (emit k sub a b s).view = s.view := rfl
@[simp] theorem emit_map : (emit k sub a b s).map = s.map := rfl
@[simp] theorem emit_alarm : (emit k sub a b s).alarm = s.alarm := rfl
@[simp] theorem emit_hot : (emit k sub a b s).hot = s.hot := rfl
@[simp] theorem emit_cmd : (emit k sub a b s).cmd = s.cmd := rfl
@[simp] theorem emit_exp : (emit k sub a b s).exp = s.exp := rfl
@[simp] theorem emit_pending : (emit k sub a b s).pending = s.pending := rfl
@[simp] theorem emit_ev : (emit k sub a b s).ev = s.ev.take ⟨k, sub, s.life.clock, a, b⟩ := rfl

end

/-! ### evalAlm, evalEvt, rebuildList, freePort -/

section
variable (s : State)

@[simp] theorem evalAlm_life : (evalAlm s).life = s.life := rfl
@[simp] theorem evalAlm_path : (evalAlm s).path = s.path := rfl
@[simp] theorem evalAlm_intake : (evalAlm s).intake = s.intake := rfl
@[simp] theorem evalAlm_conv : (evalAlm s).conv = s.conv := rfl
@[simp] theorem evalAlm_view : (evalAlm s).view = s.view := rfl
@[simp] theorem evalAlm_map : (evalAlm s).map = s.map := rfl
@[simp] theorem evalAlm_hot : (evalAlm s).hot = s.hot := rfl
@[simp] theorem evalAlm_cmd : (evalAlm s).cmd = s.cmd := rfl
@[simp] theorem evalAlm_ev : (evalAlm s).ev = s.ev := rfl
@[simp] theorem evalAlm_exp : (evalAlm s).exp = s.exp := rfl
@[simp] theorem evalAlm_pending : (evalAlm s).pending = s.pending := rfl
@[simp] theorem evalAlm_alarm_recs : (evalAlm s).alarm.recs = s.alarm.recs := rfl
@[simp] theorem evalAlm_alarm_alm : (evalAlm s).alarm.alm = almCondition s := rfl

@[simp] theorem evalEvt_life : (evalEvt s).life = s.life := rfl
@[simp] theorem evalEvt_path : (evalEvt s).path = s.path := rfl
@[simp] theorem evalEvt_intake : (evalEvt s).intake = s.intake := rfl
@[simp] theorem evalEvt_conv : (evalEvt s).conv = s.conv := rfl
@[simp] theorem evalEvt_view : (evalEvt s).view = s.view := rfl
@[simp] theorem evalEvt_map : (evalEvt s).map = s.map := rfl
@[simp] theorem evalEvt_alarm : (evalEvt s).alarm = s.alarm := rfl
@[simp] theorem evalEvt_hot : (evalEvt s).hot = s.hot := rfl
@[simp] theorem evalEvt_cmd : (evalEvt s).cmd = s.cmd := rfl
@[simp] theorem evalEvt_exp : (evalEvt s).exp = s.exp := rfl
@[simp] theorem evalEvt_pending : (evalEvt s).pending = s.pending := rfl
@[simp] theorem evalEvt_ev_evt : (evalEvt s).ev.evt = evtCondition s.ev := rfl
@[simp] theorem evalEvt_ev_ring : (evalEvt s).ev.ring = s.ev.ring := rfl
@[simp] theorem evalEvt_ev_pending : (evalEvt s).ev.pending = s.ev.pending := rfl
@[simp] theorem evalEvt_ev_producer : (evalEvt s).ev.producer = s.ev.producer := rfl
@[simp] theorem evalEvt_ev_consumer : (evalEvt s).ev.consumer = s.ev.consumer := rfl
@[simp] theorem evalEvt_ev_lost : (evalEvt s).ev.lost = s.ev.lost := rfl
@[simp] theorem evalEvt_ev_pathError : (evalEvt s).ev.pathError = s.ev.pathError := rfl
@[simp] theorem evalEvt_ev_coalesce : (evalEvt s).ev.coalesce = s.ev.coalesce := rfl
@[simp] theorem evalEvt_ev_expired : (evalEvt s).ev.expired = s.ev.expired := rfl
@[simp] theorem evalEvt_ev_adopt : (evalEvt s).ev.adopt = s.ev.adopt := rfl

@[simp] theorem rebuildList_life : (rebuildList s).life = s.life := by simp only [rebuildList]
@[simp] theorem rebuildList_path : (rebuildList s).path = s.path := by simp only [rebuildList]
@[simp] theorem rebuildList_intake : (rebuildList s).intake = s.intake := by simp only [rebuildList]
@[simp] theorem rebuildList_conv : (rebuildList s).conv = s.conv := by simp only [rebuildList]
@[simp] theorem rebuildList_view : (rebuildList s).view = s.view := by simp only [rebuildList]
@[simp] theorem rebuildList_map : (rebuildList s).map = s.map := by simp only [rebuildList]
@[simp] theorem rebuildList_alarm : (rebuildList s).alarm = s.alarm := by simp only [rebuildList]
@[simp] theorem rebuildList_cmd : (rebuildList s).cmd = s.cmd := by simp only [rebuildList]
@[simp] theorem rebuildList_ev : (rebuildList s).ev = s.ev := by simp only [rebuildList]
@[simp] theorem rebuildList_exp : (rebuildList s).exp = s.exp := by simp only [rebuildList]
@[simp] theorem rebuildList_pending : (rebuildList s).pending = s.pending := by simp only [rebuildList]
@[simp] theorem rebuildList_hot : (rebuildList s).hot = hotOf s := by simp only [rebuildList]

@[simp] theorem freePort_life : (freePort s).life = s.life := rfl
@[simp] theorem freePort_intake : (freePort s).intake = s.intake := rfl
@[simp] theorem freePort_conv : (freePort s).conv = s.conv := rfl
@[simp] theorem freePort_view : (freePort s).view = s.view := rfl
@[simp] theorem freePort_map : (freePort s).map = s.map := rfl
@[simp] theorem freePort_alarm : (freePort s).alarm = s.alarm := rfl
@[simp] theorem freePort_hot : (freePort s).hot = s.hot := rfl
@[simp] theorem freePort_cmd : (freePort s).cmd = s.cmd := rfl
@[simp] theorem freePort_ev : (freePort s).ev = s.ev := rfl
@[simp] theorem freePort_exp : (freePort s).exp = s.exp := rfl
@[simp] theorem freePort_pending : (freePort s).pending = s.pending := rfl
@[simp] theorem freePort_path_windows : (freePort s).path.windows = s.path.windows := rfl
@[simp] theorem freePort_path_extent : (freePort s).path.extent = s.path.extent := rfl
@[simp] theorem freePort_path_latch : (freePort s).path.latch = s.path.latch := rfl
@[simp] theorem freePort_path_holdoff : (freePort s).path.holdoff = s.path.holdoff := rfl
@[simp] theorem freePort_path_suppressed : (freePort s).path.suppressed = s.path.suppressed := rfl
@[simp] theorem freePort_path_fairness : (freePort s).path.fairness = s.path.fairness := rfl
@[simp] theorem freePort_path_upstream : (freePort s).path.upstream = s.path.upstream := rfl
@[simp] theorem freePort_path_memPort : (freePort s).path.memPort = none := rfl
@[simp] theorem freePort_path_hostResp : (freePort s).path.hostResp = s.path.hostResp := rfl
@[simp] theorem freePort_path_evOut : (freePort s).path.evOut = s.path.evOut := rfl
@[simp] theorem freePort_path_cmdOut : (freePort s).path.cmdOut = s.path.cmdOut := rfl
@[simp] theorem freePort_path_expOut : (freePort s).path.expOut = s.path.expOut := rfl
@[simp] theorem freePort_path_lifeOut : (freePort s).path.lifeOut = s.path.lifeOut := rfl

end

/-! ### setRequests -/

section
variable (who : Requester) (l : List BridgeReq) (s : State)

@[simp] theorem setRequests_life : (setRequests who l s).life = s.life := by cases who <;> rfl
@[simp] theorem setRequests_intake : (setRequests who l s).intake = s.intake := by cases who <;> rfl
@[simp] theorem setRequests_conv : (setRequests who l s).conv = s.conv := by cases who <;> rfl
@[simp] theorem setRequests_view : (setRequests who l s).view = s.view := by cases who <;> rfl
@[simp] theorem setRequests_map : (setRequests who l s).map = s.map := by cases who <;> rfl
@[simp] theorem setRequests_alarm : (setRequests who l s).alarm = s.alarm := by cases who <;> rfl
@[simp] theorem setRequests_hot : (setRequests who l s).hot = s.hot := by cases who <;> rfl
@[simp] theorem setRequests_cmd : (setRequests who l s).cmd = s.cmd := by cases who <;> rfl
@[simp] theorem setRequests_ev : (setRequests who l s).ev = s.ev := by cases who <;> rfl
@[simp] theorem setRequests_exp : (setRequests who l s).exp = s.exp := by cases who <;> rfl
@[simp] theorem setRequests_pending : (setRequests who l s).pending = s.pending := by cases who <;> rfl
@[simp] theorem setRequests_path_windows : (setRequests who l s).path.windows = s.path.windows := by cases who <;> rfl
@[simp] theorem setRequests_path_extent : (setRequests who l s).path.extent = s.path.extent := by cases who <;> rfl
@[simp] theorem setRequests_path_latch : (setRequests who l s).path.latch = s.path.latch := by cases who <;> rfl
@[simp] theorem setRequests_path_holdoff : (setRequests who l s).path.holdoff = s.path.holdoff := by cases who <;> rfl
@[simp] theorem setRequests_path_suppressed : (setRequests who l s).path.suppressed = s.path.suppressed := by cases who <;> rfl
@[simp] theorem setRequests_path_fairness : (setRequests who l s).path.fairness = s.path.fairness := by cases who <;> rfl
@[simp] theorem setRequests_path_upstream : (setRequests who l s).path.upstream = s.path.upstream := by cases who <;> rfl
@[simp] theorem setRequests_path_memPort : (setRequests who l s).path.memPort = s.path.memPort := by cases who <;> rfl
@[simp] theorem setRequests_path_hostResp : (setRequests who l s).path.hostResp = s.path.hostResp := by cases who <;> rfl

/-- The requester's list is replaced. -/
@[simp] theorem requests_setRequests_self : requests (setRequests who l s) who = l := by cases who <;> rfl

/-- Another requester's list is left alone. -/
theorem requests_setRequests_ne {other : Requester} (h : other ≠ who) :
    requests (setRequests who l s) other = requests s other := by
  cases who <;> cases other <;> first | rfl | exact absurd rfl h

end

/-! ### post -/

section
variable (r : BridgeReq) (s : State)

@[simp] theorem post_life : (post r s).life = s.life := by simp [post]
@[simp] theorem post_intake : (post r s).intake = s.intake := by simp [post]
@[simp] theorem post_conv : (post r s).conv = s.conv := by simp [post]
@[simp] theorem post_view : (post r s).view = s.view := by simp [post]
@[simp] theorem post_map : (post r s).map = s.map := by simp [post]
@[simp] theorem post_alarm : (post r s).alarm = s.alarm := by simp [post]
@[simp] theorem post_hot : (post r s).hot = s.hot := by simp [post]
@[simp] theorem post_cmd : (post r s).cmd = s.cmd := by simp [post]
@[simp] theorem post_ev : (post r s).ev = s.ev := by simp [post]
@[simp] theorem post_exp : (post r s).exp = s.exp := by simp [post]
@[simp] theorem post_pending : (post r s).pending = s.pending := by simp [post]
@[simp] theorem post_path_windows : (post r s).path.windows = s.path.windows := by simp [post]
@[simp] theorem post_path_extent : (post r s).path.extent = s.path.extent := by simp [post]
@[simp] theorem post_path_latch : (post r s).path.latch = s.path.latch := by simp [post]
@[simp] theorem post_path_holdoff : (post r s).path.holdoff = s.path.holdoff := by simp [post]
@[simp] theorem post_path_suppressed : (post r s).path.suppressed = s.path.suppressed := by simp [post]
@[simp] theorem post_path_fairness : (post r s).path.fairness = s.path.fairness := by simp [post]
@[simp] theorem post_path_upstream : (post r s).path.upstream = s.path.upstream := by simp [post]
@[simp] theorem post_path_memPort : (post r s).path.memPort = s.path.memPort := by simp [post]
@[simp] theorem post_path_hostResp : (post r s).path.hostResp = s.path.hostResp := by simp [post]

/-- A posted request stands behind its requester's earlier ones (R12). -/
theorem requests_post_self : requests (post r s) r.kind.owner = requests s r.kind.owner ++ [r] := by simp [post]

/-- Posting leaves the other requesters' requests alone (R12). -/
theorem requests_post_ne {other : Requester} (h : other ≠ r.kind.owner) : requests (post r s) other = requests s other := by
  simp [post, requests_setRequests_ne _ _ _ h]

end

/-! ### What reads one block only -/

@[simp] theorem now_emit (k : EventKind) (sub : W16) (a b : W32) (s : State) : now (emit k sub a b s) = now s := rfl
@[simp] theorem now_withRecs (x : Table AlarmRec 512) (s : State) : now (withRecs x s) = now s := rfl
@[simp] theorem now_withCells (x : Table Cell 512) (s : State) : now (withCells x s) = now s := rfl
@[simp] theorem now_withPasses (x : Table Pass 8) (s : State) : now (withPasses x s) = now s := rfl
@[simp] theorem passAt_emit (k : EventKind) (sub : W16) (a b : W32) (s : State) (p : Nat) :
    passAt (emit k sub a b s) p = passAt s p := rfl
@[simp] theorem passAt_withRecs (x : Table AlarmRec 512) (s : State) (p : Nat) : passAt (withRecs x s) p = passAt s p := rfl
@[simp] theorem passAt_withCells (x : Table Cell 512) (s : State) (p : Nat) : passAt (withCells x s) p = passAt s p := rfl
@[simp] theorem passAt_withQueue (x : List Nat) (s : State) (p : Nat) : passAt (withQueue x s) p = passAt s p := rfl
@[simp] theorem passAt_withWork (x : Option Work) (s : State) (p : Nat) : passAt (withWork x s) p = passAt s p := rfl
@[simp] theorem passQueued_withQueue (x : List Nat) (s : State) (p : Nat) :
    passQueued (withQueue x s) p = x.contains p := rfl

end Sys2Proof.Machine
end

