-- ==== Sys2Proof/Laws/Table.lean ====
section
/-! SUPPORT. What a table reads after each of its operations. -/

namespace Sys2Proof.Machine

variable {α β : Type} {n : Nat}

/-- Tables with the same entries are the same. -/
theorem Table.ext_data {t u : Table α n} (h : t.data = u.data) : t = u := by
  cases t; cases u; cases h; rfl

theorem Table.getD_fill {i : Nat} (hi : i < n) (a d : α) : (Table.fill n a).getD i d = a := by
  simp [Table.getD, Table.fill, List.getD, hi]

/-- An entry that was written reads as written. -/
@[simp] theorem Table.get_set_self [Inhabited α] {t : Table α n} {i : Nat} {a : α} (hi : i < n) : (t.set i a).get i = a := by
  simp [Table.get, Table.getD, Table.set, List.getD, t.size_eq, hi]

/-- Every other entry reads as before. -/
@[simp] theorem Table.get_set_ne [Inhabited α] {t : Table α n} {i j : Nat} {a : α} (h : j ≠ i) :
    (t.set i a).get j = t.get j := by
  simp [Table.get, Table.getD, Table.set, List.getD, Ne.symm h]

/-- Any entry after a write. -/
theorem Table.get_set [Inhabited α] (t : Table α n) (i j : Nat) (a : α) :
    (t.set i a).get j = if j = i ∧ i < n then a else t.get j := by
  by_cases h : j = i
  · subst h
    by_cases hn : j < n
    · simp [hn]
    · simp [Table.get, Table.getD, Table.set, List.getD, hn, t.size_eq]
  · simp [h]

/-- An entry beyond the table is the default. -/
theorem Table.get_of_le [Inhabited α] (t : Table α n) {i : Nat} (h : n ≤ i) : t.get i = default := by
  have hi : t.data[i]? = none := List.getElem?_eq_none (t.size_eq.le.trans h)
  simp [Table.get, Table.getD, List.getD, hi]

theorem getElem?_mapFrom (f : Nat → α → β) (k i : Nat) (l : List α) :
    (mapFrom f k l)[i]? = l[i]?.map (f (k + i)) := by
  induction l generalizing k i with
  | nil => simp [mapFrom]
  | cons a l ih =>
    cases i with
    | zero => simp [mapFrom]
    | succ i => simp [mapFrom, ih, Nat.add_assoc, Nat.add_comm 1 i]

/-- An entry after every entry was mapped with its index. -/
theorem Table.get_mapIdx [Inhabited α] [Inhabited β] (f : Nat → α → β) (t : Table α n) {i : Nat} (hi : i < n) :
    (t.mapIdx f).get i = f i (t.get i) := by
  simp [Table.get, Table.getD, Table.mapIdx, List.getD, getElem?_mapFrom, t.size_eq, hi]

/-- An entry of a built table. -/
theorem Table.get_build [Inhabited α] (f : Nat → α) {i : Nat} (hi : i < n) : (Table.build n f).get i = f i := by
  simp [Table.get, Table.getD, Table.build, List.getD, hi]

/-- An entry of a filled table. -/
theorem Table.get_fill [Inhabited α] (a : α) {i : Nat} (hi : i < n) : (Table.fill n a).get i = a := by
  simp [Table.get, Table.getD, Table.fill, List.getD, hi]

/-- An entry after one was modified. -/
theorem Table.get_modify [Inhabited α] (t : Table α n) (i j : Nat) (f : α → α) :
    (t.modify i f).get j = if j = i ∧ i < n then f (t.get i) else t.get j := by
  rw [Table.modify, Table.get_set]

/-- A property that the default has and every entry of the table has, every read has. -/
theorem Table.get_mem [Inhabited α] (t : Table α n) {i : Nat} (hi : i < n) : t.get i ∈ t.data := by
  simp [Table.get, Table.getD, List.getD, t.size_eq, hi]

/-- `forIdx` keeps what each of its rounds keeps. -/
theorem forIdx_keeps {σ : Type} {P : σ → Prop} {n : Nat} {f : Nat → σ → σ} (hf : ∀ i s, P s → P (f i s)) {s : σ}
    (hs : P s) : P (forIdx n f s) := by
  unfold forIdx
  generalize List.range n = l
  induction l generalizing s with
  | nil => exact hs
  | cons i l ih => exact ih (hf i s hs)

/-- What no round of `forIdx` changes, `forIdx` does not change. -/
theorem forIdx_same {σ γ : Type} {n : Nat} {f : Nat → σ → σ} (g : σ → γ) (hf : ∀ i s, g (f i s) = g s) (s : σ) :
    g (forIdx n f s) = g s :=
  forIdx_keeps (P := fun t => g t = g s) (fun i t h => (hf i t).trans h) rfl

end Sys2Proof.Machine
end

