-- ==== Sys2Proof/Laws/Frames.lean ====
section
/-! SUPPORT. What each shared operation leaves alone, block by block: the frame lemmas of the operations, tagged for
simp, so that no later proof unfolds an operation for a block it does not touch. -/

namespace Sys2Proof.Machine

/-- What no round of a fold changes, the fold does not change. -/
theorem foldl_same {σ ι γ : Type} {f : σ → ι → σ} (g : σ → γ) (hf : ∀ s i, g (f s i) = g s) (l : List ι) (s : σ) :
    g (l.foldl f s) = g s := by
  induction l generalizing s with
  | nil => rfl
  | cons i l ih => exact (ih (f s i)).trans (hf s i)

/-- What every round of a fold keeps, the fold keeps. -/
theorem foldl_keeps {σ ι : Type} {Q : σ → Prop} {f : σ → ι → σ} (hf : ∀ s i, Q s → Q (f s i)) (l : List ι) {s : σ}
    (hs : Q s) : Q (l.foldl f s) := by
  induction l generalizing s with
  | nil => exact hs
  | cons i l ih => exact ih (hf s i hs)

@[simp] theorem emitAll_frame (es : List (EventKind × W16 × W32 × W32)) (s : State) :
    (emitAll es s).life = s.life ∧
      (emitAll es s).path = s.path ∧
      (emitAll es s).intake = s.intake ∧
      (emitAll es s).conv = s.conv ∧
      (emitAll es s).view = s.view ∧
      (emitAll es s).map = s.map ∧
      (emitAll es s).alarm = s.alarm ∧
      (emitAll es s).hot = s.hot ∧
      (emitAll es s).cmd = s.cmd ∧
      (emitAll es s).exp = s.exp ∧
      (emitAll es s).pending = s.pending :=
  ⟨foldl_same (fun (t : State) => t.life) (by intros; rfl) _ _,
    foldl_same (fun (t : State) => t.path) (by intros; rfl) _ _,
    foldl_same (fun (t : State) => t.intake) (by intros; rfl) _ _,
    foldl_same (fun (t : State) => t.conv) (by intros; rfl) _ _,
    foldl_same (fun (t : State) => t.view) (by intros; rfl) _ _,
    foldl_same (fun (t : State) => t.map) (by intros; rfl) _ _,
    foldl_same (fun (t : State) => t.alarm) (by intros; rfl) _ _,
    foldl_same (fun (t : State) => t.hot) (by intros; rfl) _ _,
    foldl_same (fun (t : State) => t.cmd) (by intros; rfl) _ _,
    foldl_same (fun (t : State) => t.exp) (by intros; rfl) _ _,
    foldl_same (fun (t : State) => t.pending) (by intros; rfl) _ _⟩

@[simp] theorem putAlarm_frame (c : Nat) (out : AlarmRec × List (EventKind × W16 × W32 × W32)) (s : State) :
    (putAlarm c out s).life = s.life ∧
      (putAlarm c out s).path = s.path ∧
      (putAlarm c out s).intake = s.intake ∧
      (putAlarm c out s).conv = s.conv ∧
      (putAlarm c out s).view = s.view ∧
      (putAlarm c out s).map = s.map ∧
      (putAlarm c out s).hot = s.hot ∧
      (putAlarm c out s).cmd = s.cmd ∧
      (putAlarm c out s).exp = s.exp ∧
      (putAlarm c out s).pending = s.pending ∧
      (putAlarm c out s).alarm.alm = s.alarm.alm :=
  by
  refine ⟨?_, ?_, ?_, ?_, ?_, ?_, ?_, ?_, ?_, ?_, ?_⟩ <;> (simp [putAlarm])

@[simp] theorem putChannel_frame (c : Nat) (out : Channel × List (EventKind × W16 × W32 × W32)) (s : State) :
    (putChannel c out s).life = s.life ∧
      (putChannel c out s).path = s.path ∧
      (putChannel c out s).intake = s.intake ∧
      (putChannel c out s).view = s.view ∧
      (putChannel c out s).map = s.map ∧
      (putChannel c out s).alarm = s.alarm ∧
      (putChannel c out s).hot = s.hot ∧
      (putChannel c out s).cmd = s.cmd ∧
      (putChannel c out s).exp = s.exp ∧
      (putChannel c out s).pending = s.pending ∧
      (putChannel c out s).conv.curves = s.conv.curves ∧
      (putChannel c out s).conv.inHand = s.conv.inHand :=
  by
  refine ⟨?_, ?_, ?_, ?_, ?_, ?_, ?_, ?_, ?_, ?_, ?_, ?_⟩ <;> (simp [putChannel])

@[simp] theorem lostNotice_frame (i : Nat) (s : State) :
    (lostNotice i s).life = s.life ∧
      (lostNotice i s).path = s.path ∧
      (lostNotice i s).intake = s.intake ∧
      (lostNotice i s).view = s.view ∧
      (lostNotice i s).map = s.map ∧
      (lostNotice i s).alarm = s.alarm ∧
      (lostNotice i s).hot = s.hot ∧
      (lostNotice i s).cmd = s.cmd ∧
      (lostNotice i s).exp = s.exp ∧
      (lostNotice i s).pending = s.pending ∧
      (lostNotice i s).conv.curves = s.conv.curves ∧
      (lostNotice i s).conv.inHand = s.conv.inHand :=
  ⟨(by unfold lostNotice; exact forIdx_same (fun (t : State) => t.life) (by intros; dsimp only; split <;> simp) _),
    (by unfold lostNotice; exact forIdx_same (fun (t : State) => t.path) (by intros; dsimp only; split <;> simp) _),
    (by unfold lostNotice; exact forIdx_same (fun (t : State) => t.intake) (by intros; dsimp only; split <;> simp) _),
    (by unfold lostNotice; exact forIdx_same (fun (t : State) => t.view) (by intros; dsimp only; split <;> simp) _),
    (by unfold lostNotice; exact forIdx_same (fun (t : State) => t.map) (by intros; dsimp only; split <;> simp) _),
    (by unfold lostNotice; exact forIdx_same (fun (t : State) => t.alarm) (by intros; dsimp only; split <;> simp) _),
    (by unfold lostNotice; exact forIdx_same (fun (t : State) => t.hot) (by intros; dsimp only; split <;> simp) _),
    (by unfold lostNotice; exact forIdx_same (fun (t : State) => t.cmd) (by intros; dsimp only; split <;> simp) _),
    (by unfold lostNotice; exact forIdx_same (fun (t : State) => t.exp) (by intros; dsimp only; split <;> simp) _),
    (by unfold lostNotice; exact forIdx_same (fun (t : State) => t.pending) (by intros; dsimp only; split <;> simp) _),
    (by unfold lostNotice; exact forIdx_same (fun (t : State) => t.conv.curves) (by intros; dsimp only; split <;> simp) _),
    (by unfold lostNotice; exact forIdx_same (fun (t : State) => t.conv.inHand) (by intros; dsimp only; split <;> simp) _)⟩

@[simp] theorem silenceNotice_frame (i : Nat) (s : State) :
    (silenceNotice i s).life = s.life ∧
      (silenceNotice i s).path = s.path ∧
      (silenceNotice i s).intake = s.intake ∧
      (silenceNotice i s).view = s.view ∧
      (silenceNotice i s).map = s.map ∧
      (silenceNotice i s).alarm = s.alarm ∧
      (silenceNotice i s).hot = s.hot ∧
      (silenceNotice i s).cmd = s.cmd ∧
      (silenceNotice i s).exp = s.exp ∧
      (silenceNotice i s).pending = s.pending ∧
      (silenceNotice i s).conv.curves = s.conv.curves ∧
      (silenceNotice i s).conv.inHand = s.conv.inHand :=
  ⟨(by unfold silenceNotice; exact forIdx_same (fun (t : State) => t.life) (by intros; dsimp only; split <;> simp) _),
    (by unfold silenceNotice; exact forIdx_same (fun (t : State) => t.path) (by intros; dsimp only; split <;> simp) _),
    (by unfold silenceNotice; exact forIdx_same (fun (t : State) => t.intake) (by intros; dsimp only; split <;> simp) _),
    (by unfold silenceNotice; exact forIdx_same (fun (t : State) => t.view) (by intros; dsimp only; split <;> simp) _),
    (by unfold silenceNotice; exact forIdx_same (fun (t : State) => t.map) (by intros; dsimp only; split <;> simp) _),
    (by unfold silenceNotice; exact forIdx_same (fun (t : State) => t.alarm) (by intros; dsimp only; split <;> simp) _),
    (by unfold silenceNotice; exact forIdx_same (fun (t : State) => t.hot) (by intros; dsimp only; split <;> simp) _),
    (by unfold silenceNotice; exact forIdx_same (fun (t : State) => t.cmd) (by intros; dsimp only; split <;> simp) _),
    (by unfold silenceNotice; exact forIdx_same (fun (t : State) => t.exp) (by intros; dsimp only; split <;> simp) _),
    (by unfold silenceNotice; exact forIdx_same (fun (t : State) => t.pending) (by intros; dsimp only; split <;> simp) _),
    (by unfold silenceNotice; exact forIdx_same (fun (t : State) => t.conv.curves) (by intros; dsimp only; split <;> simp) _),
    (by unfold silenceNotice; exact forIdx_same (fun (t : State) => t.conv.inHand) (by intros; dsimp only; split <;> simp) _)⟩

@[simp] theorem convertFrame_frame (job : FrameJob) (s : State) :
    (convertFrame job s).life = s.life ∧
      (convertFrame job s).path = s.path ∧
      (convertFrame job s).intake = s.intake ∧
      (convertFrame job s).view = s.view ∧
      (convertFrame job s).map = s.map ∧
      (convertFrame job s).alarm = s.alarm ∧
      (convertFrame job s).hot = s.hot ∧
      (convertFrame job s).cmd = s.cmd ∧
      (convertFrame job s).exp = s.exp ∧
      (convertFrame job s).pending = s.pending :=
  ⟨(by unfold convertFrame; exact (forIdx_same (fun (t : State) => t.life) (by intros; dsimp only; split <;> simp) _).trans rfl),
    (by unfold convertFrame; exact (forIdx_same (fun (t : State) => t.path) (by intros; dsimp only; split <;> simp) _).trans rfl),
    (by unfold convertFrame; exact (forIdx_same (fun (t : State) => t.intake) (by intros; dsimp only; split <;> simp) _).trans rfl),
    (by unfold convertFrame; exact (forIdx_same (fun (t : State) => t.view) (by intros; dsimp only; split <;> simp) _).trans rfl),
    (by unfold convertFrame; exact (forIdx_same (fun (t : State) => t.map) (by intros; dsimp only; split <;> simp) _).trans rfl),
    (by unfold convertFrame; exact (forIdx_same (fun (t : State) => t.alarm) (by intros; dsimp only; split <;> simp) _).trans rfl),
    (by unfold convertFrame; exact (forIdx_same (fun (t : State) => t.hot) (by intros; dsimp only; split <;> simp) _).trans rfl),
    (by unfold convertFrame; exact (forIdx_same (fun (t : State) => t.cmd) (by intros; dsimp only; split <;> simp) _).trans rfl),
    (by unfold convertFrame; exact (forIdx_same (fun (t : State) => t.exp) (by intros; dsimp only; split <;> simp) _).trans rfl),
    (by unfold convertFrame; exact (forIdx_same (fun (t : State) => t.pending) (by intros; dsimp only; split <;> simp) _).trans rfl)⟩

@[simp] theorem fallSilent_frame (i : Nat) (s : State) :
    (fallSilent i s).life = s.life ∧
      (fallSilent i s).path = s.path ∧
      (fallSilent i s).view = s.view ∧
      (fallSilent i s).map = s.map ∧
      (fallSilent i s).alarm = s.alarm ∧
      (fallSilent i s).hot = s.hot ∧
      (fallSilent i s).cmd = s.cmd ∧
      (fallSilent i s).exp = s.exp ∧
      (fallSilent i s).pending = s.pending ∧
      (fallSilent i s).conv.curves = s.conv.curves ∧
      (fallSilent i s).conv.inHand = s.conv.inHand ∧
      (fallSilent i s).intake.queue = s.intake.queue ∧
      (fallSilent i s).intake.takeOk = s.intake.takeOk ∧
      (fallSilent i s).intake.slots = s.intake.slots :=
  by
  refine ⟨?_, ?_, ?_, ?_, ?_, ?_, ?_, ?_, ?_, ?_, ?_, ?_, ?_, ?_⟩ <;> (simp [fallSilent])

@[simp] theorem offerFrame_frame (i : Nat) (f : Frame) (s : State) :
    (offerFrame i f s).life = s.life ∧
      (offerFrame i f s).path = s.path ∧
      (offerFrame i f s).view = s.view ∧
      (offerFrame i f s).map = s.map ∧
      (offerFrame i f s).alarm = s.alarm ∧
      (offerFrame i f s).hot = s.hot ∧
      (offerFrame i f s).cmd = s.cmd ∧
      (offerFrame i f s).exp = s.exp ∧
      (offerFrame i f s).pending = s.pending :=
  by
  refine ⟨?_, ?_, ?_, ?_, ?_, ?_, ?_, ?_, ?_⟩ <;> (unfold offerFrame; (try dsimp only); (repeat' split); all_goals simp)

@[simp] theorem withFrameSlot_frame (i : Nat) (x : Slot 18) (s : State) :
    (withFrameSlot i x s).life = s.life ∧
      (withFrameSlot i x s).path = s.path ∧
      (withFrameSlot i x s).conv = s.conv ∧
      (withFrameSlot i x s).view = s.view ∧
      (withFrameSlot i x s).map = s.map ∧
      (withFrameSlot i x s).alarm = s.alarm ∧
      (withFrameSlot i x s).hot = s.hot ∧
      (withFrameSlot i x s).cmd = s.cmd ∧
      (withFrameSlot i x s).ev = s.ev ∧
      (withFrameSlot i x s).exp = s.exp ∧
      (withFrameSlot i x s).pending = s.pending ∧
      (withFrameSlot i x s).intake.queue = s.intake.queue ∧
      (withFrameSlot i x s).intake.scanners = s.intake.scanners ∧
      (withFrameSlot i x s).intake.takeOk = s.intake.takeOk :=
  ⟨rfl, rfl, rfl, rfl, rfl, rfl, rfl, rfl, rfl, rfl, rfl, rfl, rfl, rfl⟩

@[simp] theorem completeFrameSlot_frame (i : Nat) (buf : Slot 18) (s : State) :
    (completeFrameSlot i buf s).life = s.life ∧
      (completeFrameSlot i buf s).path = s.path ∧
      (completeFrameSlot i buf s).view = s.view ∧
      (completeFrameSlot i buf s).map = s.map ∧
      (completeFrameSlot i buf s).alarm = s.alarm ∧
      (completeFrameSlot i buf s).hot = s.hot ∧
      (completeFrameSlot i buf s).cmd = s.cmd ∧
      (completeFrameSlot i buf s).exp = s.exp ∧
      (completeFrameSlot i buf s).pending = s.pending :=
  by
  refine ⟨?_, ?_, ?_, ?_, ?_, ?_, ?_, ?_, ?_⟩ <;> (unfold completeFrameSlot; (try dsimp only); (repeat' split); all_goals simp)

@[simp] theorem frameBeat_frame (off : Nat) (b : Beat) (s : State) :
    (frameBeat off b s).life = s.life ∧
      (frameBeat off b s).path = s.path ∧
      (frameBeat off b s).view = s.view ∧
      (frameBeat off b s).map = s.map ∧
      (frameBeat off b s).alarm = s.alarm ∧
      (frameBeat off b s).hot = s.hot ∧
      (frameBeat off b s).cmd = s.cmd ∧
      (frameBeat off b s).exp = s.exp ∧
      (frameBeat off b s).pending = s.pending :=
  by
  refine ⟨?_, ?_, ?_, ?_, ?_, ?_, ?_, ?_, ?_⟩ <;> (unfold frameBeat; (try dsimp only); (repeat' split); all_goals simp)

@[simp] theorem popFrame_frame (rest : List Frame) (s : State) :
    (popFrame rest s).life = s.life ∧
      (popFrame rest s).path = s.path ∧
      (popFrame rest s).conv = s.conv ∧
      (popFrame rest s).view = s.view ∧
      (popFrame rest s).map = s.map ∧
      (popFrame rest s).alarm = s.alarm ∧
      (popFrame rest s).hot = s.hot ∧
      (popFrame rest s).cmd = s.cmd ∧
      (popFrame rest s).ev = s.ev ∧
      (popFrame rest s).exp = s.exp ∧
      (popFrame rest s).pending = s.pending :=
  ⟨rfl, rfl, rfl, rfl, rfl, rfl, rfl, rfl, rfl, rfl, rfl⟩

@[simp] theorem beginFrame_frame (f : Frame) (s : State) :
    (beginFrame f s).life = s.life ∧
      (beginFrame f s).path = s.path ∧
      (beginFrame f s).intake = s.intake ∧
      (beginFrame f s).view = s.view ∧
      (beginFrame f s).map = s.map ∧
      (beginFrame f s).alarm = s.alarm ∧
      (beginFrame f s).hot = s.hot ∧
      (beginFrame f s).cmd = s.cmd ∧
      (beginFrame f s).ev = s.ev ∧
      (beginFrame f s).exp = s.exp ∧
      (beginFrame f s).pending = s.pending :=
  ⟨rfl, rfl, rfl, rfl, rfl, rfl, rfl, rfl, rfl, rfl, rfl⟩

@[simp] theorem acceptFrame_frame (f : Frame) (gap : Option Nat) (s : State) :
    (acceptFrame f gap s).life = s.life ∧
      (acceptFrame f gap s).path = s.path ∧
      (acceptFrame f gap s).view = s.view ∧
      (acceptFrame f gap s).map = s.map ∧
      (acceptFrame f gap s).alarm = s.alarm ∧
      (acceptFrame f gap s).hot = s.hot ∧
      (acceptFrame f gap s).cmd = s.cmd ∧
      (acceptFrame f gap s).exp = s.exp ∧
      (acceptFrame f gap s).pending = s.pending :=
  by
  refine ⟨?_, ?_, ?_, ?_, ?_, ?_, ?_, ?_, ?_⟩ <;> (unfold acceptFrame; (try dsimp only); (repeat' split); all_goals simp)

@[simp] theorem checkFrame_frame (f : Frame) (s : State) :
    (checkFrame f s).life = s.life ∧
      (checkFrame f s).path = s.path ∧
      (checkFrame f s).view = s.view ∧
      (checkFrame f s).map = s.map ∧
      (checkFrame f s).alarm = s.alarm ∧
      (checkFrame f s).hot = s.hot ∧
      (checkFrame f s).cmd = s.cmd ∧
      (checkFrame f s).exp = s.exp ∧
      (checkFrame f s).pending = s.pending :=
  by
  refine ⟨?_, ?_, ?_, ?_, ?_, ?_, ?_, ?_, ?_⟩ <;> (unfold checkFrame; (try dsimp only); (repeat' split); all_goals simp)

@[simp] theorem intakeLoadOk_frame (s : State) :
    (intakeLoadOk s).life = s.life ∧
      (intakeLoadOk s).path = s.path ∧
      (intakeLoadOk s).conv = s.conv ∧
      (intakeLoadOk s).view = s.view ∧
      (intakeLoadOk s).map = s.map ∧
      (intakeLoadOk s).alarm = s.alarm ∧
      (intakeLoadOk s).hot = s.hot ∧
      (intakeLoadOk s).cmd = s.cmd ∧
      (intakeLoadOk s).ev = s.ev ∧
      (intakeLoadOk s).exp = s.exp ∧
      (intakeLoadOk s).pending = s.pending :=
  ⟨rfl, rfl, rfl, rfl, rfl, rfl, rfl, rfl, rfl, rfl, rfl⟩

@[simp] theorem intakePause_frame (s : State) :
    (intakePause s).life = s.life ∧
      (intakePause s).path = s.path ∧
      (intakePause s).conv = s.conv ∧
      (intakePause s).view = s.view ∧
      (intakePause s).map = s.map ∧
      (intakePause s).alarm = s.alarm ∧
      (intakePause s).hot = s.hot ∧
      (intakePause s).cmd = s.cmd ∧
      (intakePause s).ev = s.ev ∧
      (intakePause s).exp = s.exp ∧
      (intakePause s).pending = s.pending :=
  ⟨rfl, rfl, rfl, rfl, rfl, rfl, rfl, rfl, rfl, rfl, rfl⟩

@[simp] theorem convLoadOk_frame (s : State) :
    (convLoadOk s).life = s.life ∧
      (convLoadOk s).path = s.path ∧
      (convLoadOk s).intake = s.intake ∧
      (convLoadOk s).view = s.view ∧
      (convLoadOk s).map = s.map ∧
      (convLoadOk s).alarm = s.alarm ∧
      (convLoadOk s).hot = s.hot ∧
      (convLoadOk s).cmd = s.cmd ∧
      (convLoadOk s).ev = s.ev ∧
      (convLoadOk s).exp = s.exp ∧
      (convLoadOk s).pending = s.pending ∧
      (convLoadOk s).conv.curves = s.conv.curves :=
  ⟨rfl, rfl, rfl, rfl, rfl, rfl, rfl, rfl, rfl, rfl, rfl, rfl⟩

@[simp] theorem convPause_frame (s : State) :
    (convPause s).life = s.life ∧
      (convPause s).path = s.path ∧
      (convPause s).intake = s.intake ∧
      (convPause s).view = s.view ∧
      (convPause s).map = s.map ∧
      (convPause s).alarm = s.alarm ∧
      (convPause s).hot = s.hot ∧
      (convPause s).cmd = s.cmd ∧
      (convPause s).ev = s.ev ∧
      (convPause s).exp = s.exp ∧
      (convPause s).pending = s.pending ∧
      (convPause s).conv.curves = s.conv.curves :=
  ⟨rfl, rfl, rfl, rfl, rfl, rfl, rfl, rfl, rfl, rfl, rfl, rfl⟩

@[simp] theorem viewLoadOk_frame (s : State) :
    (viewLoadOk s).life = s.life ∧
      (viewLoadOk s).path = s.path ∧
      (viewLoadOk s).intake = s.intake ∧
      (viewLoadOk s).conv = s.conv ∧
      (viewLoadOk s).map = s.map ∧
      (viewLoadOk s).alarm = s.alarm ∧
      (viewLoadOk s).hot = s.hot ∧
      (viewLoadOk s).cmd = s.cmd ∧
      (viewLoadOk s).ev = s.ev ∧
      (viewLoadOk s).exp = s.exp ∧
      (viewLoadOk s).pending = s.pending :=
  ⟨rfl, rfl, rfl, rfl, rfl, rfl, rfl, rfl, rfl, rfl, rfl⟩

@[simp] theorem viewPause_frame (s : State) :
    (viewPause s).life = s.life ∧
      (viewPause s).path = s.path ∧
      (viewPause s).intake = s.intake ∧
      (viewPause s).conv = s.conv ∧
      (viewPause s).map = s.map ∧
      (viewPause s).alarm = s.alarm ∧
      (viewPause s).hot = s.hot ∧
      (viewPause s).cmd = s.cmd ∧
      (viewPause s).ev = s.ev ∧
      (viewPause s).exp = s.exp ∧
      (viewPause s).pending = s.pending :=
  ⟨rfl, rfl, rfl, rfl, rfl, rfl, rfl, rfl, rfl, rfl, rfl⟩

@[simp] theorem clearFaultRange_frame (a b : Nat) (s : State) :
    (clearFaultRange a b s).life = s.life ∧
      (clearFaultRange a b s).path = s.path ∧
      (clearFaultRange a b s).intake = s.intake ∧
      (clearFaultRange a b s).view = s.view ∧
      (clearFaultRange a b s).map = s.map ∧
      (clearFaultRange a b s).alarm = s.alarm ∧
      (clearFaultRange a b s).hot = s.hot ∧
      (clearFaultRange a b s).cmd = s.cmd ∧
      (clearFaultRange a b s).ev = s.ev ∧
      (clearFaultRange a b s).exp = s.exp ∧
      (clearFaultRange a b s).pending = s.pending ∧
      (clearFaultRange a b s).conv.curves = s.conv.curves ∧
      (clearFaultRange a b s).conv.inHand = s.conv.inHand :=
  ⟨rfl, rfl, rfl, rfl, rfl, rfl, rfl, rfl, rfl, rfl, rfl, rfl, rfl⟩

@[simp] theorem setChannelOffset_frame (c : Nat) (v : Int) (s : State) :
    (setChannelOffset c v s).life = s.life ∧
      (setChannelOffset c v s).path = s.path ∧
      (setChannelOffset c v s).intake = s.intake ∧
      (setChannelOffset c v s).view = s.view ∧
      (setChannelOffset c v s).map = s.map ∧
      (setChannelOffset c v s).alarm = s.alarm ∧
      (setChannelOffset c v s).hot = s.hot ∧
      (setChannelOffset c v s).cmd = s.cmd ∧
      (setChannelOffset c v s).ev = s.ev ∧
      (setChannelOffset c v s).exp = s.exp ∧
      (setChannelOffset c v s).pending = s.pending ∧
      (setChannelOffset c v s).conv.curves = s.conv.curves ∧
      (setChannelOffset c v s).conv.inHand = s.conv.inHand :=
  ⟨rfl, rfl, rfl, rfl, rfl, rfl, rfl, rfl, rfl, rfl, rfl, rfl, rfl⟩

@[simp] theorem offerLine_frame (i : Nat) (l : Line) (s : State) :
    (offerLine i l s).life = s.life ∧
      (offerLine i l s).path = s.path ∧
      (offerLine i l s).intake = s.intake ∧
      (offerLine i l s).conv = s.conv ∧
      (offerLine i l s).map = s.map ∧
      (offerLine i l s).alarm = s.alarm ∧
      (offerLine i l s).hot = s.hot ∧
      (offerLine i l s).cmd = s.cmd ∧
      (offerLine i l s).exp = s.exp ∧
      (offerLine i l s).pending = s.pending :=
  by
  refine ⟨?_, ?_, ?_, ?_, ?_, ?_, ?_, ?_, ?_, ?_⟩ <;> (unfold offerLine; (try dsimp only); (repeat' split); all_goals simp)

@[simp] theorem withLineSlot_frame (i : Nat) (x : Slot 33) (s : State) :
    (withLineSlot i x s).life = s.life ∧
      (withLineSlot i x s).path = s.path ∧
      (withLineSlot i x s).intake = s.intake ∧
      (withLineSlot i x s).conv = s.conv ∧
      (withLineSlot i x s).map = s.map ∧
      (withLineSlot i x s).alarm = s.alarm ∧
      (withLineSlot i x s).hot = s.hot ∧
      (withLineSlot i x s).cmd = s.cmd ∧
      (withLineSlot i x s).ev = s.ev ∧
      (withLineSlot i x s).exp = s.exp ∧
      (withLineSlot i x s).pending = s.pending ∧
      (withLineSlot i x s).view.queue = s.view.queue ∧
      (withLineSlot i x s).view.inHand = s.view.inHand ∧
      (withLineSlot i x s).view.views = s.view.views ∧
      (withLineSlot i x s).view.spots = s.view.spots ∧
      (withLineSlot i x s).view.pairings = s.view.pairings :=
  ⟨rfl, rfl, rfl, rfl, rfl, rfl, rfl, rfl, rfl, rfl, rfl, rfl, rfl, rfl, rfl, rfl⟩

@[simp] theorem completeLineSlot_frame (i : Nat) (buf : Slot 33) (s : State) :
    (completeLineSlot i buf s).life = s.life ∧
      (completeLineSlot i buf s).path = s.path ∧
      (completeLineSlot i buf s).intake = s.intake ∧
      (completeLineSlot i buf s).conv = s.conv ∧
      (completeLineSlot i buf s).map = s.map ∧
      (completeLineSlot i buf s).alarm = s.alarm ∧
      (completeLineSlot i buf s).hot = s.hot ∧
      (completeLineSlot i buf s).cmd = s.cmd ∧
      (completeLineSlot i buf s).exp = s.exp ∧
      (completeLineSlot i buf s).pending = s.pending :=
  by
  refine ⟨?_, ?_, ?_, ?_, ?_, ?_, ?_, ?_, ?_, ?_⟩ <;> (unfold completeLineSlot; (try dsimp only); (repeat' split); all_goals simp)

@[simp] theorem lineBeat_frame (off : Nat) (b : Beat) (s : State) :
    (lineBeat off b s).life = s.life ∧
      (lineBeat off b s).path = s.path ∧
      (lineBeat off b s).intake = s.intake ∧
      (lineBeat off b s).conv = s.conv ∧
      (lineBeat off b s).map = s.map ∧
      (lineBeat off b s).alarm = s.alarm ∧
      (lineBeat off b s).hot = s.hot ∧
      (lineBeat off b s).cmd = s.cmd ∧
      (lineBeat off b s).exp = s.exp ∧
      (lineBeat off b s).pending = s.pending :=
  by
  refine ⟨?_, ?_, ?_, ?_, ?_, ?_, ?_, ?_, ?_, ?_⟩ <;> (unfold lineBeat; (try dsimp only); (repeat' split); all_goals simp)

@[simp] theorem acceptLine_frame (l : Line) (s : State) :
    (acceptLine l s).life = s.life ∧
      (acceptLine l s).path = s.path ∧
      (acceptLine l s).intake = s.intake ∧
      (acceptLine l s).conv = s.conv ∧
      (acceptLine l s).map = s.map ∧
      (acceptLine l s).alarm = s.alarm ∧
      (acceptLine l s).hot = s.hot ∧
      (acceptLine l s).cmd = s.cmd ∧
      (acceptLine l s).ev = s.ev ∧
      (acceptLine l s).exp = s.exp ∧
      (acceptLine l s).pending = s.pending :=
  ⟨rfl, rfl, rfl, rfl, rfl, rfl, rfl, rfl, rfl, rfl, rfl⟩

@[simp] theorem checkLine_frame (l : Line) (s : State) :
    (checkLine l s).life = s.life ∧
      (checkLine l s).path = s.path ∧
      (checkLine l s).intake = s.intake ∧
      (checkLine l s).conv = s.conv ∧
      (checkLine l s).map = s.map ∧
      (checkLine l s).alarm = s.alarm ∧
      (checkLine l s).hot = s.hot ∧
      (checkLine l s).cmd = s.cmd ∧
      (checkLine l s).exp = s.exp ∧
      (checkLine l s).pending = s.pending :=
  by
  refine ⟨?_, ?_, ?_, ?_, ?_, ?_, ?_, ?_, ?_, ?_⟩ <;> (unfold checkLine; (try dsimp only); (repeat' split); all_goals simp)

@[simp] theorem writeSpot_frame (job : LineJob) (sp : Span) (s : State) :
    (writeSpot job sp s).life = s.life ∧
      (writeSpot job sp s).path = s.path ∧
      (writeSpot job sp s).intake = s.intake ∧
      (writeSpot job sp s).conv = s.conv ∧
      (writeSpot job sp s).map = s.map ∧
      (writeSpot job sp s).alarm = s.alarm ∧
      (writeSpot job sp s).hot = s.hot ∧
      (writeSpot job sp s).cmd = s.cmd ∧
      (writeSpot job sp s).ev = s.ev ∧
      (writeSpot job sp s).exp = s.exp ∧
      (writeSpot job sp s).pending = s.pending ∧
      (writeSpot job sp s).view.slots = s.view.slots ∧
      (writeSpot job sp s).view.queue = s.view.queue ∧
      (writeSpot job sp s).view.inHand = s.view.inHand ∧
      (writeSpot job sp s).view.views = s.view.views ∧
      (writeSpot job sp s).view.pairings = s.view.pairings :=
  by
  refine ⟨?_, ?_, ?_, ?_, ?_, ?_, ?_, ?_, ?_, ?_, ?_, ?_, ?_, ?_, ?_, ?_⟩ <;> (unfold writeSpot; (repeat' split); all_goals simp)

@[simp] theorem completeLine_frame (job : LineJob) (s : State) :
    (completeLine job s).life = s.life ∧
      (completeLine job s).path = s.path ∧
      (completeLine job s).intake = s.intake ∧
      (completeLine job s).conv = s.conv ∧
      (completeLine job s).map = s.map ∧
      (completeLine job s).alarm = s.alarm ∧
      (completeLine job s).hot = s.hot ∧
      (completeLine job s).cmd = s.cmd ∧
      (completeLine job s).ev = s.ev ∧
      (completeLine job s).exp = s.exp ∧
      (completeLine job s).pending = s.pending ∧
      (completeLine job s).view.slots = s.view.slots ∧
      (completeLine job s).view.queue = s.view.queue ∧
      (completeLine job s).view.views = s.view.views ∧
      (completeLine job s).view.pairings = s.view.pairings :=
  ⟨(foldl_same (fun (t : State) => t.life) (by intros; simp) _ _).trans rfl,
    (foldl_same (fun (t : State) => t.path) (by intros; simp) _ _).trans rfl,
    (foldl_same (fun (t : State) => t.intake) (by intros; simp) _ _).trans rfl,
    (foldl_same (fun (t : State) => t.conv) (by intros; simp) _ _).trans rfl,
    (foldl_same (fun (t : State) => t.map) (by intros; simp) _ _).trans rfl,
    (foldl_same (fun (t : State) => t.alarm) (by intros; simp) _ _).trans rfl,
    (foldl_same (fun (t : State) => t.hot) (by intros; simp) _ _).trans rfl,
    (foldl_same (fun (t : State) => t.cmd) (by intros; simp) _ _).trans rfl,
    (foldl_same (fun (t : State) => t.ev) (by intros; simp) _ _).trans rfl,
    (foldl_same (fun (t : State) => t.exp) (by intros; simp) _ _).trans rfl,
    (foldl_same (fun (t : State) => t.pending) (by intros; simp) _ _).trans rfl,
    (foldl_same (fun (t : State) => t.view.slots) (by intros; simp) _ _).trans rfl,
    (foldl_same (fun (t : State) => t.view.queue) (by intros; simp) _ _).trans rfl,
    (foldl_same (fun (t : State) => t.view.views) (by intros; simp) _ _).trans rfl,
    (foldl_same (fun (t : State) => t.view.pairings) (by intros; simp) _ _).trans rfl⟩

@[simp] theorem calibrate_frame (v : Nat) (s : State) :
    (calibrate v s).life = s.life ∧
      (calibrate v s).path = s.path ∧
      (calibrate v s).intake = s.intake ∧
      (calibrate v s).conv = s.conv ∧
      (calibrate v s).map = s.map ∧
      (calibrate v s).alarm = s.alarm ∧
      (calibrate v s).hot = s.hot ∧
      (calibrate v s).cmd = s.cmd ∧
      (calibrate v s).exp = s.exp ∧
      (calibrate v s).pending = s.pending ∧
      (calibrate v s).view.slots = s.view.slots ∧
      (calibrate v s).view.queue = s.view.queue ∧
      (calibrate v s).view.inHand = s.view.inHand ∧
      (calibrate v s).view.spots = s.view.spots ∧
      (calibrate v s).view.pairings = s.view.pairings :=
  ⟨rfl, rfl, rfl, rfl, rfl, rfl, rfl, rfl, rfl, rfl, rfl, rfl, rfl, rfl, rfl⟩

@[simp] theorem setPass_frame (p : Nat) (x : Pass) (s : State) :
    (setPass p x s).life = s.life ∧
      (setPass p x s).path = s.path ∧
      (setPass p x s).intake = s.intake ∧
      (setPass p x s).conv = s.conv ∧
      (setPass p x s).view = s.view ∧
      (setPass p x s).alarm = s.alarm ∧
      (setPass p x s).hot = s.hot ∧
      (setPass p x s).cmd = s.cmd ∧
      (setPass p x s).ev = s.ev ∧
      (setPass p x s).exp = s.exp ∧
      (setPass p x s).pending = s.pending ∧
      (setPass p x s).map.cells = s.map.cells ∧
      (setPass p x s).map.queue = s.map.queue ∧
      (setPass p x s).map.work = s.map.work :=
  ⟨rfl, rfl, rfl, rfl, rfl, rfl, rfl, rfl, rfl, rfl, rfl, rfl, rfl, rfl⟩

@[simp] theorem appendPass_frame (p : Nat) (s : State) :
    (appendPass p s).life = s.life ∧
      (appendPass p s).path = s.path ∧
      (appendPass p s).intake = s.intake ∧
      (appendPass p s).conv = s.conv ∧
      (appendPass p s).view = s.view ∧
      (appendPass p s).alarm = s.alarm ∧
      (appendPass p s).hot = s.hot ∧
      (appendPass p s).cmd = s.cmd ∧
      (appendPass p s).ev = s.ev ∧
      (appendPass p s).exp = s.exp ∧
      (appendPass p s).pending = s.pending ∧
      (appendPass p s).map.cells = s.map.cells ∧
      (appendPass p s).map.passes = s.map.passes ∧
      (appendPass p s).map.work = s.map.work :=
  by
  refine ⟨?_, ?_, ?_, ?_, ?_, ?_, ?_, ?_, ?_, ?_, ?_, ?_, ?_, ?_⟩ <;> (unfold appendPass; (repeat' split); all_goals simp)

@[simp] theorem appendPasses_frame (ps : List Nat) (s : State) :
    (appendPasses ps s).life = s.life ∧
      (appendPasses ps s).path = s.path ∧
      (appendPasses ps s).intake = s.intake ∧
      (appendPasses ps s).conv = s.conv ∧
      (appendPasses ps s).view = s.view ∧
      (appendPasses ps s).alarm = s.alarm ∧
      (appendPasses ps s).hot = s.hot ∧
      (appendPasses ps s).cmd = s.cmd ∧
      (appendPasses ps s).ev = s.ev ∧
      (appendPasses ps s).exp = s.exp ∧
      (appendPasses ps s).pending = s.pending ∧
      (appendPasses ps s).map.cells = s.map.cells ∧
      (appendPasses ps s).map.passes = s.map.passes ∧
      (appendPasses ps s).map.work = s.map.work :=
  ⟨foldl_same (fun (t : State) => t.life) (by intros; simp) _ _,
    foldl_same (fun (t : State) => t.path) (by intros; simp) _ _,
    foldl_same (fun (t : State) => t.intake) (by intros; simp) _ _,
    foldl_same (fun (t : State) => t.conv) (by intros; simp) _ _,
    foldl_same (fun (t : State) => t.view) (by intros; simp) _ _,
    foldl_same (fun (t : State) => t.alarm) (by intros; simp) _ _,
    foldl_same (fun (t : State) => t.hot) (by intros; simp) _ _,
    foldl_same (fun (t : State) => t.cmd) (by intros; simp) _ _,
    foldl_same (fun (t : State) => t.ev) (by intros; simp) _ _,
    foldl_same (fun (t : State) => t.exp) (by intros; simp) _ _,
    foldl_same (fun (t : State) => t.pending) (by intros; simp) _ _,
    foldl_same (fun (t : State) => t.map.cells) (by intros; simp) _ _,
    foldl_same (fun (t : State) => t.map.passes) (by intros; simp) _ _,
    foldl_same (fun (t : State) => t.map.work) (by intros; simp) _ _⟩

@[simp] theorem removeQueued_frame (p : Nat) (s : State) :
    (removeQueued p s).life = s.life ∧
      (removeQueued p s).path = s.path ∧
      (removeQueued p s).intake = s.intake ∧
      (removeQueued p s).conv = s.conv ∧
      (removeQueued p s).view = s.view ∧
      (removeQueued p s).alarm = s.alarm ∧
      (removeQueued p s).hot = s.hot ∧
      (removeQueued p s).cmd = s.cmd ∧
      (removeQueued p s).ev = s.ev ∧
      (removeQueued p s).exp = s.exp ∧
      (removeQueued p s).pending = s.pending ∧
      (removeQueued p s).map.cells = s.map.cells ∧
      (removeQueued p s).map.passes = s.map.passes ∧
      (removeQueued p s).map.work = s.map.work :=
  ⟨rfl, rfl, rfl, rfl, rfl, rfl, rfl, rfl, rfl, rfl, rfl, rfl, rfl, rfl⟩

@[simp] theorem abandon_frame (p : Nat) (s : State) :
    (abandon p s).life = s.life ∧
      (abandon p s).path = s.path ∧
      (abandon p s).intake = s.intake ∧
      (abandon p s).conv = s.conv ∧
      (abandon p s).view = s.view ∧
      (abandon p s).alarm = s.alarm ∧
      (abandon p s).hot = s.hot ∧
      (abandon p s).cmd = s.cmd ∧
      (abandon p s).ev = s.ev ∧
      (abandon p s).exp = s.exp ∧
      (abandon p s).pending = s.pending ∧
      (abandon p s).map.cells = s.map.cells ∧
      (abandon p s).map.passes = s.map.passes ∧
      (abandon p s).map.queue = s.map.queue :=
  by
  refine ⟨?_, ?_, ?_, ?_, ?_, ?_, ?_, ?_, ?_, ?_, ?_, ?_, ?_, ?_⟩ <;> (unfold abandon; (repeat' split); all_goals simp)

@[simp] theorem emptyCells_frame (p : Nat) (src : Source) (s : State) :
    (emptyCells p src s).life = s.life ∧
      (emptyCells p src s).path = s.path ∧
      (emptyCells p src s).intake = s.intake ∧
      (emptyCells p src s).conv = s.conv ∧
      (emptyCells p src s).view = s.view ∧
      (emptyCells p src s).alarm = s.alarm ∧
      (emptyCells p src s).hot = s.hot ∧
      (emptyCells p src s).cmd = s.cmd ∧
      (emptyCells p src s).ev = s.ev ∧
      (emptyCells p src s).exp = s.exp ∧
      (emptyCells p src s).pending = s.pending ∧
      (emptyCells p src s).map.passes = s.map.passes ∧
      (emptyCells p src s).map.queue = s.map.queue ∧
      (emptyCells p src s).map.work = s.map.work :=
  ⟨rfl, rfl, rfl, rfl, rfl, rfl, rfl, rfl, rfl, rfl, rfl, rfl, rfl, rfl⟩

@[simp] theorem advanceGen_frame (p : Nat) (s : State) :
    (advanceGen p s).life = s.life ∧
      (advanceGen p s).path = s.path ∧
      (advanceGen p s).intake = s.intake ∧
      (advanceGen p s).conv = s.conv ∧
      (advanceGen p s).view = s.view ∧
      (advanceGen p s).alarm = s.alarm ∧
      (advanceGen p s).hot = s.hot ∧
      (advanceGen p s).cmd = s.cmd ∧
      (advanceGen p s).ev = s.ev ∧
      (advanceGen p s).exp = s.exp ∧
      (advanceGen p s).pending = s.pending ∧
      (advanceGen p s).map.cells = s.map.cells ∧
      (advanceGen p s).map.queue = s.map.queue ∧
      (advanceGen p s).map.work = s.map.work :=
  ⟨rfl, rfl, rfl, rfl, rfl, rfl, rfl, rfl, rfl, rfl, rfl, rfl, rfl, rfl⟩

@[simp] theorem putMode_frame (p : Nat) (m : Mode) (s : State) :
    (putMode p m s).life = s.life ∧
      (putMode p m s).path = s.path ∧
      (putMode p m s).intake = s.intake ∧
      (putMode p m s).conv = s.conv ∧
      (putMode p m s).view = s.view ∧
      (putMode p m s).alarm = s.alarm ∧
      (putMode p m s).hot = s.hot ∧
      (putMode p m s).cmd = s.cmd ∧
      (putMode p m s).ev = s.ev ∧
      (putMode p m s).exp = s.exp ∧
      (putMode p m s).pending = s.pending ∧
      (putMode p m s).map.cells = s.map.cells ∧
      (putMode p m s).map.queue = s.map.queue ∧
      (putMode p m s).map.work = s.map.work :=
  ⟨rfl, rfl, rfl, rfl, rfl, rfl, rfl, rfl, rfl, rfl, rfl, rfl, rfl, rfl⟩

@[simp] theorem dropPairings_frame (p : Nat) (s : State) :
    (dropPairings p s).life = s.life ∧
      (dropPairings p s).path = s.path ∧
      (dropPairings p s).intake = s.intake ∧
      (dropPairings p s).conv = s.conv ∧
      (dropPairings p s).map = s.map ∧
      (dropPairings p s).alarm = s.alarm ∧
      (dropPairings p s).hot = s.hot ∧
      (dropPairings p s).cmd = s.cmd ∧
      (dropPairings p s).ev = s.ev ∧
      (dropPairings p s).exp = s.exp ∧
      (dropPairings p s).pending = s.pending ∧
      (dropPairings p s).view.slots = s.view.slots ∧
      (dropPairings p s).view.queue = s.view.queue ∧
      (dropPairings p s).view.inHand = s.view.inHand ∧
      (dropPairings p s).view.views = s.view.views ∧
      (dropPairings p s).view.spots = s.view.spots :=
  ⟨rfl, rfl, rfl, rfl, rfl, rfl, rfl, rfl, rfl, rfl, rfl, rfl, rfl, rfl, rfl, rfl⟩

@[simp] theorem alarmCommit_frame (p credit : Nat) (s : State) :
    (alarmCommit p credit s).life = s.life ∧
      (alarmCommit p credit s).path = s.path ∧
      (alarmCommit p credit s).intake = s.intake ∧
      (alarmCommit p credit s).conv = s.conv ∧
      (alarmCommit p credit s).view = s.view ∧
      (alarmCommit p credit s).map = s.map ∧
      (alarmCommit p credit s).hot = s.hot ∧
      (alarmCommit p credit s).cmd = s.cmd ∧
      (alarmCommit p credit s).exp = s.exp ∧
      (alarmCommit p credit s).pending = s.pending :=
  ⟨(by rw [alarmCommit, evalAlm_life]; exact forIdx_same (fun (t : State) => t.life) (by intros; simp) _),
    (by rw [alarmCommit, evalAlm_path]; exact forIdx_same (fun (t : State) => t.path) (by intros; simp) _),
    (by rw [alarmCommit, evalAlm_intake]; exact forIdx_same (fun (t : State) => t.intake) (by intros; simp) _),
    (by rw [alarmCommit, evalAlm_conv]; exact forIdx_same (fun (t : State) => t.conv) (by intros; simp) _),
    (by rw [alarmCommit, evalAlm_view]; exact forIdx_same (fun (t : State) => t.view) (by intros; simp) _),
    (by rw [alarmCommit, evalAlm_map]; exact forIdx_same (fun (t : State) => t.map) (by intros; simp) _),
    (by rw [alarmCommit, evalAlm_hot]; exact forIdx_same (fun (t : State) => t.hot) (by intros; simp) _),
    (by rw [alarmCommit, evalAlm_cmd]; exact forIdx_same (fun (t : State) => t.cmd) (by intros; simp) _),
    (by rw [alarmCommit, evalAlm_exp]; exact forIdx_same (fun (t : State) => t.exp) (by intros; simp) _),
    (by rw [alarmCommit, evalAlm_pending]; exact forIdx_same (fun (t : State) => t.pending) (by intros; simp) _)⟩

@[simp] theorem alarmOosEntry_frame (p : Nat) (s : State) :
    (alarmOosEntry p s).life = s.life ∧
      (alarmOosEntry p s).path = s.path ∧
      (alarmOosEntry p s).intake = s.intake ∧
      (alarmOosEntry p s).conv = s.conv ∧
      (alarmOosEntry p s).view = s.view ∧
      (alarmOosEntry p s).map = s.map ∧
      (alarmOosEntry p s).hot = s.hot ∧
      (alarmOosEntry p s).cmd = s.cmd ∧
      (alarmOosEntry p s).exp = s.exp ∧
      (alarmOosEntry p s).pending = s.pending :=
  ⟨(by rw [alarmOosEntry, evalAlm_life]; exact forIdx_same (fun (t : State) => t.life) (by intros; simp) _),
    (by rw [alarmOosEntry, evalAlm_path]; exact forIdx_same (fun (t : State) => t.path) (by intros; simp) _),
    (by rw [alarmOosEntry, evalAlm_intake]; exact forIdx_same (fun (t : State) => t.intake) (by intros; simp) _),
    (by rw [alarmOosEntry, evalAlm_conv]; exact forIdx_same (fun (t : State) => t.conv) (by intros; simp) _),
    (by rw [alarmOosEntry, evalAlm_view]; exact forIdx_same (fun (t : State) => t.view) (by intros; simp) _),
    (by rw [alarmOosEntry, evalAlm_map]; exact forIdx_same (fun (t : State) => t.map) (by intros; simp) _),
    (by rw [alarmOosEntry, evalAlm_hot]; exact forIdx_same (fun (t : State) => t.hot) (by intros; simp) _),
    (by rw [alarmOosEntry, evalAlm_cmd]; exact forIdx_same (fun (t : State) => t.cmd) (by intros; simp) _),
    (by rw [alarmOosEntry, evalAlm_exp]; exact forIdx_same (fun (t : State) => t.exp) (by intros; simp) _),
    (by rw [alarmOosEntry, evalAlm_pending]; exact forIdx_same (fun (t : State) => t.pending) (by intros; simp) _)⟩

@[simp] theorem alarmInhibit_frame (p : Nat) (s : State) :
    (alarmInhibit p s).life = s.life ∧
      (alarmInhibit p s).path = s.path ∧
      (alarmInhibit p s).intake = s.intake ∧
      (alarmInhibit p s).conv = s.conv ∧
      (alarmInhibit p s).view = s.view ∧
      (alarmInhibit p s).map = s.map ∧
      (alarmInhibit p s).hot = s.hot ∧
      (alarmInhibit p s).cmd = s.cmd ∧
      (alarmInhibit p s).exp = s.exp ∧
      (alarmInhibit p s).pending = s.pending ∧
      (alarmInhibit p s).alarm.alm = s.alarm.alm :=
  ⟨(by unfold alarmInhibit; exact forIdx_same (fun (t : State) => t.life) (by intros; simp) _),
    (by unfold alarmInhibit; exact forIdx_same (fun (t : State) => t.path) (by intros; simp) _),
    (by unfold alarmInhibit; exact forIdx_same (fun (t : State) => t.intake) (by intros; simp) _),
    (by unfold alarmInhibit; exact forIdx_same (fun (t : State) => t.conv) (by intros; simp) _),
    (by unfold alarmInhibit; exact forIdx_same (fun (t : State) => t.view) (by intros; simp) _),
    (by unfold alarmInhibit; exact forIdx_same (fun (t : State) => t.map) (by intros; simp) _),
    (by unfold alarmInhibit; exact forIdx_same (fun (t : State) => t.hot) (by intros; simp) _),
    (by unfold alarmInhibit; exact forIdx_same (fun (t : State) => t.cmd) (by intros; simp) _),
    (by unfold alarmInhibit; exact forIdx_same (fun (t : State) => t.exp) (by intros; simp) _),
    (by unfold alarmInhibit; exact forIdx_same (fun (t : State) => t.pending) (by intros; simp) _),
    (by unfold alarmInhibit; exact forIdx_same (fun (t : State) => t.alarm.alm) (by intros; simp) _)⟩

@[simp] theorem alarmOosExit_frame (p : Nat) (s : State) :
    (alarmOosExit p s).life = s.life ∧
      (alarmOosExit p s).path = s.path ∧
      (alarmOosExit p s).intake = s.intake ∧
      (alarmOosExit p s).conv = s.conv ∧
      (alarmOosExit p s).view = s.view ∧
      (alarmOosExit p s).map = s.map ∧
      (alarmOosExit p s).hot = s.hot ∧
      (alarmOosExit p s).cmd = s.cmd ∧
      (alarmOosExit p s).ev = s.ev ∧
      (alarmOosExit p s).exp = s.exp ∧
      (alarmOosExit p s).pending = s.pending ∧
      (alarmOosExit p s).alarm.alm = s.alarm.alm :=
  ⟨rfl, rfl, rfl, rfl, rfl, rfl, rfl, rfl, rfl, rfl, rfl, rfl⟩

@[simp] theorem alarmLoadFail_frame (s : State) :
    (alarmLoadFail s).life = s.life ∧
      (alarmLoadFail s).path = s.path ∧
      (alarmLoadFail s).intake = s.intake ∧
      (alarmLoadFail s).conv = s.conv ∧
      (alarmLoadFail s).view = s.view ∧
      (alarmLoadFail s).map = s.map ∧
      (alarmLoadFail s).hot = s.hot ∧
      (alarmLoadFail s).cmd = s.cmd ∧
      (alarmLoadFail s).ev = s.ev ∧
      (alarmLoadFail s).exp = s.exp ∧
      (alarmLoadFail s).pending = s.pending ∧
      (alarmLoadFail s).alarm.alm = s.alarm.alm :=
  ⟨rfl, rfl, rfl, rfl, rfl, rfl, rfl, rfl, rfl, rfl, rfl, rfl⟩

@[simp] theorem alarmLoadOk_frame (s : State) :
    (alarmLoadOk s).life = s.life ∧
      (alarmLoadOk s).path = s.path ∧
      (alarmLoadOk s).intake = s.intake ∧
      (alarmLoadOk s).conv = s.conv ∧
      (alarmLoadOk s).view = s.view ∧
      (alarmLoadOk s).map = s.map ∧
      (alarmLoadOk s).hot = s.hot ∧
      (alarmLoadOk s).cmd = s.cmd ∧
      (alarmLoadOk s).ev = s.ev ∧
      (alarmLoadOk s).exp = s.exp ∧
      (alarmLoadOk s).pending = s.pending :=
  by
  refine ⟨?_, ?_, ?_, ?_, ?_, ?_, ?_, ?_, ?_, ?_, ?_⟩ <;> (simp [alarmLoadOk])

@[simp] theorem ackCell_frame (c : Nat) (s : State) :
    (ackCell c s).life = s.life ∧
      (ackCell c s).path = s.path ∧
      (ackCell c s).intake = s.intake ∧
      (ackCell c s).conv = s.conv ∧
      (ackCell c s).view = s.view ∧
      (ackCell c s).map = s.map ∧
      (ackCell c s).hot = s.hot ∧
      (ackCell c s).cmd = s.cmd ∧
      (ackCell c s).ev = s.ev ∧
      (ackCell c s).exp = s.exp ∧
      (ackCell c s).pending = s.pending :=
  by
  refine ⟨?_, ?_, ?_, ?_, ?_, ?_, ?_, ?_, ?_, ?_, ?_⟩ <;> (simp [ackCell])

@[simp] theorem ackPassCells_frame (p : Nat) (s : State) :
    (ackPassCells p s).life = s.life ∧
      (ackPassCells p s).path = s.path ∧
      (ackPassCells p s).intake = s.intake ∧
      (ackPassCells p s).conv = s.conv ∧
      (ackPassCells p s).view = s.view ∧
      (ackPassCells p s).map = s.map ∧
      (ackPassCells p s).hot = s.hot ∧
      (ackPassCells p s).cmd = s.cmd ∧
      (ackPassCells p s).ev = s.ev ∧
      (ackPassCells p s).exp = s.exp ∧
      (ackPassCells p s).pending = s.pending :=
  by
  refine ⟨?_, ?_, ?_, ?_, ?_, ?_, ?_, ?_, ?_, ?_, ?_⟩ <;> (simp [ackPassCells])

@[simp] theorem resetExposureOf_frame (c : Nat) (s : State) :
    (resetExposureOf c s).life = s.life ∧
      (resetExposureOf c s).path = s.path ∧
      (resetExposureOf c s).intake = s.intake ∧
      (resetExposureOf c s).conv = s.conv ∧
      (resetExposureOf c s).view = s.view ∧
      (resetExposureOf c s).map = s.map ∧
      (resetExposureOf c s).hot = s.hot ∧
      (resetExposureOf c s).cmd = s.cmd ∧
      (resetExposureOf c s).exp = s.exp ∧
      (resetExposureOf c s).pending = s.pending ∧
      (resetExposureOf c s).alarm.alm = s.alarm.alm :=
  by
  refine ⟨?_, ?_, ?_, ?_, ?_, ?_, ?_, ?_, ?_, ?_, ?_⟩ <;> (simp [resetExposureOf])

@[simp] theorem leaderEvent_frame (before : Hot) (s : State) :
    (leaderEvent before s).life = s.life ∧
      (leaderEvent before s).path = s.path ∧
      (leaderEvent before s).intake = s.intake ∧
      (leaderEvent before s).conv = s.conv ∧
      (leaderEvent before s).view = s.view ∧
      (leaderEvent before s).map = s.map ∧
      (leaderEvent before s).alarm = s.alarm ∧
      (leaderEvent before s).hot = s.hot ∧
      (leaderEvent before s).cmd = s.cmd ∧
      (leaderEvent before s).exp = s.exp ∧
      (leaderEvent before s).pending = s.pending :=
  by
  refine ⟨?_, ?_, ?_, ?_, ?_, ?_, ?_, ?_, ?_, ?_, ?_⟩ <;> (unfold leaderEvent; (try dsimp only); (repeat' split); all_goals simp)

@[simp] theorem rebuildHot_frame (s : State) :
    (rebuildHot s).life = s.life ∧
      (rebuildHot s).path = s.path ∧
      (rebuildHot s).intake = s.intake ∧
      (rebuildHot s).conv = s.conv ∧
      (rebuildHot s).view = s.view ∧
      (rebuildHot s).map = s.map ∧
      (rebuildHot s).alarm = s.alarm ∧
      (rebuildHot s).cmd = s.cmd ∧
      (rebuildHot s).exp = s.exp ∧
      (rebuildHot s).pending = s.pending :=
  by
  refine ⟨?_, ?_, ?_, ?_, ?_, ?_, ?_, ?_, ?_, ?_⟩ <;> (simp [rebuildHot])

/-- A rebuild leaves the list that the cells as they stand give (R151). -/
@[simp] theorem rebuildHot_hot (s : State) : (rebuildHot s).hot = hotOf s := by simp [rebuildHot]

@[simp] theorem enterOos_frame (p : Nat) (s : State) :
    (enterOos p s).life = s.life ∧
      (enterOos p s).path = s.path ∧
      (enterOos p s).intake = s.intake ∧
      (enterOos p s).conv = s.conv ∧
      (enterOos p s).cmd = s.cmd ∧
      (enterOos p s).exp = s.exp ∧
      (enterOos p s).pending = s.pending ∧
      (enterOos p s).view.slots = s.view.slots ∧
      (enterOos p s).view.queue = s.view.queue ∧
      (enterOos p s).view.inHand = s.view.inHand ∧
      (enterOos p s).view.views = s.view.views ∧
      (enterOos p s).view.spots = s.view.spots :=
  by
  refine ⟨?_, ?_, ?_, ?_, ?_, ?_, ?_, ?_, ?_, ?_, ?_, ?_⟩ <;> (simp [enterOos])

@[simp] theorem exitOos_frame (p : Nat) (m : Mode) (s : State) :
    (exitOos p m s).life = s.life ∧
      (exitOos p m s).path = s.path ∧
      (exitOos p m s).intake = s.intake ∧
      (exitOos p m s).conv = s.conv ∧
      (exitOos p m s).view = s.view ∧
      (exitOos p m s).cmd = s.cmd ∧
      (exitOos p m s).exp = s.exp ∧
      (exitOos p m s).pending = s.pending :=
  by
  refine ⟨?_, ?_, ?_, ?_, ?_, ?_, ?_, ?_⟩ <;> (simp [exitOos])

@[simp] theorem switchMode_frame (p : Nat) (m : Mode) (s : State) :
    (switchMode p m s).life = s.life ∧
      (switchMode p m s).path = s.path ∧
      (switchMode p m s).intake = s.intake ∧
      (switchMode p m s).conv = s.conv ∧
      (switchMode p m s).view = s.view ∧
      (switchMode p m s).hot = s.hot ∧
      (switchMode p m s).cmd = s.cmd ∧
      (switchMode p m s).exp = s.exp ∧
      (switchMode p m s).pending = s.pending :=
  by
  refine ⟨?_, ?_, ?_, ?_, ?_, ?_, ?_, ?_, ?_⟩ <;> (unfold switchMode; (try dsimp only); (repeat' split); all_goals simp)

@[simp] theorem changeMode_frame (p : Nat) (m : Mode) (s : State) :
    (changeMode p m s).life = s.life ∧
      (changeMode p m s).path = s.path ∧
      (changeMode p m s).intake = s.intake ∧
      (changeMode p m s).conv = s.conv ∧
      (changeMode p m s).cmd = s.cmd ∧
      (changeMode p m s).exp = s.exp ∧
      (changeMode p m s).pending = s.pending ∧
      (changeMode p m s).view.slots = s.view.slots ∧
      (changeMode p m s).view.queue = s.view.queue ∧
      (changeMode p m s).view.inHand = s.view.inHand ∧
      (changeMode p m s).view.views = s.view.views ∧
      (changeMode p m s).view.spots = s.view.spots :=
  by
  refine ⟨?_, ?_, ?_, ?_, ?_, ?_, ?_, ?_, ?_, ?_, ?_, ?_⟩ <;> (unfold changeMode; (repeat' split); all_goals simp)

@[simp] theorem commitPass_frame (w : Work) (s : State) :
    (commitPass w s).life = s.life ∧
      (commitPass w s).path = s.path ∧
      (commitPass w s).intake = s.intake ∧
      (commitPass w s).conv = s.conv ∧
      (commitPass w s).cmd = s.cmd ∧
      (commitPass w s).exp = s.exp ∧
      (commitPass w s).pending = s.pending ∧
      (commitPass w s).view.slots = s.view.slots ∧
      (commitPass w s).view.queue = s.view.queue ∧
      (commitPass w s).view.inHand = s.view.inHand ∧
      (commitPass w s).view.views = s.view.views ∧
      (commitPass w s).view.spots = s.view.spots :=
  by
  refine ⟨?_, ?_, ?_, ?_, ?_, ?_, ?_, ?_, ?_, ?_, ?_, ?_⟩ <;> (simp [commitPass])

@[simp] theorem freezePass_frame (p : Nat) (s : State) :
    (freezePass p s).life = s.life ∧
      (freezePass p s).path = s.path ∧
      (freezePass p s).intake = s.intake ∧
      (freezePass p s).conv = s.conv ∧
      (freezePass p s).view = s.view ∧
      (freezePass p s).alarm = s.alarm ∧
      (freezePass p s).hot = s.hot ∧
      (freezePass p s).cmd = s.cmd ∧
      (freezePass p s).ev = s.ev ∧
      (freezePass p s).exp = s.exp ∧
      (freezePass p s).pending = s.pending ∧
      (freezePass p s).map.cells = s.map.cells :=
  by
  refine ⟨?_, ?_, ?_, ?_, ?_, ?_, ?_, ?_, ?_, ?_, ?_, ?_⟩ <;> (unfold freezePass; (try dsimp only); (repeat' split); all_goals simp)

@[simp] theorem freezePasses_frame (ps : List Nat) (s : State) :
    (freezePasses ps s).life = s.life ∧
      (freezePasses ps s).path = s.path ∧
      (freezePasses ps s).intake = s.intake ∧
      (freezePasses ps s).conv = s.conv ∧
      (freezePasses ps s).view = s.view ∧
      (freezePasses ps s).alarm = s.alarm ∧
      (freezePasses ps s).hot = s.hot ∧
      (freezePasses ps s).cmd = s.cmd ∧
      (freezePasses ps s).ev = s.ev ∧
      (freezePasses ps s).exp = s.exp ∧
      (freezePasses ps s).pending = s.pending ∧
      (freezePasses ps s).map.cells = s.map.cells :=
  ⟨foldl_same (fun (t : State) => t.life) (by intros; simp) _ _,
    foldl_same (fun (t : State) => t.path) (by intros; simp) _ _,
    foldl_same (fun (t : State) => t.intake) (by intros; simp) _ _,
    foldl_same (fun (t : State) => t.conv) (by intros; simp) _ _,
    foldl_same (fun (t : State) => t.view) (by intros; simp) _ _,
    foldl_same (fun (t : State) => t.alarm) (by intros; simp) _ _,
    foldl_same (fun (t : State) => t.hot) (by intros; simp) _ _,
    foldl_same (fun (t : State) => t.cmd) (by intros; simp) _ _,
    foldl_same (fun (t : State) => t.ev) (by intros; simp) _ _,
    foldl_same (fun (t : State) => t.exp) (by intros; simp) _ _,
    foldl_same (fun (t : State) => t.pending) (by intros; simp) _ _,
    foldl_same (fun (t : State) => t.map.cells) (by intros; simp) _ _⟩

@[simp] theorem thawPass_frame (p : Nat) (s : State) :
    (thawPass p s).life = s.life ∧
      (thawPass p s).path = s.path ∧
      (thawPass p s).intake = s.intake ∧
      (thawPass p s).conv = s.conv ∧
      (thawPass p s).view = s.view ∧
      (thawPass p s).alarm = s.alarm ∧
      (thawPass p s).hot = s.hot ∧
      (thawPass p s).cmd = s.cmd ∧
      (thawPass p s).ev = s.ev ∧
      (thawPass p s).exp = s.exp ∧
      (thawPass p s).pending = s.pending ∧
      (thawPass p s).map.cells = s.map.cells ∧
      (thawPass p s).map.work = s.map.work :=
  by
  refine ⟨?_, ?_, ?_, ?_, ?_, ?_, ?_, ?_, ?_, ?_, ?_, ?_, ?_⟩ <;> (unfold thawPass; (try dsimp only); (repeat' split); all_goals simp)

@[simp] theorem thawPasses_frame (ps : List Nat) (s : State) :
    (thawPasses ps s).life = s.life ∧
      (thawPasses ps s).path = s.path ∧
      (thawPasses ps s).intake = s.intake ∧
      (thawPasses ps s).conv = s.conv ∧
      (thawPasses ps s).view = s.view ∧
      (thawPasses ps s).alarm = s.alarm ∧
      (thawPasses ps s).hot = s.hot ∧
      (thawPasses ps s).cmd = s.cmd ∧
      (thawPasses ps s).ev = s.ev ∧
      (thawPasses ps s).exp = s.exp ∧
      (thawPasses ps s).pending = s.pending ∧
      (thawPasses ps s).map.cells = s.map.cells ∧
      (thawPasses ps s).map.work = s.map.work :=
  ⟨foldl_same (fun (t : State) => t.life) (by intros; simp) _ _,
    foldl_same (fun (t : State) => t.path) (by intros; simp) _ _,
    foldl_same (fun (t : State) => t.intake) (by intros; simp) _ _,
    foldl_same (fun (t : State) => t.conv) (by intros; simp) _ _,
    foldl_same (fun (t : State) => t.view) (by intros; simp) _ _,
    foldl_same (fun (t : State) => t.alarm) (by intros; simp) _ _,
    foldl_same (fun (t : State) => t.hot) (by intros; simp) _ _,
    foldl_same (fun (t : State) => t.cmd) (by intros; simp) _ _,
    foldl_same (fun (t : State) => t.ev) (by intros; simp) _ _,
    foldl_same (fun (t : State) => t.exp) (by intros; simp) _ _,
    foldl_same (fun (t : State) => t.pending) (by intros; simp) _ _,
    foldl_same (fun (t : State) => t.map.cells) (by intros; simp) _ _,
    foldl_same (fun (t : State) => t.map.work) (by intros; simp) _ _⟩

@[simp] theorem mapLoadOk_frame (s : State) :
    (mapLoadOk s).life = s.life ∧
      (mapLoadOk s).path = s.path ∧
      (mapLoadOk s).intake = s.intake ∧
      (mapLoadOk s).conv = s.conv ∧
      (mapLoadOk s).view = s.view ∧
      (mapLoadOk s).alarm = s.alarm ∧
      (mapLoadOk s).hot = s.hot ∧
      (mapLoadOk s).cmd = s.cmd ∧
      (mapLoadOk s).ev = s.ev ∧
      (mapLoadOk s).exp = s.exp ∧
      (mapLoadOk s).pending = s.pending :=
  ⟨rfl, rfl, rfl, rfl, rfl, rfl, rfl, rfl, rfl, rfl, rfl⟩

@[simp] theorem mapPause_frame (s : State) :
    (mapPause s).life = s.life ∧
      (mapPause s).path = s.path ∧
      (mapPause s).intake = s.intake ∧
      (mapPause s).conv = s.conv ∧
      (mapPause s).view = s.view ∧
      (mapPause s).alarm = s.alarm ∧
      (mapPause s).hot = s.hot ∧
      (mapPause s).cmd = s.cmd ∧
      (mapPause s).ev = s.ev ∧
      (mapPause s).exp = s.exp ∧
      (mapPause s).pending = s.pending ∧
      (mapPause s).map.cells = s.map.cells :=
  ⟨rfl, rfl, rfl, rfl, rfl, rfl, rfl, rfl, rfl, rfl, rfl, rfl⟩

@[simp] theorem mapLoadFail_frame (s : State) :
    (mapLoadFail s).life = s.life ∧
      (mapLoadFail s).path = s.path ∧
      (mapLoadFail s).intake = s.intake ∧
      (mapLoadFail s).conv = s.conv ∧
      (mapLoadFail s).view = s.view ∧
      (mapLoadFail s).alarm = s.alarm ∧
      (mapLoadFail s).hot = s.hot ∧
      (mapLoadFail s).cmd = s.cmd ∧
      (mapLoadFail s).ev = s.ev ∧
      (mapLoadFail s).exp = s.exp ∧
      (mapLoadFail s).pending = s.pending ∧
      (mapLoadFail s).map.queue = s.map.queue ∧
      (mapLoadFail s).map.work = s.map.work :=
  ⟨rfl, rfl, rfl, rfl, rfl, rfl, rfl, rfl, rfl, rfl, rfl, rfl, rfl⟩

@[simp] theorem adoptRing_frame (r : EvRing) (s : State) :
    (adoptRing r s).life = s.life ∧
      (adoptRing r s).intake = s.intake ∧
      (adoptRing r s).conv = s.conv ∧
      (adoptRing r s).view = s.view ∧
      (adoptRing r s).map = s.map ∧
      (adoptRing r s).alarm = s.alarm ∧
      (adoptRing r s).hot = s.hot ∧
      (adoptRing r s).cmd = s.cmd ∧
      (adoptRing r s).exp = s.exp ∧
      (adoptRing r s).pending = s.pending ∧
      (adoptRing r s).path.windows = s.path.windows ∧
      (adoptRing r s).path.extent = s.path.extent ∧
      (adoptRing r s).path.latch = s.path.latch ∧
      (adoptRing r s).path.holdoff = s.path.holdoff ∧
      (adoptRing r s).path.suppressed = s.path.suppressed ∧
      (adoptRing r s).path.fairness = s.path.fairness ∧
      (adoptRing r s).path.upstream = s.path.upstream ∧
      (adoptRing r s).path.memPort = s.path.memPort ∧
      (adoptRing r s).path.hostResp = s.path.hostResp :=
  by
  refine ⟨?_, ?_, ?_, ?_, ?_, ?_, ?_, ?_, ?_, ?_, ?_, ?_, ?_, ?_, ?_, ?_, ?_, ?_, ?_⟩ <;> (unfold adoptRing; (try dsimp only); (repeat' split); all_goals simp)

@[simp] theorem eventLoadOk_frame (r : EvRing) (s : State) :
    (eventLoadOk r s).life = s.life ∧
      (eventLoadOk r s).intake = s.intake ∧
      (eventLoadOk r s).conv = s.conv ∧
      (eventLoadOk r s).view = s.view ∧
      (eventLoadOk r s).map = s.map ∧
      (eventLoadOk r s).alarm = s.alarm ∧
      (eventLoadOk r s).hot = s.hot ∧
      (eventLoadOk r s).cmd = s.cmd ∧
      (eventLoadOk r s).exp = s.exp ∧
      (eventLoadOk r s).pending = s.pending ∧
      (eventLoadOk r s).path.windows = s.path.windows ∧
      (eventLoadOk r s).path.extent = s.path.extent ∧
      (eventLoadOk r s).path.latch = s.path.latch ∧
      (eventLoadOk r s).path.holdoff = s.path.holdoff ∧
      (eventLoadOk r s).path.suppressed = s.path.suppressed ∧
      (eventLoadOk r s).path.fairness = s.path.fairness ∧
      (eventLoadOk r s).path.upstream = s.path.upstream ∧
      (eventLoadOk r s).path.memPort = s.path.memPort ∧
      (eventLoadOk r s).path.hostResp = s.path.hostResp :=
  by
  refine ⟨?_, ?_, ?_, ?_, ?_, ?_, ?_, ?_, ?_, ?_, ?_, ?_, ?_, ?_, ?_, ?_, ?_, ?_, ?_⟩ <;> (unfold eventLoadOk; split <;> simp)

@[simp] theorem eventWriteEnded_frame (s : State) :
    (eventWriteEnded s).life = s.life ∧
      (eventWriteEnded s).intake = s.intake ∧
      (eventWriteEnded s).conv = s.conv ∧
      (eventWriteEnded s).view = s.view ∧
      (eventWriteEnded s).map = s.map ∧
      (eventWriteEnded s).alarm = s.alarm ∧
      (eventWriteEnded s).hot = s.hot ∧
      (eventWriteEnded s).cmd = s.cmd ∧
      (eventWriteEnded s).exp = s.exp ∧
      (eventWriteEnded s).pending = s.pending ∧
      (eventWriteEnded s).path.windows = s.path.windows ∧
      (eventWriteEnded s).path.extent = s.path.extent ∧
      (eventWriteEnded s).path.latch = s.path.latch ∧
      (eventWriteEnded s).path.holdoff = s.path.holdoff ∧
      (eventWriteEnded s).path.suppressed = s.path.suppressed ∧
      (eventWriteEnded s).path.fairness = s.path.fairness ∧
      (eventWriteEnded s).path.upstream = s.path.upstream ∧
      (eventWriteEnded s).path.memPort = s.path.memPort ∧
      (eventWriteEnded s).path.hostResp = s.path.hostResp :=
  by
  refine ⟨?_, ?_, ?_, ?_, ?_, ?_, ?_, ?_, ?_, ?_, ?_, ?_, ?_, ?_, ?_, ?_, ?_, ?_, ?_⟩ <;> (unfold eventWriteEnded; (repeat' split); all_goals simp)

@[simp] theorem recordWritten_frame (error lost : Bool) (s : State) :
    (recordWritten error lost s).life = s.life ∧
      (recordWritten error lost s).intake = s.intake ∧
      (recordWritten error lost s).conv = s.conv ∧
      (recordWritten error lost s).view = s.view ∧
      (recordWritten error lost s).map = s.map ∧
      (recordWritten error lost s).alarm = s.alarm ∧
      (recordWritten error lost s).hot = s.hot ∧
      (recordWritten error lost s).cmd = s.cmd ∧
      (recordWritten error lost s).exp = s.exp ∧
      (recordWritten error lost s).pending = s.pending ∧
      (recordWritten error lost s).path.windows = s.path.windows ∧
      (recordWritten error lost s).path.extent = s.path.extent ∧
      (recordWritten error lost s).path.latch = s.path.latch ∧
      (recordWritten error lost s).path.holdoff = s.path.holdoff ∧
      (recordWritten error lost s).path.suppressed = s.path.suppressed ∧
      (recordWritten error lost s).path.fairness = s.path.fairness ∧
      (recordWritten error lost s).path.upstream = s.path.upstream ∧
      (recordWritten error lost s).path.memPort = s.path.memPort ∧
      (recordWritten error lost s).path.hostResp = s.path.hostResp :=
  by
  refine ⟨?_, ?_, ?_, ?_, ?_, ?_, ?_, ?_, ?_, ?_, ?_, ?_, ?_, ?_, ?_, ?_, ?_, ?_, ?_⟩ <;> (unfold recordWritten; (repeat' split); all_goals simp)

@[simp] theorem producerWritten_frame (error first : Bool) (s : State) :
    (producerWritten error first s).life = s.life ∧
      (producerWritten error first s).intake = s.intake ∧
      (producerWritten error first s).conv = s.conv ∧
      (producerWritten error first s).view = s.view ∧
      (producerWritten error first s).map = s.map ∧
      (producerWritten error first s).alarm = s.alarm ∧
      (producerWritten error first s).hot = s.hot ∧
      (producerWritten error first s).cmd = s.cmd ∧
      (producerWritten error first s).exp = s.exp ∧
      (producerWritten error first s).pending = s.pending ∧
      (producerWritten error first s).path.windows = s.path.windows ∧
      (producerWritten error first s).path.extent = s.path.extent ∧
      (producerWritten error first s).path.latch = s.path.latch ∧
      (producerWritten error first s).path.holdoff = s.path.holdoff ∧
      (producerWritten error first s).path.suppressed = s.path.suppressed ∧
      (producerWritten error first s).path.fairness = s.path.fairness ∧
      (producerWritten error first s).path.upstream = s.path.upstream ∧
      (producerWritten error first s).path.memPort = s.path.memPort ∧
      (producerWritten error first s).path.hostResp = s.path.hostResp :=
  by
  refine ⟨?_, ?_, ?_, ?_, ?_, ?_, ?_, ?_, ?_, ?_, ?_, ?_, ?_, ?_, ?_, ?_, ?_, ?_, ?_⟩ <;> (simp [producerWritten])

@[simp] theorem consumerWrite_frame (v : W32) (s : State) :
    (consumerWrite v s).life = s.life ∧
      (consumerWrite v s).path = s.path ∧
      (consumerWrite v s).intake = s.intake ∧
      (consumerWrite v s).conv = s.conv ∧
      (consumerWrite v s).view = s.view ∧
      (consumerWrite v s).map = s.map ∧
      (consumerWrite v s).alarm = s.alarm ∧
      (consumerWrite v s).hot = s.hot ∧
      (consumerWrite v s).cmd = s.cmd ∧
      (consumerWrite v s).exp = s.exp ∧
      (consumerWrite v s).pending = s.pending :=
  by
  refine ⟨?_, ?_, ?_, ?_, ?_, ?_, ?_, ?_, ?_, ?_, ?_⟩ <;> (unfold consumerWrite; split <;> simp)

@[simp] theorem withJob_frame (j : ExportJob) (s : State) :
    (withJob j s).life = s.life ∧
      (withJob j s).path = s.path ∧
      (withJob j s).intake = s.intake ∧
      (withJob j s).conv = s.conv ∧
      (withJob j s).view = s.view ∧
      (withJob j s).map = s.map ∧
      (withJob j s).alarm = s.alarm ∧
      (withJob j s).hot = s.hot ∧
      (withJob j s).cmd = s.cmd ∧
      (withJob j s).ev = s.ev ∧
      (withJob j s).pending = s.pending :=
  ⟨rfl, rfl, rfl, rfl, rfl, rfl, rfl, rfl, rfl, rfl, rfl⟩

@[simp] theorem endExport_frame (o : ExportOutcome) (s : State) :
    (endExport o s).life = s.life ∧
      (endExport o s).intake = s.intake ∧
      (endExport o s).conv = s.conv ∧
      (endExport o s).view = s.view ∧
      (endExport o s).map = s.map ∧
      (endExport o s).alarm = s.alarm ∧
      (endExport o s).hot = s.hot ∧
      (endExport o s).cmd = s.cmd ∧
      (endExport o s).pending = s.pending ∧
      (endExport o s).path.windows = s.path.windows ∧
      (endExport o s).path.extent = s.path.extent ∧
      (endExport o s).path.latch = s.path.latch ∧
      (endExport o s).path.holdoff = s.path.holdoff ∧
      (endExport o s).path.suppressed = s.path.suppressed ∧
      (endExport o s).path.fairness = s.path.fairness ∧
      (endExport o s).path.upstream = s.path.upstream ∧
      (endExport o s).path.memPort = s.path.memPort ∧
      (endExport o s).path.hostResp = s.path.hostResp :=
  by
  refine ⟨?_, ?_, ?_, ?_, ?_, ?_, ?_, ?_, ?_, ?_, ?_, ?_, ?_, ?_, ?_, ?_, ?_, ?_⟩ <;> (unfold endExport; (try dsimp only); (repeat' split); all_goals simp)

@[simp] theorem abortExportJob_frame (s : State) :
    (abortExportJob s).life = s.life ∧
      (abortExportJob s).intake = s.intake ∧
      (abortExportJob s).conv = s.conv ∧
      (abortExportJob s).view = s.view ∧
      (abortExportJob s).map = s.map ∧
      (abortExportJob s).alarm = s.alarm ∧
      (abortExportJob s).hot = s.hot ∧
      (abortExportJob s).cmd = s.cmd ∧
      (abortExportJob s).pending = s.pending ∧
      (abortExportJob s).path.windows = s.path.windows ∧
      (abortExportJob s).path.extent = s.path.extent ∧
      (abortExportJob s).path.latch = s.path.latch ∧
      (abortExportJob s).path.holdoff = s.path.holdoff ∧
      (abortExportJob s).path.suppressed = s.path.suppressed ∧
      (abortExportJob s).path.fairness = s.path.fairness ∧
      (abortExportJob s).path.upstream = s.path.upstream ∧
      (abortExportJob s).path.memPort = s.path.memPort ∧
      (abortExportJob s).path.hostResp = s.path.hostResp :=
  by
  refine ⟨?_, ?_, ?_, ?_, ?_, ?_, ?_, ?_, ?_, ?_, ?_, ?_, ?_, ?_, ?_, ?_, ?_, ?_⟩ <;> (simp [abortExportJob])

@[simp] theorem postStream_frame (r : Region) (j : ExportJob) (s : State) :
    (postStream r j s).life = s.life ∧
      (postStream r j s).intake = s.intake ∧
      (postStream r j s).conv = s.conv ∧
      (postStream r j s).view = s.view ∧
      (postStream r j s).map = s.map ∧
      (postStream r j s).alarm = s.alarm ∧
      (postStream r j s).hot = s.hot ∧
      (postStream r j s).cmd = s.cmd ∧
      (postStream r j s).pending = s.pending ∧
      (postStream r j s).path.windows = s.path.windows ∧
      (postStream r j s).path.extent = s.path.extent ∧
      (postStream r j s).path.latch = s.path.latch ∧
      (postStream r j s).path.holdoff = s.path.holdoff ∧
      (postStream r j s).path.suppressed = s.path.suppressed ∧
      (postStream r j s).path.fairness = s.path.fairness ∧
      (postStream r j s).path.upstream = s.path.upstream ∧
      (postStream r j s).path.memPort = s.path.memPort ∧
      (postStream r j s).path.hostResp = s.path.hostResp :=
  by
  refine ⟨?_, ?_, ?_, ?_, ?_, ?_, ?_, ?_, ?_, ?_, ?_, ?_, ?_, ?_, ?_, ?_, ?_, ?_⟩ <;> (simp [postStream])

@[simp] theorem reachEntry_frame (e : W32 × W32) (j : ExportJob) (s : State) :
    (reachEntry e j s).life = s.life ∧
      (reachEntry e j s).intake = s.intake ∧
      (reachEntry e j s).conv = s.conv ∧
      (reachEntry e j s).view = s.view ∧
      (reachEntry e j s).map = s.map ∧
      (reachEntry e j s).alarm = s.alarm ∧
      (reachEntry e j s).hot = s.hot ∧
      (reachEntry e j s).cmd = s.cmd ∧
      (reachEntry e j s).pending = s.pending ∧
      (reachEntry e j s).path.windows = s.path.windows ∧
      (reachEntry e j s).path.extent = s.path.extent ∧
      (reachEntry e j s).path.latch = s.path.latch ∧
      (reachEntry e j s).path.holdoff = s.path.holdoff ∧
      (reachEntry e j s).path.suppressed = s.path.suppressed ∧
      (reachEntry e j s).path.fairness = s.path.fairness ∧
      (reachEntry e j s).path.upstream = s.path.upstream ∧
      (reachEntry e j s).path.memPort = s.path.memPort ∧
      (reachEntry e j s).path.hostResp = s.path.hostResp :=
  by
  refine ⟨?_, ?_, ?_, ?_, ?_, ?_, ?_, ?_, ?_, ?_, ?_, ?_, ?_, ?_, ?_, ?_, ?_, ?_⟩ <;> (unfold reachEntry; dsimp only; split <;> simp)

@[simp] theorem postListFetch_frame (j : ExportJob) (s : State) :
    (postListFetch j s).life = s.life ∧
      (postListFetch j s).intake = s.intake ∧
      (postListFetch j s).conv = s.conv ∧
      (postListFetch j s).view = s.view ∧
      (postListFetch j s).map = s.map ∧
      (postListFetch j s).alarm = s.alarm ∧
      (postListFetch j s).hot = s.hot ∧
      (postListFetch j s).cmd = s.cmd ∧
      (postListFetch j s).pending = s.pending ∧
      (postListFetch j s).path.windows = s.path.windows ∧
      (postListFetch j s).path.extent = s.path.extent ∧
      (postListFetch j s).path.latch = s.path.latch ∧
      (postListFetch j s).path.holdoff = s.path.holdoff ∧
      (postListFetch j s).path.suppressed = s.path.suppressed ∧
      (postListFetch j s).path.fairness = s.path.fairness ∧
      (postListFetch j s).path.upstream = s.path.upstream ∧
      (postListFetch j s).path.memPort = s.path.memPort ∧
      (postListFetch j s).path.hostResp = s.path.hostResp :=
  by
  refine ⟨?_, ?_, ?_, ?_, ?_, ?_, ?_, ?_, ?_, ?_, ?_, ?_, ?_, ?_, ?_, ?_, ?_, ?_⟩ <;> (simp [postListFetch])

@[simp] theorem needRegion_frame (j : ExportJob) (s : State) :
    (needRegion j s).life = s.life ∧
      (needRegion j s).intake = s.intake ∧
      (needRegion j s).conv = s.conv ∧
      (needRegion j s).view = s.view ∧
      (needRegion j s).map = s.map ∧
      (needRegion j s).alarm = s.alarm ∧
      (needRegion j s).hot = s.hot ∧
      (needRegion j s).cmd = s.cmd ∧
      (needRegion j s).pending = s.pending ∧
      (needRegion j s).path.windows = s.path.windows ∧
      (needRegion j s).path.extent = s.path.extent ∧
      (needRegion j s).path.latch = s.path.latch ∧
      (needRegion j s).path.holdoff = s.path.holdoff ∧
      (needRegion j s).path.suppressed = s.path.suppressed ∧
      (needRegion j s).path.fairness = s.path.fairness ∧
      (needRegion j s).path.upstream = s.path.upstream ∧
      (needRegion j s).path.memPort = s.path.memPort ∧
      (needRegion j s).path.hostResp = s.path.hostResp :=
  by
  refine ⟨?_, ?_, ?_, ?_, ?_, ?_, ?_, ?_, ?_, ?_, ?_, ?_, ?_, ?_, ?_, ?_, ?_, ?_⟩ <;> (unfold needRegion; (repeat' split); all_goals simp)

@[simp] theorem beginExport_frame (mask : Byte) (hot : Bool) (list : W32) (s : State) :
    (beginExport mask hot list s).life = s.life ∧
      (beginExport mask hot list s).intake = s.intake ∧
      (beginExport mask hot list s).conv = s.conv ∧
      (beginExport mask hot list s).view = s.view ∧
      (beginExport mask hot list s).map = s.map ∧
      (beginExport mask hot list s).alarm = s.alarm ∧
      (beginExport mask hot list s).hot = s.hot ∧
      (beginExport mask hot list s).cmd = s.cmd ∧
      (beginExport mask hot list s).pending = s.pending ∧
      (beginExport mask hot list s).path.windows = s.path.windows ∧
      (beginExport mask hot list s).path.extent = s.path.extent ∧
      (beginExport mask hot list s).path.latch = s.path.latch ∧
      (beginExport mask hot list s).path.holdoff = s.path.holdoff ∧
      (beginExport mask hot list s).path.suppressed = s.path.suppressed ∧
      (beginExport mask hot list s).path.fairness = s.path.fairness ∧
      (beginExport mask hot list s).path.upstream = s.path.upstream ∧
      (beginExport mask hot list s).path.memPort = s.path.memPort ∧
      (beginExport mask hot list s).path.hostResp = s.path.hostResp :=
  by
  refine ⟨?_, ?_, ?_, ?_, ?_, ?_, ?_, ?_, ?_, ?_, ?_, ?_, ?_, ?_, ?_, ?_, ?_, ?_⟩ <;> (simp [beginExport])

@[simp] theorem listFetched_frame (reply : FetchReply) (s : State) :
    (listFetched reply s).life = s.life ∧
      (listFetched reply s).intake = s.intake ∧
      (listFetched reply s).conv = s.conv ∧
      (listFetched reply s).view = s.view ∧
      (listFetched reply s).map = s.map ∧
      (listFetched reply s).alarm = s.alarm ∧
      (listFetched reply s).hot = s.hot ∧
      (listFetched reply s).cmd = s.cmd ∧
      (listFetched reply s).pending = s.pending ∧
      (listFetched reply s).path.windows = s.path.windows ∧
      (listFetched reply s).path.extent = s.path.extent ∧
      (listFetched reply s).path.latch = s.path.latch ∧
      (listFetched reply s).path.holdoff = s.path.holdoff ∧
      (listFetched reply s).path.suppressed = s.path.suppressed ∧
      (listFetched reply s).path.fairness = s.path.fairness ∧
      (listFetched reply s).path.upstream = s.path.upstream ∧
      (listFetched reply s).path.memPort = s.path.memPort ∧
      (listFetched reply s).path.hostResp = s.path.hostResp :=
  by
  refine ⟨?_, ?_, ?_, ?_, ?_, ?_, ?_, ?_, ?_, ?_, ?_, ?_, ?_, ?_, ?_, ?_, ?_, ?_⟩ <;> (unfold listFetched; (repeat' split); all_goals simp)

@[simp] theorem continueStream_frame (j : ExportJob) (s : State) :
    (continueStream j s).life = s.life ∧
      (continueStream j s).intake = s.intake ∧
      (continueStream j s).conv = s.conv ∧
      (continueStream j s).view = s.view ∧
      (continueStream j s).map = s.map ∧
      (continueStream j s).alarm = s.alarm ∧
      (continueStream j s).hot = s.hot ∧
      (continueStream j s).cmd = s.cmd ∧
      (continueStream j s).pending = s.pending ∧
      (continueStream j s).path.windows = s.path.windows ∧
      (continueStream j s).path.extent = s.path.extent ∧
      (continueStream j s).path.latch = s.path.latch ∧
      (continueStream j s).path.holdoff = s.path.holdoff ∧
      (continueStream j s).path.suppressed = s.path.suppressed ∧
      (continueStream j s).path.fairness = s.path.fairness ∧
      (continueStream j s).path.upstream = s.path.upstream ∧
      (continueStream j s).path.memPort = s.path.memPort ∧
      (continueStream j s).path.hostResp = s.path.hostResp :=
  by
  refine ⟨?_, ?_, ?_, ?_, ?_, ?_, ?_, ?_, ?_, ?_, ?_, ?_, ?_, ?_, ?_, ?_, ?_, ?_⟩ <;> (unfold continueStream; (repeat' split); all_goals simp)

@[simp] theorem streamWritten_frame (error : Bool) (s : State) :
    (streamWritten error s).life = s.life ∧
      (streamWritten error s).intake = s.intake ∧
      (streamWritten error s).conv = s.conv ∧
      (streamWritten error s).view = s.view ∧
      (streamWritten error s).map = s.map ∧
      (streamWritten error s).alarm = s.alarm ∧
      (streamWritten error s).hot = s.hot ∧
      (streamWritten error s).cmd = s.cmd ∧
      (streamWritten error s).pending = s.pending ∧
      (streamWritten error s).path.windows = s.path.windows ∧
      (streamWritten error s).path.extent = s.path.extent ∧
      (streamWritten error s).path.latch = s.path.latch ∧
      (streamWritten error s).path.holdoff = s.path.holdoff ∧
      (streamWritten error s).path.suppressed = s.path.suppressed ∧
      (streamWritten error s).path.fairness = s.path.fairness ∧
      (streamWritten error s).path.upstream = s.path.upstream ∧
      (streamWritten error s).path.memPort = s.path.memPort ∧
      (streamWritten error s).path.hostResp = s.path.hostResp :=
  by
  refine ⟨?_, ?_, ?_, ?_, ?_, ?_, ?_, ?_, ?_, ?_, ?_, ?_, ?_, ?_, ?_, ?_, ?_, ?_⟩ <;> (unfold streamWritten; dsimp only; (repeat' split); all_goals simp)

@[simp] theorem fetchIfDue_frame (s : State) :
    (fetchIfDue s).life = s.life ∧
      (fetchIfDue s).intake = s.intake ∧
      (fetchIfDue s).conv = s.conv ∧
      (fetchIfDue s).view = s.view ∧
      (fetchIfDue s).map = s.map ∧
      (fetchIfDue s).alarm = s.alarm ∧
      (fetchIfDue s).hot = s.hot ∧
      (fetchIfDue s).ev = s.ev ∧
      (fetchIfDue s).exp = s.exp ∧
      (fetchIfDue s).pending = s.pending ∧
      (fetchIfDue s).path.windows = s.path.windows ∧
      (fetchIfDue s).path.extent = s.path.extent ∧
      (fetchIfDue s).path.latch = s.path.latch ∧
      (fetchIfDue s).path.holdoff = s.path.holdoff ∧
      (fetchIfDue s).path.suppressed = s.path.suppressed ∧
      (fetchIfDue s).path.fairness = s.path.fairness ∧
      (fetchIfDue s).path.upstream = s.path.upstream ∧
      (fetchIfDue s).path.memPort = s.path.memPort ∧
      (fetchIfDue s).path.hostResp = s.path.hostResp :=
  by
  refine ⟨?_, ?_, ?_, ?_, ?_, ?_, ?_, ?_, ?_, ?_, ?_, ?_, ?_, ?_, ?_, ?_, ?_, ?_, ?_⟩ <;> (unfold fetchIfDue; (try dsimp only); (repeat' split); all_goals simp)

@[simp] theorem carryOutUrgent_frame (u : Urgent) (s : State) :
    (carryOutUrgent u s).life = s.life ∧
      (carryOutUrgent u s).intake = s.intake ∧
      (carryOutUrgent u s).conv = s.conv ∧
      (carryOutUrgent u s).view = s.view ∧
      (carryOutUrgent u s).alarm = s.alarm ∧
      (carryOutUrgent u s).hot = s.hot ∧
      (carryOutUrgent u s).cmd = s.cmd ∧
      (carryOutUrgent u s).pending = s.pending ∧
      (carryOutUrgent u s).path.windows = s.path.windows ∧
      (carryOutUrgent u s).path.extent = s.path.extent ∧
      (carryOutUrgent u s).path.latch = s.path.latch ∧
      (carryOutUrgent u s).path.holdoff = s.path.holdoff ∧
      (carryOutUrgent u s).path.suppressed = s.path.suppressed ∧
      (carryOutUrgent u s).path.fairness = s.path.fairness ∧
      (carryOutUrgent u s).path.upstream = s.path.upstream ∧
      (carryOutUrgent u s).path.memPort = s.path.memPort ∧
      (carryOutUrgent u s).path.hostResp = s.path.hostResp ∧
      (carryOutUrgent u s).map.cells = s.map.cells :=
  by
  refine ⟨?_, ?_, ?_, ?_, ?_, ?_, ?_, ?_, ?_, ?_, ?_, ?_, ?_, ?_, ?_, ?_, ?_, ?_⟩ <;> (unfold carryOutUrgent; (repeat' split); all_goals simp)

@[simp] theorem acceptUrgent_frame (s : State) :
    (acceptUrgent s).life = s.life ∧
      (acceptUrgent s).intake = s.intake ∧
      (acceptUrgent s).conv = s.conv ∧
      (acceptUrgent s).view = s.view ∧
      (acceptUrgent s).alarm = s.alarm ∧
      (acceptUrgent s).hot = s.hot ∧
      (acceptUrgent s).pending = s.pending ∧
      (acceptUrgent s).path.windows = s.path.windows ∧
      (acceptUrgent s).path.extent = s.path.extent ∧
      (acceptUrgent s).path.latch = s.path.latch ∧
      (acceptUrgent s).path.holdoff = s.path.holdoff ∧
      (acceptUrgent s).path.suppressed = s.path.suppressed ∧
      (acceptUrgent s).path.fairness = s.path.fairness ∧
      (acceptUrgent s).path.upstream = s.path.upstream ∧
      (acceptUrgent s).path.memPort = s.path.memPort ∧
      (acceptUrgent s).path.hostResp = s.path.hostResp ∧
      (acceptUrgent s).map.cells = s.map.cells :=
  by
  refine ⟨?_, ?_, ?_, ?_, ?_, ?_, ?_, ?_, ?_, ?_, ?_, ?_, ?_, ?_, ?_, ?_, ?_⟩ <;> (unfold acceptUrgent; dsimp only; (repeat' split); all_goals simp)

@[simp] theorem withdrawClear_frame (s : State) :
    (withdrawClear s).life = s.life ∧
      (withdrawClear s).intake = s.intake ∧
      (withdrawClear s).conv = s.conv ∧
      (withdrawClear s).view = s.view ∧
      (withdrawClear s).map = s.map ∧
      (withdrawClear s).alarm = s.alarm ∧
      (withdrawClear s).hot = s.hot ∧
      (withdrawClear s).cmd = s.cmd ∧
      (withdrawClear s).ev = s.ev ∧
      (withdrawClear s).exp = s.exp ∧
      (withdrawClear s).pending = s.pending ∧
      (withdrawClear s).path.windows = s.path.windows ∧
      (withdrawClear s).path.extent = s.path.extent ∧
      (withdrawClear s).path.latch = s.path.latch ∧
      (withdrawClear s).path.holdoff = s.path.holdoff ∧
      (withdrawClear s).path.suppressed = s.path.suppressed ∧
      (withdrawClear s).path.fairness = s.path.fairness ∧
      (withdrawClear s).path.upstream = s.path.upstream ∧
      (withdrawClear s).path.memPort = s.path.memPort ∧
      (withdrawClear s).path.hostResp = s.path.hostResp :=
  by
  refine ⟨?_, ?_, ?_, ?_, ?_, ?_, ?_, ?_, ?_, ?_, ?_, ?_, ?_, ?_, ?_, ?_, ?_, ?_, ?_, ?_⟩ <;> (simp [withdrawClear])

@[simp] theorem acceptAtOnce_frame (s : State) :
    (acceptAtOnce s).life = s.life ∧
      (acceptAtOnce s).intake = s.intake ∧
      (acceptAtOnce s).conv = s.conv ∧
      (acceptAtOnce s).view = s.view ∧
      (acceptAtOnce s).alarm = s.alarm ∧
      (acceptAtOnce s).hot = s.hot ∧
      (acceptAtOnce s).pending = s.pending ∧
      (acceptAtOnce s).path.windows = s.path.windows ∧
      (acceptAtOnce s).path.extent = s.path.extent ∧
      (acceptAtOnce s).path.latch = s.path.latch ∧
      (acceptAtOnce s).path.holdoff = s.path.holdoff ∧
      (acceptAtOnce s).path.suppressed = s.path.suppressed ∧
      (acceptAtOnce s).path.fairness = s.path.fairness ∧
      (acceptAtOnce s).path.upstream = s.path.upstream ∧
      (acceptAtOnce s).path.memPort = s.path.memPort ∧
      (acceptAtOnce s).path.hostResp = s.path.hostResp ∧
      (acceptAtOnce s).map.cells = s.map.cells :=
  by
  refine ⟨?_, ?_, ?_, ?_, ?_, ?_, ?_, ?_, ?_, ?_, ?_, ?_, ?_, ?_, ?_, ?_, ?_⟩ <;> (unfold acceptAtOnce; (repeat' split); all_goals simp)

@[simp] theorem leaveBusy_frame (s : State) :
    (leaveBusy s).life = s.life ∧
      (leaveBusy s).path = s.path ∧
      (leaveBusy s).intake = s.intake ∧
      (leaveBusy s).conv = s.conv ∧
      (leaveBusy s).view = s.view ∧
      (leaveBusy s).map = s.map ∧
      (leaveBusy s).alarm = s.alarm ∧
      (leaveBusy s).hot = s.hot ∧
      (leaveBusy s).ev = s.ev ∧
      (leaveBusy s).exp = s.exp ∧
      (leaveBusy s).pending = s.pending :=
  by
  refine ⟨?_, ?_, ?_, ?_, ?_, ?_, ?_, ?_, ?_, ?_, ?_⟩ <;> (unfold leaveBusy; (try dsimp only); (repeat' split); all_goals simp)

@[simp] theorem cmdWriteEnded_frame (s : State) :
    (cmdWriteEnded s).life = s.life ∧
      (cmdWriteEnded s).intake = s.intake ∧
      (cmdWriteEnded s).conv = s.conv ∧
      (cmdWriteEnded s).view = s.view ∧
      (cmdWriteEnded s).alarm = s.alarm ∧
      (cmdWriteEnded s).hot = s.hot ∧
      (cmdWriteEnded s).pending = s.pending ∧
      (cmdWriteEnded s).path.windows = s.path.windows ∧
      (cmdWriteEnded s).path.extent = s.path.extent ∧
      (cmdWriteEnded s).path.latch = s.path.latch ∧
      (cmdWriteEnded s).path.holdoff = s.path.holdoff ∧
      (cmdWriteEnded s).path.suppressed = s.path.suppressed ∧
      (cmdWriteEnded s).path.fairness = s.path.fairness ∧
      (cmdWriteEnded s).path.upstream = s.path.upstream ∧
      (cmdWriteEnded s).path.memPort = s.path.memPort ∧
      (cmdWriteEnded s).path.hostResp = s.path.hostResp ∧
      (cmdWriteEnded s).map.cells = s.map.cells :=
  by
  refine ⟨?_, ?_, ?_, ?_, ?_, ?_, ?_, ?_, ?_, ?_, ?_, ?_, ?_, ?_, ?_, ?_, ?_⟩ <;> (unfold cmdWriteEnded; (repeat' split); all_goals simp)

@[simp] theorem urgentWrite_frame (reg : Option Urgent) (s : State) :
    (urgentWrite reg s).life = s.life ∧
      (urgentWrite reg s).intake = s.intake ∧
      (urgentWrite reg s).conv = s.conv ∧
      (urgentWrite reg s).view = s.view ∧
      (urgentWrite reg s).alarm = s.alarm ∧
      (urgentWrite reg s).hot = s.hot ∧
      (urgentWrite reg s).pending = s.pending ∧
      (urgentWrite reg s).path.windows = s.path.windows ∧
      (urgentWrite reg s).path.extent = s.path.extent ∧
      (urgentWrite reg s).path.latch = s.path.latch ∧
      (urgentWrite reg s).path.holdoff = s.path.holdoff ∧
      (urgentWrite reg s).path.suppressed = s.path.suppressed ∧
      (urgentWrite reg s).path.fairness = s.path.fairness ∧
      (urgentWrite reg s).path.upstream = s.path.upstream ∧
      (urgentWrite reg s).path.memPort = s.path.memPort ∧
      (urgentWrite reg s).path.hostResp = s.path.hostResp ∧
      (urgentWrite reg s).map.cells = s.map.cells :=
  by
  refine ⟨?_, ?_, ?_, ?_, ?_, ?_, ?_, ?_, ?_, ?_, ?_, ?_, ?_, ?_, ?_, ?_, ?_⟩ <;> (unfold urgentWrite; dsimp only; split <;> simp)

@[simp] theorem urgentRefused_frame (v : W32) (s : State) :
    (urgentRefused v s).life = s.life ∧
      (urgentRefused v s).intake = s.intake ∧
      (urgentRefused v s).conv = s.conv ∧
      (urgentRefused v s).view = s.view ∧
      (urgentRefused v s).alarm = s.alarm ∧
      (urgentRefused v s).hot = s.hot ∧
      (urgentRefused v s).pending = s.pending ∧
      (urgentRefused v s).path.windows = s.path.windows ∧
      (urgentRefused v s).path.extent = s.path.extent ∧
      (urgentRefused v s).path.latch = s.path.latch ∧
      (urgentRefused v s).path.holdoff = s.path.holdoff ∧
      (urgentRefused v s).path.suppressed = s.path.suppressed ∧
      (urgentRefused v s).path.fairness = s.path.fairness ∧
      (urgentRefused v s).path.upstream = s.path.upstream ∧
      (urgentRefused v s).path.memPort = s.path.memPort ∧
      (urgentRefused v s).path.hostResp = s.path.hostResp ∧
      (urgentRefused v s).map.cells = s.map.cells :=
  by
  refine ⟨?_, ?_, ?_, ?_, ?_, ?_, ?_, ?_, ?_, ?_, ?_, ?_, ?_, ?_, ?_, ?_, ?_⟩ <;> (simp [urgentRefused])

@[simp] theorem urgentValue_frame (v : W32) (s : State) :
    (urgentValue v s).life = s.life ∧
      (urgentValue v s).intake = s.intake ∧
      (urgentValue v s).conv = s.conv ∧
      (urgentValue v s).view = s.view ∧
      (urgentValue v s).alarm = s.alarm ∧
      (urgentValue v s).hot = s.hot ∧
      (urgentValue v s).pending = s.pending ∧
      (urgentValue v s).path.windows = s.path.windows ∧
      (urgentValue v s).path.extent = s.path.extent ∧
      (urgentValue v s).path.latch = s.path.latch ∧
      (urgentValue v s).path.holdoff = s.path.holdoff ∧
      (urgentValue v s).path.suppressed = s.path.suppressed ∧
      (urgentValue v s).path.fairness = s.path.fairness ∧
      (urgentValue v s).path.upstream = s.path.upstream ∧
      (urgentValue v s).path.memPort = s.path.memPort ∧
      (urgentValue v s).path.hostResp = s.path.hostResp ∧
      (urgentValue v s).map.cells = s.map.cells :=
  by
  refine ⟨?_, ?_, ?_, ?_, ?_, ?_, ?_, ?_, ?_, ?_, ?_, ?_, ?_, ?_, ?_, ?_, ?_⟩ <;> (unfold urgentValue; (repeat' split); all_goals simp)

@[simp] theorem tailWrite_frame (v : W32) (s : State) :
    (tailWrite v s).life = s.life ∧
      (tailWrite v s).intake = s.intake ∧
      (tailWrite v s).conv = s.conv ∧
      (tailWrite v s).view = s.view ∧
      (tailWrite v s).map = s.map ∧
      (tailWrite v s).alarm = s.alarm ∧
      (tailWrite v s).hot = s.hot ∧
      (tailWrite v s).ev = s.ev ∧
      (tailWrite v s).exp = s.exp ∧
      (tailWrite v s).pending = s.pending ∧
      (tailWrite v s).path.windows = s.path.windows ∧
      (tailWrite v s).path.extent = s.path.extent ∧
      (tailWrite v s).path.latch = s.path.latch ∧
      (tailWrite v s).path.holdoff = s.path.holdoff ∧
      (tailWrite v s).path.suppressed = s.path.suppressed ∧
      (tailWrite v s).path.fairness = s.path.fairness ∧
      (tailWrite v s).path.upstream = s.path.upstream ∧
      (tailWrite v s).path.memPort = s.path.memPort ∧
      (tailWrite v s).path.hostResp = s.path.hostResp :=
  by
  refine ⟨?_, ?_, ?_, ?_, ?_, ?_, ?_, ?_, ?_, ?_, ?_, ?_, ?_, ?_, ?_, ?_, ?_, ?_, ?_⟩ <;> (unfold tailWrite; (try dsimp only); (repeat' split); all_goals simp)

@[simp] theorem ringFetchFailed_frame (s : State) :
    (ringFetchFailed s).life = s.life ∧
      (ringFetchFailed s).intake = s.intake ∧
      (ringFetchFailed s).conv = s.conv ∧
      (ringFetchFailed s).view = s.view ∧
      (ringFetchFailed s).alarm = s.alarm ∧
      (ringFetchFailed s).hot = s.hot ∧
      (ringFetchFailed s).pending = s.pending ∧
      (ringFetchFailed s).path.windows = s.path.windows ∧
      (ringFetchFailed s).path.extent = s.path.extent ∧
      (ringFetchFailed s).path.latch = s.path.latch ∧
      (ringFetchFailed s).path.holdoff = s.path.holdoff ∧
      (ringFetchFailed s).path.suppressed = s.path.suppressed ∧
      (ringFetchFailed s).path.fairness = s.path.fairness ∧
      (ringFetchFailed s).path.upstream = s.path.upstream ∧
      (ringFetchFailed s).path.memPort = s.path.memPort ∧
      (ringFetchFailed s).path.hostResp = s.path.hostResp ∧
      (ringFetchFailed s).map.cells = s.map.cells :=
  by
  refine ⟨?_, ?_, ?_, ?_, ?_, ?_, ?_, ?_, ?_, ?_, ?_, ?_, ?_, ?_, ?_, ?_, ?_⟩ <;> (unfold ringFetchFailed; dsimp only; split <;> simp)

@[simp] theorem cmdPause_frame (s : State) :
    (cmdPause s).life = s.life ∧
      (cmdPause s).path = s.path ∧
      (cmdPause s).intake = s.intake ∧
      (cmdPause s).conv = s.conv ∧
      (cmdPause s).view = s.view ∧
      (cmdPause s).map = s.map ∧
      (cmdPause s).alarm = s.alarm ∧
      (cmdPause s).hot = s.hot ∧
      (cmdPause s).ev = s.ev ∧
      (cmdPause s).exp = s.exp ∧
      (cmdPause s).pending = s.pending :=
  by
  refine ⟨?_, ?_, ?_, ?_, ?_, ?_, ?_, ?_, ?_, ?_, ?_⟩ <;> (unfold cmdPause; (try dsimp only); (repeat' split); all_goals simp)

@[simp] theorem cmdWake_frame (s : State) :
    (cmdWake s).life = s.life ∧
      (cmdWake s).path = s.path ∧
      (cmdWake s).intake = s.intake ∧
      (cmdWake s).conv = s.conv ∧
      (cmdWake s).view = s.view ∧
      (cmdWake s).map = s.map ∧
      (cmdWake s).alarm = s.alarm ∧
      (cmdWake s).hot = s.hot ∧
      (cmdWake s).ev = s.ev ∧
      (cmdWake s).exp = s.exp ∧
      (cmdWake s).pending = s.pending :=
  by
  refine ⟨?_, ?_, ?_, ?_, ?_, ?_, ?_, ?_, ?_, ?_, ?_⟩ <;> (unfold cmdWake; (try dsimp only); (repeat' split); all_goals simp)

@[simp] theorem cmdResume_frame (s : State) :
    (cmdResume s).life = s.life ∧
      (cmdResume s).intake = s.intake ∧
      (cmdResume s).conv = s.conv ∧
      (cmdResume s).view = s.view ∧
      (cmdResume s).alarm = s.alarm ∧
      (cmdResume s).hot = s.hot ∧
      (cmdResume s).pending = s.pending ∧
      (cmdResume s).path.windows = s.path.windows ∧
      (cmdResume s).path.extent = s.path.extent ∧
      (cmdResume s).path.latch = s.path.latch ∧
      (cmdResume s).path.holdoff = s.path.holdoff ∧
      (cmdResume s).path.suppressed = s.path.suppressed ∧
      (cmdResume s).path.fairness = s.path.fairness ∧
      (cmdResume s).path.upstream = s.path.upstream ∧
      (cmdResume s).path.memPort = s.path.memPort ∧
      (cmdResume s).path.hostResp = s.path.hostResp ∧
      (cmdResume s).map.cells = s.map.cells :=
  by
  refine ⟨?_, ?_, ?_, ?_, ?_, ?_, ?_, ?_, ?_, ?_, ?_, ?_, ?_, ?_, ?_, ?_, ?_⟩ <;> (unfold cmdResume; dsimp only; split <;> simp)

@[simp] theorem cmdLoadOk_frame (same : Bool) (s : State) :
    (cmdLoadOk same s).life = s.life ∧
      (cmdLoadOk same s).intake = s.intake ∧
      (cmdLoadOk same s).conv = s.conv ∧
      (cmdLoadOk same s).view = s.view ∧
      (cmdLoadOk same s).alarm = s.alarm ∧
      (cmdLoadOk same s).hot = s.hot ∧
      (cmdLoadOk same s).pending = s.pending ∧
      (cmdLoadOk same s).path.windows = s.path.windows ∧
      (cmdLoadOk same s).path.extent = s.path.extent ∧
      (cmdLoadOk same s).path.latch = s.path.latch ∧
      (cmdLoadOk same s).path.holdoff = s.path.holdoff ∧
      (cmdLoadOk same s).path.suppressed = s.path.suppressed ∧
      (cmdLoadOk same s).path.fairness = s.path.fairness ∧
      (cmdLoadOk same s).path.upstream = s.path.upstream ∧
      (cmdLoadOk same s).path.memPort = s.path.memPort ∧
      (cmdLoadOk same s).path.hostResp = s.path.hostResp ∧
      (cmdLoadOk same s).map.cells = s.map.cells :=
  by
  refine ⟨?_, ?_, ?_, ?_, ?_, ?_, ?_, ?_, ?_, ?_, ?_, ?_, ?_, ?_, ?_, ?_, ?_⟩ <;> (unfold cmdLoadOk; dsimp only; split <;> simp)

@[simp] theorem finishEntry_frame (s : State) :
    (finishEntry s).life = s.life ∧
      (finishEntry s).intake = s.intake ∧
      (finishEntry s).conv = s.conv ∧
      (finishEntry s).view = s.view ∧
      (finishEntry s).alarm = s.alarm ∧
      (finishEntry s).hot = s.hot ∧
      (finishEntry s).pending = s.pending ∧
      (finishEntry s).path.windows = s.path.windows ∧
      (finishEntry s).path.extent = s.path.extent ∧
      (finishEntry s).path.latch = s.path.latch ∧
      (finishEntry s).path.holdoff = s.path.holdoff ∧
      (finishEntry s).path.suppressed = s.path.suppressed ∧
      (finishEntry s).path.fairness = s.path.fairness ∧
      (finishEntry s).path.upstream = s.path.upstream ∧
      (finishEntry s).path.memPort = s.path.memPort ∧
      (finishEntry s).path.hostResp = s.path.hostResp ∧
      (finishEntry s).map.cells = s.map.cells :=
  by
  refine ⟨?_, ?_, ?_, ?_, ?_, ?_, ?_, ?_, ?_, ?_, ?_, ?_, ?_, ?_, ?_, ?_, ?_⟩ <;> (simp [finishEntry])

@[simp] theorem refuseEntry_frame (op : Nat) (r : Reason) (s : State) :
    (refuseEntry op r s).life = s.life ∧
      (refuseEntry op r s).path = s.path ∧
      (refuseEntry op r s).intake = s.intake ∧
      (refuseEntry op r s).conv = s.conv ∧
      (refuseEntry op r s).view = s.view ∧
      (refuseEntry op r s).map = s.map ∧
      (refuseEntry op r s).alarm = s.alarm ∧
      (refuseEntry op r s).hot = s.hot ∧
      (refuseEntry op r s).cmd = s.cmd ∧
      (refuseEntry op r s).exp = s.exp ∧
      (refuseEntry op r s).pending = s.pending :=
  ⟨rfl, rfl, rfl, rfl, rfl, rfl, rfl, rfl, rfl, rfl, rfl⟩

@[simp] theorem setLock_frame (s : State) :
    (setLock s).path = s.path ∧
      (setLock s).intake = s.intake ∧
      (setLock s).conv = s.conv ∧
      (setLock s).view = s.view ∧
      (setLock s).map = s.map ∧
      (setLock s).alarm = s.alarm ∧
      (setLock s).hot = s.hot ∧
      (setLock s).cmd = s.cmd ∧
      (setLock s).ev = s.ev ∧
      (setLock s).exp = s.exp ∧
      (setLock s).pending = s.pending :=
  ⟨rfl, rfl, rfl, rfl, rfl, rfl, rfl, rfl, rfl, rfl, rfl⟩

@[simp] theorem loadEndEvent_frame (r : LoadResult) (ph : Phase) (s : State) :
    (loadEndEvent r ph s).life = s.life ∧
      (loadEndEvent r ph s).path = s.path ∧
      (loadEndEvent r ph s).intake = s.intake ∧
      (loadEndEvent r ph s).conv = s.conv ∧
      (loadEndEvent r ph s).view = s.view ∧
      (loadEndEvent r ph s).map = s.map ∧
      (loadEndEvent r ph s).alarm = s.alarm ∧
      (loadEndEvent r ph s).hot = s.hot ∧
      (loadEndEvent r ph s).cmd = s.cmd ∧
      (loadEndEvent r ph s).exp = s.exp ∧
      (loadEndEvent r ph s).pending = s.pending :=
  ⟨rfl, rfl, rfl, rfl, rfl, rfl, rfl, rfl, rfl, rfl, rfl⟩

@[simp] theorem pathLoadOk_frame (c : RootCfg) (s : State) :
    (pathLoadOk c s).life = s.life ∧
      (pathLoadOk c s).intake = s.intake ∧
      (pathLoadOk c s).conv = s.conv ∧
      (pathLoadOk c s).view = s.view ∧
      (pathLoadOk c s).map = s.map ∧
      (pathLoadOk c s).alarm = s.alarm ∧
      (pathLoadOk c s).hot = s.hot ∧
      (pathLoadOk c s).cmd = s.cmd ∧
      (pathLoadOk c s).ev = s.ev ∧
      (pathLoadOk c s).exp = s.exp ∧
      (pathLoadOk c s).pending = s.pending :=
  ⟨rfl, rfl, rfl, rfl, rfl, rfl, rfl, rfl, rfl, rfl, rfl⟩

@[simp] theorem postConfigFetch_frame (addr : W32) (s : State) :
    (postConfigFetch addr s).life = s.life ∧
      (postConfigFetch addr s).intake = s.intake ∧
      (postConfigFetch addr s).conv = s.conv ∧
      (postConfigFetch addr s).view = s.view ∧
      (postConfigFetch addr s).map = s.map ∧
      (postConfigFetch addr s).alarm = s.alarm ∧
      (postConfigFetch addr s).hot = s.hot ∧
      (postConfigFetch addr s).cmd = s.cmd ∧
      (postConfigFetch addr s).ev = s.ev ∧
      (postConfigFetch addr s).exp = s.exp ∧
      (postConfigFetch addr s).pending = s.pending ∧
      (postConfigFetch addr s).path.windows = s.path.windows ∧
      (postConfigFetch addr s).path.extent = s.path.extent ∧
      (postConfigFetch addr s).path.latch = s.path.latch ∧
      (postConfigFetch addr s).path.holdoff = s.path.holdoff ∧
      (postConfigFetch addr s).path.suppressed = s.path.suppressed ∧
      (postConfigFetch addr s).path.fairness = s.path.fairness ∧
      (postConfigFetch addr s).path.upstream = s.path.upstream ∧
      (postConfigFetch addr s).path.memPort = s.path.memPort ∧
      (postConfigFetch addr s).path.hostResp = s.path.hostResp :=
  by
  refine ⟨?_, ?_, ?_, ?_, ?_, ?_, ?_, ?_, ?_, ?_, ?_, ?_, ?_, ?_, ?_, ?_, ?_, ?_, ?_, ?_⟩ <;> (simp [postConfigFetch])

@[simp] theorem continueLoad_frame (j : LoadJob) (s : State) :
    (continueLoad j s).intake = s.intake ∧
      (continueLoad j s).conv = s.conv ∧
      (continueLoad j s).view = s.view ∧
      (continueLoad j s).map = s.map ∧
      (continueLoad j s).alarm = s.alarm ∧
      (continueLoad j s).hot = s.hot ∧
      (continueLoad j s).cmd = s.cmd ∧
      (continueLoad j s).ev = s.ev ∧
      (continueLoad j s).exp = s.exp ∧
      (continueLoad j s).pending = s.pending ∧
      (continueLoad j s).path.windows = s.path.windows ∧
      (continueLoad j s).path.extent = s.path.extent ∧
      (continueLoad j s).path.latch = s.path.latch ∧
      (continueLoad j s).path.holdoff = s.path.holdoff ∧
      (continueLoad j s).path.suppressed = s.path.suppressed ∧
      (continueLoad j s).path.fairness = s.path.fairness ∧
      (continueLoad j s).path.upstream = s.path.upstream ∧
      (continueLoad j s).path.memPort = s.path.memPort ∧
      (continueLoad j s).path.hostResp = s.path.hostResp :=
  by
  refine ⟨?_, ?_, ?_, ?_, ?_, ?_, ?_, ?_, ?_, ?_, ?_, ?_, ?_, ?_, ?_, ?_, ?_, ?_, ?_⟩ <;> (simp [continueLoad])

@[simp] theorem beginLoad_frame (k : LoadKind) (s : State) :
    (beginLoad k s).intake = s.intake ∧
      (beginLoad k s).conv = s.conv ∧
      (beginLoad k s).view = s.view ∧
      (beginLoad k s).map = s.map ∧
      (beginLoad k s).alarm = s.alarm ∧
      (beginLoad k s).hot = s.hot ∧
      (beginLoad k s).cmd = s.cmd ∧
      (beginLoad k s).ev = s.ev ∧
      (beginLoad k s).exp = s.exp ∧
      (beginLoad k s).pending = s.pending ∧
      (beginLoad k s).path.windows = s.path.windows ∧
      (beginLoad k s).path.extent = s.path.extent ∧
      (beginLoad k s).path.latch = s.path.latch ∧
      (beginLoad k s).path.holdoff = s.path.holdoff ∧
      (beginLoad k s).path.suppressed = s.path.suppressed ∧
      (beginLoad k s).path.fairness = s.path.fairness ∧
      (beginLoad k s).path.upstream = s.path.upstream ∧
      (beginLoad k s).path.memPort = s.path.memPort ∧
      (beginLoad k s).path.hostResp = s.path.hostResp :=
  by
  refine ⟨?_, ?_, ?_, ?_, ?_, ?_, ?_, ?_, ?_, ?_, ?_, ?_, ?_, ?_, ?_, ?_, ?_, ?_, ?_⟩ <;> (simp [beginLoad])

@[simp] theorem dropConfigFetch_frame (s : State) :
    (dropConfigFetch s).life = s.life ∧
      (dropConfigFetch s).intake = s.intake ∧
      (dropConfigFetch s).conv = s.conv ∧
      (dropConfigFetch s).view = s.view ∧
      (dropConfigFetch s).map = s.map ∧
      (dropConfigFetch s).alarm = s.alarm ∧
      (dropConfigFetch s).hot = s.hot ∧
      (dropConfigFetch s).cmd = s.cmd ∧
      (dropConfigFetch s).ev = s.ev ∧
      (dropConfigFetch s).exp = s.exp ∧
      (dropConfigFetch s).pending = s.pending :=
  by
  refine ⟨?_, ?_, ?_, ?_, ?_, ?_, ?_, ?_, ?_, ?_, ?_⟩ <;> (simp [dropConfigFetch])

@[simp] theorem holdoffWrite_frame (off : Nat) (s : State) :
    (holdoffWrite off s).life = s.life ∧
      (holdoffWrite off s).intake = s.intake ∧
      (holdoffWrite off s).conv = s.conv ∧
      (holdoffWrite off s).view = s.view ∧
      (holdoffWrite off s).map = s.map ∧
      (holdoffWrite off s).alarm = s.alarm ∧
      (holdoffWrite off s).hot = s.hot ∧
      (holdoffWrite off s).cmd = s.cmd ∧
      (holdoffWrite off s).exp = s.exp ∧
      (holdoffWrite off s).pending = s.pending :=
  by
  refine ⟨?_, ?_, ?_, ?_, ?_, ?_, ?_, ?_, ?_, ?_⟩ <;> (unfold holdoffWrite; (try dsimp only); (repeat' split); all_goals simp)

@[simp] theorem answerHost_frame (resp : List BeatResp) (s : State) :
    (answerHost resp s).life = s.life ∧
      (answerHost resp s).intake = s.intake ∧
      (answerHost resp s).conv = s.conv ∧
      (answerHost resp s).view = s.view ∧
      (answerHost resp s).map = s.map ∧
      (answerHost resp s).alarm = s.alarm ∧
      (answerHost resp s).hot = s.hot ∧
      (answerHost resp s).cmd = s.cmd ∧
      (answerHost resp s).ev = s.ev ∧
      (answerHost resp s).exp = s.exp ∧
      (answerHost resp s).pending = s.pending :=
  ⟨rfl, rfl, rfl, rfl, rfl, rfl, rfl, rfl, rfl, rfl, rfl⟩

@[simp] theorem fillLatch_frame (r : RecordId) (s : State) :
    (fillLatch r s).life = s.life ∧
      (fillLatch r s).intake = s.intake ∧
      (fillLatch r s).conv = s.conv ∧
      (fillLatch r s).view = s.view ∧
      (fillLatch r s).map = s.map ∧
      (fillLatch r s).alarm = s.alarm ∧
      (fillLatch r s).hot = s.hot ∧
      (fillLatch r s).cmd = s.cmd ∧
      (fillLatch r s).ev = s.ev ∧
      (fillLatch r s).exp = s.exp ∧
      (fillLatch r s).pending = s.pending :=
  ⟨rfl, rfl, rfl, rfl, rfl, rfl, rfl, rfl, rfl, rfl, rfl⟩

@[simp] theorem hostCompleted_frame (resp : List BeatResp) (s : State) :
    (hostCompleted resp s).life = s.life ∧
      (hostCompleted resp s).intake = s.intake ∧
      (hostCompleted resp s).conv = s.conv ∧
      (hostCompleted resp s).view = s.view ∧
      (hostCompleted resp s).map = s.map ∧
      (hostCompleted resp s).alarm = s.alarm ∧
      (hostCompleted resp s).hot = s.hot ∧
      (hostCompleted resp s).cmd = s.cmd ∧
      (hostCompleted resp s).ev = s.ev ∧
      (hostCompleted resp s).exp = s.exp ∧
      (hostCompleted resp s).pending = s.pending :=
  by
  refine ⟨?_, ?_, ?_, ?_, ?_, ?_, ?_, ?_, ?_, ?_, ?_⟩ <;> (unfold hostCompleted; (try dsimp only); (repeat' split); all_goals simp)

@[simp] theorem setModeEffect_frame (p m : Byte) (s : State) :
    (setModeEffect p m s).life = s.life ∧
      (setModeEffect p m s).path = s.path ∧
      (setModeEffect p m s).intake = s.intake ∧
      (setModeEffect p m s).conv = s.conv ∧
      (setModeEffect p m s).cmd = s.cmd ∧
      (setModeEffect p m s).exp = s.exp ∧
      (setModeEffect p m s).pending = s.pending :=
  by
  refine ⟨?_, ?_, ?_, ?_, ?_, ?_, ?_⟩ <;> (unfold setModeEffect; (repeat' split); all_goals simp)

end Sys2Proof.Machine
end

