-- ==== Sys2Proof/Laws/Ops.lean ====
section
/-! SUPPORT. What each shared operation can do, said once: an event handed over, a completion, an entry's end, a request
posted. -/

namespace Sys2Proof.Machine

/-! ### Events (R167) -/

/-- An event handed over is discarded, dropped into the lost count, or appended (R167). -/
theorem EventWriter.take_cases (w : EventWriter) (e : Event) :
    w.take e = w ∨
    (8 ≤ w.pending.length ∧ w.take e = { w with lost := satAdd 65535 w.lost 1 }) ∨
    (w.pending.length < 8 ∧ w.take e = { w with pending := w.pending ++ [e] }) := by
  unfold EventWriter.take Config.pendingEventsMax
  split
  · exact .inl rfl
  · split
    · exact .inl rfl
    · split
      · exact .inr (.inl ⟨‹_›, rfl⟩)
      · exact .inr (.inr ⟨by omega, rfl⟩)

/-- Handing an event over touches the pending list and the lost count alone (R167). -/
@[simp] theorem EventWriter.take_frame (w : EventWriter) (e : Event) :
    (w.take e).ring = w.ring ∧ (w.take e).adopt = w.adopt ∧ (w.take e).producer = w.producer ∧
      (w.take e).consumer = w.consumer ∧ (w.take e).pathError = w.pathError ∧ (w.take e).coalesce = w.coalesce ∧
      (w.take e).expired = w.expired ∧ (w.take e).evt = w.evt := by
  obtain h | ⟨-, h⟩ | ⟨-, h⟩ := w.take_cases e <;> simp [h]

/-- Before a ring is in force every event is discarded (R167). -/
theorem EventWriter.take_no_ring {w : EventWriter} (h : w.ring = none) (e : Event) : w.take e = w := by
  simp [EventWriter.take, h]

/-- A saturating count stays within its top. -/
theorem satAdd_le (top n k : Nat) : satAdd top n k ≤ top := by
  unfold satAdd; split <;> omega

/-! ### Completions (R13) -/

/-- A completion whose access is on the port, not to be discarded, is acted on with the port free (R13). -/
theorem complete_of {mine : ReqKind → Bool} {act : BridgeReq → State → State} {s : State} {r : BridgeReq}
    (h : s.path.memPort = some (.bridge r false)) (hm : mine r.kind = true) : complete mine act s = act r (freePort s) := by
  simp [complete, h, hm]

/-- A completion to be discarded frees the port and does nothing else (R13). -/
theorem complete_discard {mine : ReqKind → Bool} {act : BridgeReq → State → State} {s : State} {r : BridgeReq}
    (h : s.path.memPort = some (.bridge r true)) (hm : mine r.kind = true) : complete mine act s = freePort s := by
  simp [complete, h, hm]

/-- What a completion can do (R13). -/
theorem complete_cases (mine : ReqKind → Bool) (act : BridgeReq → State → State) (s : State) :
    complete mine act s = s ∨ complete mine act s = freePort s ∨
      ∃ r, s.path.memPort = some (.bridge r false) ∧ mine r.kind = true ∧ complete mine act s = act r (freePort s) := by
  unfold complete
  split
  · rename_i r d hr
    by_cases hm : mine r.kind = true
    · cases d
      · exact .inr (.inr ⟨r, hr, hm, by simp [hm]⟩)
      · exact .inr (.inl (by simp [hm]))
    · exact .inl (by simp [hm])
  · exact .inl rfl
  · exact .inl rfl

/-- A property that the command's act keeps with the port free, and that freeing the port keeps, a completion keeps. -/
theorem complete_keeps {P : State → Prop} {mine : ReqKind → Bool} {act : BridgeReq → State → State} {s : State}
    (hs : P s) (hf : P (freePort s))
    (ha : ∀ r, s.path.memPort = some (.bridge r false) → mine r.kind = true → P (act r (freePort s))) :
    P (complete mine act s) := by
  obtain h | h | ⟨r, hr, hm, h⟩ := complete_cases mine act s
  · rw [h]; exact hs
  · rw [h]; exact hf
  · rw [h]; exact ha r hr hm

/-! ### Requests (R12) -/

@[simp] theorem post_cmdOut (r : BridgeReq) (s : State) (h : r.kind.owner = .commandEngine) :
    (post r s).path.cmdOut = s.path.cmdOut ++ [r] := by simp [post, setRequests, requests, h]

@[simp] theorem post_evOut (r : BridgeReq) (s : State) (h : r.kind.owner = .eventWriter) :
    (post r s).path.evOut = s.path.evOut ++ [r] := by simp [post, setRequests, requests, h]

@[simp] theorem post_expOut (r : BridgeReq) (s : State) (h : r.kind.owner = .exportEngine) :
    (post r s).path.expOut = s.path.expOut ++ [r] := by simp [post, setRequests, requests, h]

@[simp] theorem post_lifeOut (r : BridgeReq) (s : State) (h : r.kind.owner = .lifeController) :
    (post r s).path.lifeOut = s.path.lifeOut ++ [r] := by simp [post, setRequests, requests, h]

/-- Requests are posted to the owner's list alone (R12). -/
theorem post_other_out (r : BridgeReq) (s : State) :
    (r.kind.owner ≠ .commandEngine → (post r s).path.cmdOut = s.path.cmdOut) ∧
    (r.kind.owner ≠ .eventWriter → (post r s).path.evOut = s.path.evOut) ∧
    (r.kind.owner ≠ .exportEngine → (post r s).path.expOut = s.path.expOut) ∧
    (r.kind.owner ≠ .lifeController → (post r s).path.lifeOut = s.path.lifeOut) := by
  unfold post setRequests
  cases h : r.kind.owner <;> simp

/-! ### The urgent register (R165) -/

/-- With no code pending nothing is accepted (R165). -/
@[simp] theorem acceptUrgent_none {s : State} (h : s.cmd.urgent = none) : acceptUrgent s = s := by
  unfold acceptUrgent; split
  · rfl
  · simp [h]

/-- In LOAD nothing is accepted (R164). -/
theorem acceptUrgent_load {s : State} (h : s.life.phase = .load) : acceptUrgent s = s := by
  simp [acceptUrgent, h]

/-- The end of an engine write: a write still outstanding is waited for, a pending code is accepted, or the engine leaves
BUSY and may fetch (R161, R165, R166). -/
theorem cmdWriteEnded_cases (s : State) :
    (outstanding s .commandEngine = true ∧ cmdWriteEnded s = s) ∨
    (outstanding s .commandEngine = false ∧ s.cmd.urgent.isSome = true ∧ cmdWriteEnded s = acceptUrgent s) ∨
    (outstanding s .commandEngine = false ∧ cmdWriteEnded s = fetchIfDue (leaveBusy s)) := by
  unfold cmdWriteEnded
  cases h : outstanding s .commandEngine
  · by_cases hu : s.cmd.urgent.isSome ∧ s.life.phase ≠ .load ∧ s.cmd.engine ≠ .waitLoad
    · exact .inr (.inl ⟨rfl, hu.1, by simp [hu]⟩)
    · exact .inr (.inr ⟨rfl, by simp [hu]⟩)
  · exact .inl ⟨rfl, by simp⟩

/-! ### A load that ends OK (R70, R90) -/

/-- Every channel is fresh under its new configuration part, or stands as cleared beyond the scanner count (R70). -/
theorem convLoadOk_channel (s : State) {c : Nat} (h : c < 128) :
    (convLoadOk s).conv.channels.get c =
      freshChannel (decide (c / 16 < s.life.params.scannerCount)) (s.conv.channels.get c) := by
  simp [convLoadOk, withChannels, Table.get_mapIdx _ _ h]

/-- Every view is fresh under its new correction and spans, or holds none beyond the view count (R90). -/
theorem viewLoadOk_view (s : State) {v : Nat} (h : v < 16) :
    (viewLoadOk s).view.views.get v = freshView (decide (v < viewCount s)) (s.view.views.get v) := by
  simp [viewLoadOk, Table.get_mapIdx _ _ h]

/-! ### A first load that fails (R88, R117) -/

/-- The clear of a failed first load touches the three table blocks alone (R69, R88, R117). -/
@[simp] theorem clearTables_frame (s : State) :
    (clearTables s).life = s.life ∧ (clearTables s).path = s.path ∧ (clearTables s).intake = s.intake ∧
      (clearTables s).alarm = s.alarm ∧ (clearTables s).hot = s.hot ∧ (clearTables s).cmd = s.cmd ∧
      (clearTables s).ev = s.ev ∧ (clearTables s).exp = s.exp ∧ (clearTables s).pending = s.pending :=
  ⟨rfl, rfl, rfl, rfl, rfl, rfl, rfl, rfl, rfl⟩

/-- After a failed first load the three table blocks stand cleared (R69, R88, R117). -/
@[simp] theorem clearTables_tables (s : State) :
    (clearTables s).conv = Conv.cleared ∧ (clearTables s).view = View.cleared ∧ (clearTables s).map = MapEngine.cleared :=
  ⟨rfl, rfl, rfl⟩

/-! ### The end of a ring entry (R161) -/

/-- A ring command runs its entry and ends it when its record's fetch is on the port (R161). -/
theorem ringEntry_of {entry : State → State} {s : State} (h : onPortKind s .ringFetch) :
    ringEntry entry s = .next (finishEntry (entry (freePort s))) := by
  obtain ⟨r, hk, hp⟩ := h
  rw [ringEntry, complete_of hp (by simp [isKind, hk])]

/-- The entry's end with no urgent code pending moves the head and posts its write (R161). -/
theorem finishEntry_none {s : State} (h : s.cmd.urgent = none) :
    finishEntry s = { s with
      cmd := { s.cmd with head := nextHead s }
      path := { s.path with cmdOut := s.path.cmdOut ++ [nextHeadWrite s] } } := by
  unfold finishEntry
  rw [acceptUrgent_none (by simpa using h)]
  rfl

/-! ### Fetches and urgent codes (R161, R165) -/

/-- A fetch that is due is posted, and the engine is BUSY (R161). -/
theorem fetchIfDue_due {s : State} (he : s.cmd.engine = .ready) (hh : s.cmd.head ≠ s.cmd.tail) (hu : s.cmd.urgent = none)
    (ho : outstanding s .commandEngine = false) : fetchIfDue s = headFetched s := by
  rw [fetchIfDue, if_pos ⟨he, hh, hu, ho⟩]
  rfl

/-- Otherwise nothing is fetched (R161). -/
theorem fetchIfDue_idle {s : State} (h : s.cmd.engine ≠ .ready ∨ s.cmd.head = s.cmd.tail ∨ s.cmd.urgent ≠ none ∨
    outstanding s .commandEngine = true) : fetchIfDue s = s := by
  rw [fetchIfDue, if_neg]
  rintro ⟨he, hh, hu, ho⟩
  rcases h with h | h | h | h
  · exact h he
  · exact hh h
  · exact h hu
  · rw [ho] at h; exact Bool.noConfusion h

/-- In HALT an accepted code is taken and has no effect (R165). -/
theorem acceptUrgent_halt {s : State} {u : Urgent} (hu : s.cmd.urgent = some u) (hp : s.life.phase = .halt) :
    acceptUrgent s = codeAccepted u s := by
  have hc : carryOutUrgent u (withCmd { s.cmd with urgent := none, note := false } s) =
      withCmd { s.cmd with urgent := none, note := false } s := by
    unfold carryOutUrgent
    simp only [withCmd, hp]
  simp only [acceptUrgent, hu, hc, codeAccepted, hp]
  rfl

end Sys2Proof.Machine
end

