-- ==== Sys2Proof/Laws/PerInstr.lean ====
section
/-! SUPPORT. Statements made per command. `RecordTail`: the record that a ring command is encoded as has its last word
zero, as every byte of a record that belongs to no field (R178, R180). -/

namespace Sys2Proof.Laws

/-- Where the command has a record, the record's last word is zero (R180). -/
def RecordTail.Statement (c : Instr) : Prop := ∀ r : CmdRecord, encodeRecord c = some r → r.w3 = 0

/-- A command that no ring record spells has no record. -/
theorem RecordTail.of_none {c : Instr} (h : encodeRecord c = none) : RecordTail.Statement c :=
  fun _ hr => nomatch h.symm.trans hr

/-- A record that `mkRecord` makes has its last word zero. -/
theorem RecordTail.of_mkRecord {c : Instr} {op : Nat} {a b : Byte} {s : W16} {l : W32}
    (h : encodeRecord c = some (mkRecord op a b s l)) : RecordTail.Statement c :=
  fun _ hr => Option.some.inj (h.symm.trans hr) ▸ rfl

theorem RecordTail.powerOn (resetHeld : Bool) : RecordTail.Statement (.powerOn resetHeld) := RecordTail.of_none rfl

theorem RecordTail.resetAssert : RecordTail.Statement .resetAssert := RecordTail.of_none rfl

theorem RecordTail.resetRelease : RecordTail.Statement .resetRelease := RecordTail.of_none rfl

theorem RecordTail.clearEnd (root : BitVec 4) (autoload : Bool) : RecordTail.Statement (.clearEnd root autoload) :=
  RecordTail.of_none rfl

theorem RecordTail.heaterClockTick : RecordTail.Statement .heaterClockTick := RecordTail.of_none rfl

theorem RecordTail.commitAgeAdvance (pass : Fin 8) : RecordTail.Statement (.commitAgeAdvance pass) :=
  RecordTail.of_none rfl

theorem RecordTail.hostAccess (a : HostAccess) : RecordTail.Statement (.hostAccess a) := RecordTail.of_none rfl

theorem RecordTail.memoryPortGrant : RecordTail.Statement .memoryPortGrant := RecordTail.of_none rfl

theorem RecordTail.hostAccessComplete (resp : List BeatResp) : RecordTail.Statement (.hostAccessComplete resp) :=
  RecordTail.of_none rfl

theorem RecordTail.mapRead (d : Drive) : RecordTail.Statement (.mapRead d) := RecordTail.of_none rfl

theorem RecordTail.latchHoldExpiry : RecordTail.Statement .latchHoldExpiry := RecordTail.of_none rfl

theorem RecordTail.mapWrite (d : Drive) : RecordTail.Statement (.mapWrite d) := RecordTail.of_none rfl

theorem RecordTail.mapWriteHoldoffExpiry : RecordTail.Statement .mapWriteHoldoffExpiry := RecordTail.of_none rfl

theorem RecordTail.loadStartValue : RecordTail.Statement .loadStartValue := RecordTail.of_none rfl

theorem RecordTail.loadStopValue : RecordTail.Statement .loadStopValue := RecordTail.of_none rfl

theorem RecordTail.configFetchComplete (reply : FetchReply) : RecordTail.Statement (.configFetchComplete reply) :=
  RecordTail.of_none rfl

theorem RecordTail.resultWordWriteComplete (error : Bool) : RecordTail.Statement (.resultWordWriteComplete error) :=
  RecordTail.of_none rfl

theorem RecordTail.frameSlotWrite (offset : BitVec 10) (beat : Beat) : RecordTail.Statement (.frameSlotWrite offset beat) :=
  RecordTail.of_none rfl

theorem RecordTail.frameTake : RecordTail.Statement .frameTake := RecordTail.of_none rfl

theorem RecordTail.frameConversionComplete : RecordTail.Statement .frameConversionComplete := RecordTail.of_none rfl

theorem RecordTail.freshnessTimerExpiry (scanner : Fin 8) : RecordTail.Statement (.freshnessTimerExpiry scanner) :=
  RecordTail.of_none rfl

theorem RecordTail.lineSlotWrite (offset : BitVec 10) (beat : Beat) : RecordTail.Statement (.lineSlotWrite offset beat) :=
  RecordTail.of_none rfl

theorem RecordTail.lineTake : RecordTail.Statement .lineTake := RecordTail.of_none rfl

theorem RecordTail.lineCompletion : RecordTail.Statement .lineCompletion := RecordTail.of_none rfl

theorem RecordTail.spotRetirement (cell : Fin 512) : RecordTail.Statement (.spotRetirement cell) :=
  RecordTail.of_none rfl

theorem RecordTail.refreshTimerExpiry (pass : Fin 8) : RecordTail.Statement (.refreshTimerExpiry pass) :=
  RecordTail.of_none rfl

theorem RecordTail.recomputeStart : RecordTail.Statement .recomputeStart := RecordTail.of_none rfl

theorem RecordTail.recomputeCompletion : RecordTail.Statement .recomputeCompletion := RecordTail.of_none rfl

theorem RecordTail.lastDirectTimeRetirement (cell : Fin 512) : RecordTail.Statement (.lastDirectTimeRetirement cell) :=
  RecordTail.of_none rfl

theorem RecordTail.rateReferenceRetirement (cell : Fin 512) : RecordTail.Statement (.rateReferenceRetirement cell) :=
  RecordTail.of_none rfl

theorem RecordTail.tailWordWrite (value : W32) : RecordTail.Statement (.tailWordWrite value) := RecordTail.of_none rfl

theorem RecordTail.ringFetchError : RecordTail.Statement .ringFetchError := RecordTail.of_none rfl

theorem RecordTail.unknownOpcode (opcode : Byte) : RecordTail.Statement (.unknownOpcode opcode) :=
  RecordTail.of_mkRecord rfl

theorem RecordTail.headWordWriteComplete (error : Bool) : RecordTail.Statement (.headWordWriteComplete error) :=
  RecordTail.of_none rfl

theorem RecordTail.nop : RecordTail.Statement .nop := RecordTail.of_mkRecord rfl

theorem RecordTail.freeze (mask : Byte) : RecordTail.Statement (.freeze mask) := RecordTail.of_mkRecord rfl

theorem RecordTail.thaw (mask : Byte) : RecordTail.Statement (.thaw mask) := RecordTail.of_mkRecord rfl

theorem RecordTail.setMode (pass mode : Byte) : RecordTail.Statement (.setMode pass mode) :=
  RecordTail.of_mkRecord rfl

theorem RecordTail.forceRefresh (mask : Byte) : RecordTail.Statement (.forceRefresh mask) :=
  RecordTail.of_mkRecord rfl

theorem RecordTail.clearFaults (first last : Byte) : RecordTail.Statement (.clearFaults first last) :=
  RecordTail.of_mkRecord rfl

theorem RecordTail.setOffset (channel : Byte) (value : W16) : RecordTail.Statement (.setOffset channel value) :=
  RecordTail.of_mkRecord rfl

theorem RecordTail.calibrateView (view : Byte) : RecordTail.Statement (.calibrateView view) :=
  RecordTail.of_mkRecord rfl

theorem RecordTail.ack : RecordTail.Statement (.ack cell) := RecordTail.of_mkRecord rfl

theorem RecordTail.ackPass (pass : Byte) : RecordTail.Statement (.ackPass pass) := RecordTail.of_mkRecord rfl

theorem RecordTail.resetExposure (cell : W16) : RecordTail.Statement (.resetExposure cell) :=
  RecordTail.of_mkRecord rfl

theorem RecordTail.exportStart (mask hotFlag : Byte) (list : W32) : RecordTail.Statement (.exportStart mask hotFlag list) :=
  RecordTail.of_mkRecord rfl

theorem RecordTail.reload : RecordTail.Statement .reload := RecordTail.of_mkRecord rfl

theorem RecordTail.lock : RecordTail.Statement .lock := RecordTail.of_mkRecord rfl

theorem RecordTail.urgentCancel : RecordTail.Statement .urgentCancel := RecordTail.of_none rfl

theorem RecordTail.freezeAll : RecordTail.Statement .freezeAll := RecordTail.of_none rfl

theorem RecordTail.thawAll : RecordTail.Statement .thawAll := RecordTail.of_none rfl

theorem RecordTail.abortExport : RecordTail.Statement .abortExport := RecordTail.of_none rfl

theorem RecordTail.urgentUnknown (value : W32) : RecordTail.Statement (.urgentUnknown value) := RecordTail.of_none rfl

theorem RecordTail.urgentAcceptance : RecordTail.Statement .urgentAcceptance := RecordTail.of_none rfl

theorem RecordTail.urgentClearWriteComplete (error : Bool) : RecordTail.Statement (.urgentClearWriteComplete error) :=
  RecordTail.of_none rfl

theorem RecordTail.eventWriterAction : RecordTail.Statement .eventWriterAction := RecordTail.of_none rfl

theorem RecordTail.eventRecordWriteComplete (error : Bool) : RecordTail.Statement (.eventRecordWriteComplete error) :=
  RecordTail.of_none rfl

theorem RecordTail.producerWordWriteComplete (error : Bool) : RecordTail.Statement (.producerWordWriteComplete error) :=
  RecordTail.of_none rfl

theorem RecordTail.consumerWordWrite (value : W32) : RecordTail.Statement (.consumerWordWrite value) :=
  RecordTail.of_none rfl

theorem RecordTail.coalesceTimerExpiry : RecordTail.Statement .coalesceTimerExpiry := RecordTail.of_none rfl

theorem RecordTail.listFetchComplete (reply : FetchReply) : RecordTail.Statement (.listFetchComplete reply) :=
  RecordTail.of_none rfl

theorem RecordTail.streamWriteComplete (error : Bool) : RecordTail.Statement (.streamWriteComplete error) :=
  RecordTail.of_none rfl

end Sys2Proof.Laws
end

