-- ==== Sys2Proof/Tests/Slice0.lean ====
section
/-! SUPPORT. Tests: the ill-formed terms that WellFormed refuses, command records written out from spec 10, worked
figures of the spec, and for each statement with hypotheses a witness that meets them, clause by clause. -/

namespace Sys2Proof.Tests.Slice0

open Sys2Proof Sys2Proof.Machine

/-! ### WellFormed -/

def beat : Beat := ⟨1, 0xF⟩
def readAt (a : W32) : HostAccess := ⟨false, .single a beat⟩
def writeAt (a : W32) : HostAccess := ⟨true, .single a beat⟩

/-- UNKNOWN_OPCODE and URGENT_UNKNOWN carry what no other row names: the last named values are refused, the next are
not. -/
theorem test_wellFormed_refuses_named_codes :
    (Instr.unknownOpcode 0x0D).wellFormed = false ∧ (Instr.unknownOpcode 0x0E).wellFormed = true ∧
      (Instr.urgentUnknown 3).wellFormed = false ∧ (Instr.urgentUnknown 4).wellFormed = true := by decide

/-- An ill-formed term faults. -/
theorem test_illFormed_faults :
    exec (.unknownOpcode 0x0D) State.reset = .fault .noSuchCommand ∧
      exec (.urgentUnknown 3) State.reset = .fault .noSuchCommand := ⟨rfl, rfl⟩

/-! ### Records written out from spec 10 -/

/-- R180: SET MODE of pass 5 to OOS (code 3): bytes 03 05 03. -/
theorem test_decode_setMode : decodeRecord ⟨0x00030503, 0, 0, 0⟩ = .setMode 5 3 := by decide

/-- R180: SET OFFSET of channel 37 to −5: byte 0 is 06, byte 1 is 25, bytes 4 and 5 are FB FF. -/
theorem test_decode_setOffset : decodeRecord ⟨0x00002506, 0x0000FFFB, 0, 0⟩ = .setOffset 37 0xFFFB := by decide

/-- R180: EXPORT of passes 0 and 2 with the hot list from the list at 0x00045670. -/
theorem test_decode_export : decodeRecord ⟨0x0001050B, 0, 0x00045670, 0⟩ = .exportStart 5 1 0x00045670 := by decide

/-- R180, R163: reserved bytes are ignored, and opcode 0x0E names no command. -/
theorem test_decode_nop_and_unknown :
    decodeRecord ⟨0xFFFFFF00, 7, 7, 7⟩ = .nop ∧ decodeRecord ⟨0x0E, 0, 0, 0⟩ = .unknownOpcode 0x0E := by decide

/-! ### Figures the spec works out -/

/-- R1's three examples. -/
theorem test_q : q 408 16 = 26 ∧ q (-408) 16 = -25 ∧ q (-188) 3 = -63 := by decide

/-- The breakpoints of the example curve that spec 04 names. -/
def curve : List Breakpoint := [⟨0, 0⟩, ⟨4096, 1000⟩, ⟨24905, 6000⟩, ⟨29129, 7000⟩, ⟨52410, 13000⟩]

def chan37 : ChannelCfg := ⟨true, 0, 12, 300⟩

/-- Spec 04, Worked case: 12,000 counts with a cold junction of 350 and an offset of 12 give 6137, GOOD. -/
theorem test_conversion_worked :
    judge false 350 ⟨12000, false, false⟩ chan37 curve none = ⟨none, some 6137⟩ := by decide

/-- Spec 04, Further cases: the curve's ends, an inner breakpoint, and the cold junctions that are not valid. -/
theorem test_conversion_further :
    judge false 350 ⟨-300, false, false⟩ ⟨true, 0, -5, 0⟩ curve none = ⟨none, some 199⟩ ∧
      judge false 0 ⟨2048, false, false⟩ ⟨true, 0, 0, 0⟩ curve none = ⟨none, some 1000⟩ ∧
      judge false 350 ⟨-1000, false, false⟩ chan37 curve none = ⟨some .outOfCurve, some 12⟩ ∧
      judge false 350 ⟨30000, false, false⟩ chan37 curve none = ⟨some .outOfCurve, some 13012⟩ ∧
      judge false (-20) ⟨0, false, false⟩ chan37 curve none = ⟨some .cjBad, none⟩ ∧
      judge false 1050 ⟨0, false, false⟩ chan37 curve none = ⟨some .cjBad, none⟩ := by decide

/-- Spec 04, debounce with D = 3, frame 5: 6530 after 6151 is a SPIKE; a difference of the limit itself passes (R57). -/
theorem test_spike : spikeFails 6530 300 (some 6151) = true ∧ spikeFails 6451 300 (some 6151) = false ∧
    spikeFails 6530 0 (some 6151) = false ∧ spikeFails 6530 300 none = false := by decide

/-- Spec 04, debounce with D = 3: frames 3, 5 and 9. -/
theorem test_debounce :
    debounceGood (fullRun 3 true (pushVerdict 3 true [true, true])) 6146 .nodata = (.good, some 6146) ∧
      debounceBad (fullRun 3 false (pushVerdict 3 false [true, true, true])) (some 6151) .good =
        (.suspect, some 6151) ∧
      debounceBad (fullRun 3 false (pushVerdict 3 false [true, false, false])) (some 6542) .suspect =
        (.failed, none) := by decide

/-- Spec 06, one commit of pass 3, positions 9 to 15. -/
def pass3 : PassCfg := { (default : PassCfg) with
  cellCount := 16, weight := 6, disagreeLimit := 150, spanLimit := 4, holdS := 60, maxAgeS := 10 }

def good (t : Int) : Option ChanImage := some ⟨.good, some t, false⟩

def image3 : List CellImage :=
  List.replicate 9 ⟨good 6100, none, none⟩ ++
    [⟨good 6137, none, some ⟨6205, 6240, false, 4000, true⟩⟩,
     ⟨good 6090, some ⟨.suspect, some 6110, false⟩, none⟩,
     ⟨none, none, none⟩,
     ⟨some ⟨.failed, none, false⟩, none, some ⟨6280, 6315, false, 14500, false⟩⟩,
     ⟨none, none, some ⟨6400, 6435, false, 2000, true⟩⟩,
     ⟨good 6380, good 6710, none⟩,
     ⟨some ⟨.stale, none, false⟩, none, none⟩]

def cell207 : Cell := { (default : Cell) with temp := some 6650, source := .tc, lastDirect := some 1220000 }

theorem test_fusion_worked :
    ((List.range 16).drop 9).map (fun k =>
        let d := fuseAt pass3 1259980 image3 k cell207
        (d.temp, d.source, d.disagree)) =
      [(some 6163, .fused, false), (some 6100, .tc, false), (some 6200, .interp, false), (some 6300, .interp, false),
       (some 6400, .pyro, false), (some 6710, .tc, true), (some 6650, .held, false)] := by decide

/-- Spec 06, the pairing decisions of the same commit: cell 201 alone. -/
theorem test_pairing_worked :
    ((List.range 16).drop 9).map (fun k => pairingOf pass3 1259980 (image3.getD k default)) =
      [some ⟨6137, 6240, 1259980⟩, none, none, none, none, none, none] := by decide

/-- R105: the hold of 60 s ends after 1,280,000. -/
theorem test_hold_ends :
    (fuseAt pass3 1280000 image3 15 cell207).source = .held ∧ (fuseAt pass3 1280001 image3 15 cell207).source = .void :=
  by decide

/-- Spec 07, Worked cases: computing a rate. -/
theorem test_rates : rateOf 6163 6050 60000 = 113 ∧ rateOf 6290 6163 75000 = 102 ∧ rateOf 6520 6700 60000 = -180 ∧
    rateOf 15000 (-5000) 10000 = 32767 ∧ rateOf 6160 6100 (elapsed 12704 4294950000) = 120 := by decide

/-- Spec 07, Level decisions on one set of bands: A = 1000, H = 400, hysteresis 100. -/
theorem test_levels :
    [1050, 877, -20, 1101, 450, 501, 1200, -5, 50, 101].map
        (fun m : Int => (levelFor m 1000 400, levelFor (m - 100) 1000 400)) =
      [(.normal, .advise), (.advise, .advise), (.over, .over), (.normal, .normal), (.advise, .high),
       (.advise, .advise), (.normal, .normal), (.over, .over), (.high, .over), (.high, .high)] := by decide

/-- Spec 07, exposure across a freeze: 30 s, then twice 2750 ms, then the cap of 60 s. -/
theorem test_exposure :
    let r0 : AlarmRec := { (default : AlarmRec) with exposureS := 30 }
    let r1 := addExposure 2750 r0
    let r2 := addExposure 2750 r1
    let r3 := addExposure 60000 r2
    (r1.exposureS, r1.exposureMs, r2.exposureS, r2.exposureMs, r3.exposureS, r3.exposureMs) =
      (32, 750, 35, 500, 95, 500) := by decide

/-- R140: the count stays at its end. -/
theorem test_exposure_end :
    addExposure 1000 { (default : AlarmRec) with exposureS := 4294967295 } =
      { (default : AlarmRec) with exposureS := 4294967295, exposureMs := 999 } := by decide

/-! ### A bridge in RUN -/

def cfg : RootCfg :=
  { lockAtLoad := false, threshold := .high, routing := false
    frameBase := 0x10000, lineBase := 0x11000, cmdBase := 0x12000, eventBase := 0x13000, mapBase := 0x14000
    cmdSize := 16, evSize := 16, evThreshold := 15, coalesceMs := 100, freshnessS := 5, classMask := 0
    passCount := 8, scannerCount := 8, viewCount := 16, curveCount := 1, debounce := 3
    passPtr := 0x20000, channelPtr := 0x21000, curvePtr := 0x22000, cellPtr := 0x23000, viewPtr := 0x24000 }

/-- A bridge in RUN with `cfg` in force and empty tables. -/
def run : State :=
  { State.reset with
    life := { State.reset.life with phase := .run, clearLeft := none, powerClearDone := true, lastResult := .ok,
                                    params := cfg, clock := 5000000 }
    path := { State.reset.path with windows := some (windowsOf cfg), extent := ⟨8, List.replicate 8 0, 8, 16⟩ }
    intake := { State.reset.intake with takeOk := true }
    cmd := { State.reset.cmd with engine := .ready }
    ev := { State.reset.ev with ring := some (evRingOf cfg) } }

/-- `s` with a bridge access of kind `k` on the memory port. -/
def onKind (k : ReqKind) (s : State) : State :=
  { s with path := { s.path with memPort := some (.bridge ⟨k, 0, []⟩ false) } }

/-- `s` with a bridge access of kind `k` on the memory port whose completion is to be discarded. -/
def toDiscard (k : ReqKind) (s : State) : State :=
  { s with path := { s.path with memPort := some (.bridge ⟨k, 0, []⟩ true) } }

/-- `s` in another lifephase, with this load in progress. -/
def phased (ph : Phase) (j : Option LoadJob) (s : State) : State := { s with life := { s.life with phase := ph, load := j } }

/-- `s` with this host access waiting at the upstream port. -/
def waiting (a : HostAccess) (s : State) : State := { s with path := { s.path with upstream := some a } }

/-- `s` with its ring fetch on the memory port. -/
def fetched (s : State) : State := onKind .ringFetch { s with cmd := { s.cmd with engine := .busy } }

/-- `s` with these pass states. -/
def passes (f : Nat → Pass) (s : State) : State := { s with map := { s.map with passes := Table.build 8 f } }

theorem onPort_onKind (k : ReqKind) (s : State) : onPortKind (onKind k s) k := ⟨⟨k, 0, []⟩, rfl, rfl⟩

theorem entry_fetched (s : State) (h : s.cmd.urgent = none) : entryFetched (fetched s) := ⟨onPort_onKind _ _, h⟩

theorem cfg_legal : cfg.Legal where
  cmdSize := by decide
  evSize := by decide
  threshold := by decide
  coalesce := by decide
  freshness := by decide
  passes := by decide
  scanners := by decide
  views := by decide
  curves := by decide
  debounce := by decide
  pointers := by simp [cfg]

theorem ring_legal : (evRingOf cfg).Legal := by unfold EvRing.Legal; decide

/-- Root address 0: the five windows and the root record are disjoint. -/
theorem cfg_passed : run.passed cfg := ⟨cfg_legal, show windowsOk 0 cfg = true by decide⟩

/-- A table of defaults reads as the default everywhere. -/
theorem get_fill_default {α : Type} [Inhabited α] (n i : Nat) : (Table.fill n (default : α)).get i = default := by
  by_cases h : i < n
  · exact Table.get_fill _ h
  · exact Table.get_of_le _ (Nat.le_of_not_lt h)

theorem passes_get (x : Pass) (s : State) {p : Nat} (h : p < 8) : (passes (fun _ => x) s).map.passes.get p = x :=
  Table.get_build _ h

theorem run_configured : run.Configured where
  pending := fun _ h => nomatch h
  loading := fun _ h => nomatch h
  inForce := fun _ => cfg_passed
  reloading := fun _ h => nomatch h
  active := fun _ h => (Option.some.inj h).symm
  ring := fun _ h => Option.some.inj h ▸ ring_legal
  adopt := fun _ h => nomatch h
  cells := by decide

/-- `Configured` rests on the Life Controller, the window set, the event rings and the passes alone. -/
theorem configured_of {s t : State} (h : s.Configured) (hl : t.life = s.life) (hw : t.path.windows = s.path.windows)
    (he : t.ev.ring = s.ev.ring) (ha : t.ev.adopt = s.ev.adopt)
    (hm : ∀ p < 8, (t.map.passes.get p).cfg.cellCount ≤ 64 ∧ (t.map.passes.get p).cfg.persistence ≤ 8) :
    t.Configured where
  pending := fun c hc => by have := h.pending c (hl ▸ hc); simpa [State.passed, rootAddr, hl] using this
  loading := hl ▸ h.loading
  inForce := fun hp => by have := h.inForce (hl ▸ hp); simpa [State.passed, rootAddr, hl] using this
  reloading := fun j hj hk => by have := h.reloading j (hl ▸ hj) hk; simpa [State.passed, rootAddr, hl] using this
  active := by rw [hw, hl]; exact h.active
  ring := he ▸ h.ring
  adopt := ha ▸ h.adopt
  cells := hm

theorem run_scheduled : run.Scheduled where
  once := List.nodup_nil
  runnable := fun _ h => nomatch h
  inFlight := fun _ h => nomatch h
  marked := fun _ h => nomatch h

/-- `Scheduled` rests on the Map Engine alone. -/
theorem scheduled_of {s t : State} (h : s.Scheduled) (hm : t.map = s.map) : t.Scheduled where
  once := hm ▸ h.once
  runnable := hm ▸ h.runnable
  inFlight := hm ▸ h.inFlight
  marked := hm ▸ h.marked

/-- HALT under the configuration of `run`. -/
theorem halted_configured : (phased .halt none run).Configured where
  pending := fun _ h => nomatch h
  loading := fun _ h => nomatch h
  inForce := fun _ => cfg_passed
  reloading := fun _ h => nomatch h
  active := fun _ h => (Option.some.inj h).symm
  ring := fun _ h => Option.some.inj h ▸ ring_legal
  adopt := fun _ h => nomatch h
  cells := run_configured.cells

theorem run_phased : run.Phased where
  load := ⟨fun h => Bool.noConfusion h, fun h => Phase.noConfusion h⟩
  pending := fun h => Bool.noConfusion h
  notSample := fun h => nomatch h
  unset := fun h => nomatch h
  set := fun _ => rfl
  first := fun _ h => nomatch h
  reload := fun _ h => nomatch h

/-- `Phased` rests on the Life Controller and the window set alone. -/
theorem phased_of {s t : State} (h : s.Phased) (hl : t.life = s.life) (hw : t.path.windows = s.path.windows) :
    t.Phased where
  load := hl ▸ h.load
  pending := hl ▸ h.pending
  notSample := hl ▸ h.notSample
  unset := by rw [hl, hw]; exact h.unset
  set := by rw [hl, hw]; exact h.set
  first := by rw [hl, hw]; exact h.first
  reload := by rw [hl, hw]; exact h.reload

theorem run_paused : run.Paused := by constructor <;> exact fun h => absurd rfl h

theorem channel_default (c : Nat) : run.conv.channels.get c = default := get_fill_default 128 c

theorem cell_default (c : Nat) : run.map.cells.get c = default := get_fill_default 512 c

theorem rec_default (c : Nat) : run.alarm.recs.get c = default := get_fill_default 512 c

theorem run_bounded : run.Bounded where
  frames := by decide
  lines := by decide
  events := by decide
  lost := by decide
  suppressed := by decide
  fairness := by decide
  refresh := by decide
  inFlight := fun _ h => nomatch h
  hot := by decide
  eligible := by decide
  cmdRing := by decide
  evRing := fun r h => Option.some.inj h ▸ (by decide)
  histories := fun c _ => by rw [channel_default]; decide
  persist := fun c _ => by rw [rec_default]; decide
  exposure := fun c _ => by rw [rec_default]; decide
  ages := fun p _ a h => by
    have hp : run.map.passes.get p = default := get_fill_default 8 p
    rw [hp] at h; exact (nomatch h)

theorem run_inRange : run.InRange where
  cells := fun c _ => by rw [cell_default]; exact ⟨fun _ h => (nomatch h), fun _ => .inl rfl, fun _ => rfl⟩
  parts := fun c _ => by rw [cell_default]; exact ⟨fun _ h => (nomatch h), fun _ h => (nomatch h)⟩
  channels := fun c _ => by
    rw [channel_default]
    exact ⟨fun _ h => (nomatch h), fun _ h => (nomatch h), ⟨fun h => Bool.noConfusion h, fun h => by rcases h with h | h <;> exact (nomatch h)⟩⟩
  spots := fun c hc => by
    have h : run.view.spots.get c = none := Table.get_fill (n := 512) none hc
    rw [h]; exact fun _ h => nomatch h
  pairings := fun c hc => by
    have h : run.view.pairings.get c = none := Table.get_fill (n := 512) none hc
    rw [h]; exact fun _ h => nomatch h
  references := fun c _ => by rw [rec_default]; exact fun _ h => nomatch h
  image := fun _ h => nomatch h

theorem run_almTrue : run.AlmTrue := by
  constructor
  · exact fun h => Bool.noConfusion h
  · rintro ⟨c, -, h⟩
    rw [callsAlm, rec_default] at h
    rcases h with h | h <;> exact Bool.noConfusion h.1

/-- The state that a command leaves; the state itself where it stops. -/
def after (c : Instr) (s : State) : State :=
  match exec c s with
  | .next t => t
  | .fault _ => s
  | .refused _ => s

/-! ### The configuration records written out from spec 10 -/

/-- The root record of `cfg`, word by word. -/
def rootWords : List W32 :=
  [1, 0, 1, 0x00000002, 0x10000, 0x11000, 0x12000, 0x13000, 0x14000, 0x000F0000, 0x00050064, 0, 0x01100808, 3,
    0x20000, 0x21000, 0x22000, 0x23000, 0x24000, 0]

theorem test_root_record : parseRoot rootWords = some cfg ∧ parseRoot (rootWords.set 2 2) = none ∧
    windowsOk 0 { cfg with lineBase := 0x10000 } = false := by decide

/-! ### Points where a reading of the spec shows -/

/-- R164, R166: in LOAD's end with the head word's write of 0 outstanding, a code left pending waits through a refused
urgent value, and is not accepted until that write has ended. -/
theorem test_refused_value_waits_for_the_head_word :
    let s := { run with
      cmd := { run.cmd with urgent := some .freezeAll }
      path := { run.path with cmdOut := [headWrite run] } }
    (after (.urgentUnknown 9) s).cmd.urgent = some .freezeAll ∧ (after (.urgentUnknown 9) s).cmd.note = true := by decide

/-- R88, R117: a first load that fails after a view and a pass have been written leaves both tables cleared. -/
theorem test_failed_first_load_leaves_tables_cleared :
    let s := { State.reset with
      life := { State.reset.life with phase := .load, load := some ⟨.first, .view, 0, [], 1, [], [0]⟩, pendingCfg := some cfg }
      view := { State.reset.view with views := Table.fill 16 ⟨40, [⟨0, 3, 0⟩], none, 0⟩ } }
    (after .loadStopValue s).life.phase = .idle ∧
      ((after .loadStopValue s).view.views.get 3).correction = 0 ∧ ((after .loadStopValue s).view.views.get 3).spans = [] := by
  decide +kernel

/-! ### Witnesses: states and operands that meet the hypotheses of each statement, clause by clause

Each theorem is named after its statement in Certificates/Slice0/Obligations.lean. -/

/-- Both clauses: a queue with a command in front, an empty queue. -/
theorem test_witness_StepRunsFrontCommand :
    { run with pending := [.nop, .lock] }.pending = .nop :: [.lock] ∧ run.pending = [] := ⟨rfl, rfl⟩

theorem test_witness_EveryCommandAnswersAndKeepsTheQueue :
    (Instr.unknownOpcode 0x0E).wellFormed = true ∧ (Instr.unknownOpcode 0x0D).wellFormed = false ∧
      exec .recomputeStart run = .next run := ⟨rfl, rfl, rfl⟩

/-- RESET# held and not; a host access, a bridge access and none on the memory port; a stream write and a ring fetch to be
discarded, with rows that complete them. -/
theorem test_witness_PowerAndResetClearEveryBlock :
    ({ run with life := { run.life with resetHeld := true } }.life.resetHeld = true ∧ run.life.resetHeld = false ∧
      { run with path := { run.path with memPort := some (.host (readAt 0)) } }.path.memPort = some (.host (readAt 0)) ∧
      (onKind .stream run).path.memPort = some (.bridge ⟨.stream, 0, []⟩ false) ∧ run.path.memPort = none) ∧
    (∀ k, (toDiscard k run).path.memPort = some (.bridge ⟨k, 0, []⟩ true)) ∧
      completesKind (.streamWriteComplete true) .stream ∧ completesKind .ringFetchError .ringFetch ∧
      completesKind .lock .ringFetch :=
  ⟨⟨rfl, rfl, rfl, rfl, rfl⟩, fun _ => rfl, ⟨_, rfl⟩, .inl rfl, .inr ⟨rfl, rfl⟩⟩

theorem test_witness_ClearEndAndTheHeaterClock : State.reset.life.phase = .clear ∧ State.reset.life.resetHeld = false ∧
    State.reset.life.clearLeft.isSome = true ∧ run.life.phase ≠ .clear ∧ exec .latchHoldExpiry run = .next run ∧
    Instr.latchHoldExpiry ≠ .resetAssert ∧ Instr.latchHoldExpiry ≠ .heaterClockTick :=
  ⟨rfl, rfl, rfl, by decide, rfl, by decide, by decide⟩

/-- The last address below the map window and the first above it, off their words too; both ends of the window; a host
held; a host access on the memory port. -/
theorem test_witness_HostAccessesPassThrough :
    mapHit run (readAt 0x13FFF).addr = false ∧ mapHit run (readAt 0x18001).addr = false ∧
      mapHit run (readAt 0x14000).addr = true ∧ mapHit run (writeAt 0x17FFF).addr = true ∧ hostHeld run = false ∧
      run.path.windows = some (windowsOf cfg) ∧ hostHeld (waiting (readAt 0) run) = true ∧
      { run with path := { run.path with memPort := some (.host (readAt 0)) } }.path.memPort = some (.host (readAt 0)) := by
  decide

/-- A fairness count of 7 with a bridge request waiting, and of 8 with none; no host, each requester first in turn; a
host held off by a count of 8. -/
theorem test_witness_PortGrantsFollowTheArbiter :
    let r : BridgeReq := ⟨.stream, 0, []⟩
    let s7 := waiting (readAt 0x18000)
      { run with path := { run.path with fairness := 7, evOut := [⟨.eventRecord false, 0, []⟩] } }
    let s8 := waiting (readAt 0x18000) { run with path := { run.path with fairness := 8 } }
    let with' := fun (e c x l : List BridgeReq) =>
      { run with path := { run.path with evOut := e, cmdOut := c, expOut := x, lifeOut := l } }
    (s7.path.memPort = none ∧ s7.path.upstream = some (readAt 0x18000) ∧ mapHit s7 (readAt 0x18000).addr = false ∧
      (readAt 0x18000).write = false ∧ s7.path.fairness < 8 ∧ s8.path.memPort = none ∧
      s8.path.upstream = some (readAt 0x18000) ∧ mapHit s8 (readAt 0x18000).addr = false ∧
      (s8.path.evOut = [] ∧ s8.path.cmdOut = [] ∧ s8.path.expOut = [])) ∧
    (∀ s ∈ [with' [r] [] [] [], with' [] [r] [] [], with' [] [] [r] [], with' [] [] [] [r]],
      s.path.memPort = none ∧ s.path.upstream = none) ∧
    8 ≤ (waiting (readAt 0) { run with path := { run.path with fairness := 8, evOut := [r] } }).path.fairness ∧
    (with' [] [] [] [r]).path.lifeOut = r :: [] := by
  refine ⟨by decide, fun s h => ?_, by decide, rfl⟩
  simp only [List.mem_cons, List.not_mem_nil, or_false] at h
  rcases h with rfl | rfl | rfl | rfl <;> exact ⟨rfl, rfl⟩

def burstAt (block : BitVec 28) : HostAccess := ⟨true, .burst block beat beat beat beat⟩

/-- The bridge as cleared, no window set in force. -/
def cleared : State := State.cleared

theorem cleared_phased : cleared.Phased where
  load := ⟨fun h => Bool.noConfusion h, fun h => Phase.noConfusion h⟩
  pending := fun h => Bool.noConfusion h
  notSample := fun h => nomatch h
  unset := fun _ => rfl
  set := fun h => by rcases h with h | h <;> exact (nomatch h)
  first := fun _ h => nomatch h
  reload := fun _ h => nomatch h

theorem cleared_configured : cleared.Configured where
  pending := fun _ h => nomatch h
  loading := fun _ h => nomatch h
  inForce := fun h => by rcases h with h | h <;> exact (nomatch h)
  reloading := fun _ h => nomatch h
  active := fun _ h => nomatch h
  ring := fun _ h => nomatch h
  adopt := fun _ h => nomatch h
  cells := by decide

/-- The window set of `run`, with both ends of the frame window and the words about the watched ones, and the cleared
bridge without a set; the tail word at 0x12F00 with all four byte enables and with three; the burst whose third beat is
the urgent word, one over words 16 to 19 of frame slot 0, and the start word. -/
theorem test_witness_GrantedWritesAreHandedOver :
    (run.Phased ∧ run.Configured ∧ run.path.windows = some (windowsOf cfg) ∧
      watchOf run 0x12F03 = .tail ∧ watchOf run 0x12F04 = .none ∧ watchOf run 0x12F0B = .urgent ∧
      watchOf run 0x13F04 = .consumer ∧ watchOf run 0x13F00 = .none ∧ watchOf run 0x10000 = .frame 0 ∧
      watchOf run 0x113FF = .line 0x3FF ∧ watchOf run 0xFFFF = .none ∧ watchOf run 3 = .start) ∧
    (cleared.Phased ∧ cleared.Configured ∧ cleared.path.windows = none) ∧
    (waiting (writeAt 0x12F00) run).Phased ∧
    (let s := waiting (writeAt 0x12F00) run;
      s.path.memPort = none ∧ s.path.fairness < 8 ∧ s.path.upstream = some ⟨true, .single 0x12F00 beat⟩ ∧
        mapHit s 0x12F00 = false ∧ handedAs (watchOf s 0x12F00) beat = [.tailWordWrite 1] ∧
        handedAs (watchOf s 0x12F00) ⟨1, 0x7⟩ = [] ∧ handedAs (watchOf s 0x12F08) ⟨9, 0xF⟩ = [.urgentUnknown 9] ∧
        handedAs (watchOf s 0) ⟨2, 0xF⟩ = [.loadStopValue] ∧ handedAs (watchOf s 0) ⟨3, 0xF⟩ = []) ∧
    (let s := waiting (burstAt 0x1004) run;
      s.path.upstream = some ⟨true, .burst 0x1004 beat beat beat beat⟩ ∧ mapHit s (0x1004#28 ++ 0#4) = false ∧
        watchOf s ((0x1004#28 ++ 0#4) + 4) = .frame 0x44 ∧ watchOf s ((0x12F0#28 ++ 0#4) + 8) = .urgent) :=
  ⟨⟨run_phased, run_configured, by decide⟩, ⟨cleared_phased, cleared_configured, rfl⟩, phased_of run_phased rfl rfl,
    by decide, by decide⟩

/-- First words at both ends of the record areas; a later word with the latch on that record, on another, and empty;
a zero region; the last block of the window for a burst. -/
theorem test_witness_MapReadsFollowTheLatch :
    mapHit run 0x14000 = true ∧ hostHeld run = false ∧ recordAt (mapOffset run 0x14000) = some (.status, 0) ∧
      recordAt (mapOffset run 0x16FF0) = some (.cellRec 511, 0) ∧ mapHit run 0x17FFC = true ∧
      recordAt (mapOffset run 0x16FFC) = some (.cellRec 511, 2 + 1) ∧
      { run with path := { run.path with latch := some ⟨.cellRec 511, [1, 2, 3, 4], 100⟩ } }.path.latch =
        some ⟨.cellRec 511, [1, 2, 3, 4], 100⟩ ∧
      run.path.latch = none ∧ recordAt (mapOffset run 0x17000) = none ∧ recordAt (mapOffset run 0x141C0) = none ∧
      mapHit run (0x17FF#28 ++ 0#4) = true ∧ mapHit run ((0x17FF#28 ++ 0#4) + 12) = true := by
  decide

/-- The first pass, cell, channel and view outside the extent of `run`, whose passes have no cells; the ends of the zero
regions. -/
theorem test_witness_MapWindowLayout :
    run.path.extent.passCount ≤ 8 ∧ run.path.extent.cellCounts.getD (511 / 64) 0 ≤ 511 % 64 ∧
      run.path.extent.passCount ≤ 512 / 64 ∧ run.path.extent.scannerCount ≤ 128 / 16 ∧ run.path.extent.viewCount ≤ 16 ∧
      (0x1C0 ≤ 0x1FF ∧ 0x1FF < 0x200) ∧ (0x280 ≤ 0x7FF ∧ 0x7FF < 0x800) ∧ 0x3000 ≤ 0x3000 := by decide

/-- `run` with passes of 64 cells in its extent. -/
def extended : State := { run with path := { run.path with extent := ⟨8, List.replicate 8 64, 8, 16⟩ } }

/-- The last cell, channel and view; a history that ends in two good verdicts after a bad one, and an empty one. -/
theorem test_witness_CellChannelAndViewRecords :
    511 / 64 < extended.path.extent.passCount ∧ 511 % 64 < extended.path.extent.cellCounts.getD (511 / 64) 0 ∧
      127 / 16 < extended.path.extent.scannerCount ∧ [true, false, true, true] = [true, false] ++ List.replicate 2 true ∧
      [true, false].getLast? ≠ some true ∧ ([] : List Bool) = [] ++ List.replicate 0 false ∧
      ([] : List Bool).getLast? ≠ some false ∧ 15 < extended.path.extent.viewCount ∧
      (extended.view.views.get 15).spans.length ≤ 16 := by decide

/-- Rank 0 held by cell 511 and rank 1 by none; a pass of 64 cells, with no margin and with one; the bounds of the status
record. -/
theorem test_witness_HotListHeaderAndStatusRecords :
    let s := { extended with hot := ⟨[⟨511, -20, .over, .tc⟩], 1⟩ }
    (s.hot.list[0]? = some ⟨511, -20, .over, .tc⟩ ∧ s.hot.list[1]? = none) ∧
      (7 < s.path.extent.passCount ∧ s.path.extent.cellCounts.getD 7 0 ≤ 64) ∧
      (∀ c, (extended.alarm.recs.get c).margin = none) ∧ run.Bounded ∧ run.life.params.cmdSize = 16 ∧
      (∀ r, run.ev.ring = some r → r.size ≤ 256) ∧ run.ev.ring.isSome = true :=
  ⟨by decide, by decide, fun c => congrArg AlarmRec.margin (rec_default c), run_bounded, rfl,
    fun r h => Option.some.inj h ▸ (by decide), rfl⟩

/-- The holdoff timer stopped and running, due at its length and not a millisecond before. -/
theorem test_witness_MapWritesReachNoMemoryAndTimersRunOut :
    let tm : Timer := ⟨4999000, 1000⟩
    let tn : Timer := ⟨4999001, 1000⟩
    mapHit run (Drive.single 0x14000 beat).addr = true ∧ hostHeld run = false ∧ run.path.holdoff = none ∧
      { run with path := { run.path with holdoff := some tm } }.path.holdoff = some tm ∧
      tm.len ≤ (run.life.clock - tm.start).toNat ∧ (run.life.clock - tn.start).toNat < tn.len := by decide

theorem test_witness_StartValueBeginsALoad :
    (phased .idle none run).life.phase = .idle ∧ run.life.phase = .run ∧ State.reset.life.phase = .clear ∧
      (phased .halt none run).life.phase = .halt ∧ run.life.lock = false ∧
      (phased .halt none { run with life := { run.life with lock := true } }).life.lock = true := by decide

def rootJob (kind : LoadKind) : LoadJob := ⟨kind, .root, 0x10, [], 0, [], []⟩

theorem test_witness_StopValueEndsTheLoad :
    (phased .load (some (rootJob .first)) run).life.phase = .load ∧
      (phased .load (some (rootJob .reload)) run).life.load = some (rootJob .reload) ∧
      (onKind .configFetch run).path.memPort = some (.bridge ⟨.configFetch, 0, []⟩ false) := ⟨rfl, rfl, rfl⟩

/-- A root with 12 words fetched; one with 16 whose last burst completes `cfg`, completes a version 2, or completes two
frame windows on one base. -/
theorem test_witness_FetchesFeedOrEndTheLoad :
    let j : LoadJob := { rootJob .first with words := rootWords.take 12 }
    let k := fun ws : List W32 => { rootJob .reload with words := ws.take 16 }
    onPortKind (onKind .configFetch (phased .load (some j) run)) .configFetch ∧ j.stage = .root ∧ j.words.length < 16 ∧
      (k rootWords).words.length = 16 ∧ parseRoot ((k rootWords).words ++ [0x22000, 0x23000, 0x24000, 0]) = some cfg ∧
      windowsOk (run.life.rootStrap.toNat * 0x10000) cfg = true ∧
      parseRoot ((k (rootWords.set 2 2)).words ++ [0x22000, 0x23000, 0x24000, 0]) = none ∧
      (∃ c, parseRoot ((k (rootWords.set 5 0x10000)).words ++ [0x22000, 0x23000, 0x24000, 0]) = some c ∧
        windowsOk (run.life.rootStrap.toNat * 0x10000) c = false) ∧
      onPortKind (onKind .resultWord run) .resultWord :=
  ⟨onPort_onKind _ _, rfl, by decide, by decide, by decide, by decide, by decide,
    ⟨{ cfg with lineBase := 0x10000 }, by decide, by decide⟩, onPort_onKind _ _⟩

/-- A pass record by the table of R183: 4 cells, mode DECOKE, weight 8, span 4; 250 ms, 10 s; 10 tenths/min, 5 s; 100, 2 s;
A 3000, H 1000; hysteresis 20, P 2; decoke limit 8000. -/
def passWords : List W32 := [0x04080204, 0x000A00FA, 0x0005000A, 0x00020064, 0x03E80BB8, 0x00020014, 0x00001F40, 0]

/-- R183: each field of the pass record lands in its value. -/
theorem test_pass_record : parsePass passWords = some
    { cellCount := 4, initialMode := .decoke, weight := 8, spanLimit := 4, refreshMs := 250, rateWindowS := 10,
      rateLimit := 10, maxAgeS := 5, disagreeLimit := 100, holdS := 2, advisory := 3000, high := 1000, hysteresis := 20,
      persistence := 2, decokeLimit := 8000 } := by decide

/-- A root record and a pass record with every field in its range, the first also with a threshold N at the ring size
and the second with H above A; a channel record not in use; in use with an offset of −501, with −500 and a curve id at
the curve count, and with the last curve id; a curve of two points that increase, and of two that do not. -/
theorem test_witness_RootPassChannelAndCurveChecks :
    (let f : Nat → Nat → Nat → Nat := fun i lo width => ((rootWords.getD i 0).toNat / 2 ^ lo) % 2 ^ width;
      rootWords.getD 2 0 = 1 ∧ f 3 1 2 ≤ 2 ∧ f 9 0 8 ≤ 1 ∧ f 9 8 8 ≤ 2 ∧ 1 ≤ f 9 16 16 ∧
        f 9 16 16 < [16, 64, 256].getD (f 9 8 8) 0 ∧ 1 ≤ f 10 0 16 ∧ f 10 0 16 ≤ 1000 ∧ 1 ≤ f 10 16 8 ∧ f 10 16 8 ≤ 60 ∧
        1 ≤ f 12 0 8 ∧ f 12 0 8 ≤ 8 ∧ 1 ≤ f 12 8 8 ∧ f 12 8 8 ≤ 8 ∧ f 12 16 8 ≤ 16 ∧ 1 ≤ f 12 24 8 ∧ f 12 24 8 ≤ 4 ∧
        1 ≤ f 13 0 8 ∧ f 13 0 8 ≤ 8 ∧ ∀ i < 19, 14 ≤ i → (rootWords.getD i 0).toNat % 16 = 0) ∧
    ¬((rootWords.set 9 0x00100000).getD 9 0).toNat / 2 ^ 16 % 2 ^ 16 < [16, 64, 256].getD 0 0 ∧
    (let f : Nat → Nat → Nat → Nat := fun i lo width => ((passWords.getD i 0).toNat / 2 ^ lo) % 2 ^ width;
      1 ≤ f 0 0 8 ∧ f 0 0 8 ≤ 64 ∧ f 0 8 8 ≤ 3 ∧ f 0 16 8 ≤ 16 ∧ 2 ≤ f 0 24 8 ∧ f 0 24 8 ≤ 8 ∧
        250 ≤ f 1 0 16 ∧ f 1 0 16 ≤ 60000 ∧ 10 ≤ f 1 16 16 ∧ f 1 16 16 ≤ 600 ∧
        1 ≤ f 2 0 16 ∧ f 2 0 16 ≤ 2000 ∧ 1 ≤ f 2 16 16 ∧ f 2 16 16 ≤ 600 ∧
        f 3 0 16 ≤ 2000 ∧ 1 ≤ f 3 16 16 ∧ f 3 16 16 ≤ 3600 ∧
        f 4 0 16 ≤ 3000 ∧ f 4 16 16 ≤ f 4 0 16 ∧ f 5 0 16 ≤ 500 ∧ 1 ≤ f 5 16 8 ∧ f 5 16 8 ≤ 8 ∧ f 6 0 16 ≤ 15000) ∧
    parsePass (passWords.set 4 0x000A0009) = none ∧
    (0xFE0C0000#32).getLsbD 0 = false ∧ (0xFE0B0001#32).getLsbD 0 = true ∧
      ((0xFE0B0001#32).extractLsb' 16 16).toInt < -500 ∧ -500 ≤ ((0xFE0C0101#32).extractLsb' 16 16).toInt ∧
      1 ≤ (0xFE0C0101#32).toNat / 2 ^ 8 % 2 ^ 8 ∧ (0xFE0C0001#32).toNat / 2 ^ 8 % 2 ^ 8 < 1 ∧
      parseCurve [2, 0, 0, 0, 4096, 1000] = .ok [⟨0, 0⟩, ⟨4096, 1000⟩] ∧
      parseCurve [2, 0, 0, 1000, 4096, 1000] = .bad .badCurve := by
  refine ⟨by decide, by decide, by decide, by decide, by decide, by decide, by decide, by decide, by decide, by decide,
    rfl, rfl⟩

/-- A load of this stage and these words, the configuration `c` pending, its fetch on the port. -/
def loading (st : Stage) (index : Nat) (ws : List W32) (c : RootCfg) (s : State) : State :=
  onKind .configFetch { s with
    life := { s.life with phase := .load, load := some ⟨.reload, st, 0x30010, ws, index, [], []⟩, pendingCfg := some c } }

def cfg1 : RootCfg := { cfg with passCount := 1, viewCount := 0 }

/-- `run` paused, with passes of this many cells. -/
def pausedRun (cells : Nat) : State :=
  passes (fun _ => { (default : Pass) with cfg := { (default : PassCfg) with cellCount := cells } })
    { run with intake := { run.intake with takeOk := false } }

theorem cfg1_passed (s : State) (h : s.life.rootStrap = 0) : s.passed cfg1 := by
  refine ⟨⟨.inl rfl, .inl rfl, cfg_legal.threshold, cfg_legal.coalesce, cfg_legal.freshness, by decide, cfg_legal.scanners,
    by decide, cfg_legal.curves, cfg_legal.debounce, cfg_legal.pointers⟩, ?_⟩
  rw [rootAddr, h]
  show windowsOk 0 cfg1 = true
  decide

/-- A configuration that passed its root checks, its later records arriving. -/
theorem loading_configured {c : RootCfg} (st : Stage) (index : Nat) (ws : List W32) {cells : Nat} (h : cells ≤ 64)
    (hc : run.passed c) : (loading st index ws c (pausedRun cells)).Configured where
  pending := fun x hx => by cases hx; exact hc
  loading := fun _ _ _ => rfl
  inForce := fun h => by rcases h with h | h <;> exact (nomatch h)
  reloading := fun _ _ _ => cfg_passed
  active := fun _ h => (Option.some.inj h).symm
  ring := fun _ h => Option.some.inj h ▸ ring_legal
  adopt := fun _ h => nomatch h
  cells := fun p hp => by
    have hx : (loading st index ws c (pausedRun cells)).map.passes.get p = _ := passes_get _ _ hp
    rw [hx]; exact ⟨h, Nat.zero_le 8⟩

/-- Cell records: a limit of 15,001; one channel twice; no channel. View records: 17 spans; a span of pixel 64; a span that
ends before it begins; spans of one cell. -/
theorem test_witness_CellAndViewChecksAndTableWrites :
    15000 < (0x3A99FFFF#32).toNat / 65536 ∧
      parseCell 128 (fun _ => true) [] 0x3A980303 = .bad .badReference ∧
      parseCell 128 (fun _ => true) [] 0x3A98FFFF = .ok ⟨none, none, 15000⟩ ∧
      16 < (0x00110000#32).toNat / 65536 % 256 ∧
      parseView (fun _ => true) [] [0x00010000, 0x00004000] = .bad .badFormat ∧
      parseView (fun _ => true) [] [0x00010000, 0x00000203] = .bad .badFormat ∧
      parseView (fun _ => true) [] [0x00020000, 0x00000100, 0x00000202] = .bad .badReference ∧
      (∀ st i ws c s, onPortKind (loading st i ws c s) .configFetch) := by
  refine ⟨by decide, rfl, rfl, by decide, rfl, rfl, rfl, fun _ _ _ _ _ => onPort_onKind _ _⟩

/-- Words that complete no record: half a pass record, a curve of two points and a view of four spans, one burst each. The
last pass record and the one before it, a good one and one with H above A. Channel records, the last pair of the table and
the pair before it: both good, the second bad, the first bad. A curve of two points with two words of the next curve
behind it, the last one and one of two, and one that does not increase. A view of three spans with one to come and
nothing behind it, one without spans with an incomplete one behind it, and one with a correction of 1001. -/
theorem test_witness_TableWrites :
    ((passWords.take 4).length < 8 ∧ [2, 0, 0, 0].length < 2 + 2 * (2#32).toNat % 256 ∧
      [0x00040000, 0, 0, 0].length < 1 + (0x00040000#32).toNat / 65536 % 256) ∧
    ((passWords.take 4 ++ passWords.drop 4).length = 8 ∧ (parsePass (passWords.take 4 ++ passWords.drop 4)).isSome = true ∧
      parsePass (passWords.set 4 0x000A0009) = none ∧ ¬7 + 1 < cfg.passCount ∧ 6 + 1 < cfg.passCount) ∧
    (126 + 1 < cfg.scannerCount * 16 ∧ ¬126 + 2 < cfg.scannerCount * 16 ∧ 124 + 2 < cfg.scannerCount * 16 ∧
      parseChannel cfg.curveCount [1, 0] = .ok ⟨true, 0, 0, 0⟩ ∧
      parseChannel cfg.curveCount [0x101, 0] = .bad .badReference) ∧
    ([2, 0].length < 2 + 2 * (2#32).toNat % 256 ∧ ¬0 + 1 < cfg.curveCount ∧ 0 + 1 < { cfg with curveCount := 2 }.curveCount ∧
      parseCurve ([2, 0, 0, 0, 4096, 1000, 2, 0].take 6) = .ok [⟨0, 0⟩, ⟨4096, 1000⟩] ∧
      parseCurve ([2, 0, 0, 1000, 4096, 1000, 2, 0].take 6) = .bad .badCurve) ∧
    (14 + 1 < cfg.viewCount ∧
      parseView (cellConfigured cfg (loading .view 14 [] cfg (pausedRun 5))) [] [0x00030000, 0, 0x00010101, 0x00020202] =
        .ok (0, [⟨0, 0, 0⟩, ⟨1, 1, 1⟩, ⟨2, 2, 2⟩]) ∧
      parseView (cellConfigured cfg (loading .view 14 [] cfg (pausedRun 5))) [] ([0, 0x00040000, 0, 0].take 1) = .ok (0, []) ∧
      [0x00040000, 0, 0].length < 1 + (0x00040000#32).toNat / 65536 % 256 ∧
      parseView (cellConfigured cfg (loading .view 14 [] cfg (pausedRun 5))) [] ([1001, 0, 0, 0].take 1) = .bad .badFormat) := by
  refine ⟨by decide, by decide, ⟨by decide, by decide, by decide, rfl, rfl⟩, ⟨by decide, by decide, by decide, rfl, rfl⟩,
    ⟨by decide, rfl, rfl, by decide, rfl⟩⟩

/-- A pass of five cells: its first four records with the fifth to come; its fifth with views to come; a limit of 15,001 in
the first record of a burst, and in the third. -/
theorem test_witness_CellTableWrites :
    let s := loading .cell 0 [] cfg1 (pausedRun 5)
    let x : CellCfg := ⟨none, none, 7040⟩
    let parse := parseCell (cfg1.scannerCount * 16) (fun n => (s.conv.channels.get n).cfg.inUse) []
    s.Configured ∧ (loading .cell 4 [] { cfg1 with viewCount := 16 } (pausedRun 5)).Configured ∧
      0 + [x, x, x, x].length < (configuredCells cfg1 s).length ∧
      4 + [x].length = (configuredCells { cfg1 with viewCount := 16 } s).length ∧
      parse 0x1B80FFFF = .ok x ∧ parse 0x3A99FFFF = .bad .badFormat ∧
      0 + [x, x].length < (configuredCells cfg1 s).length := by
  refine ⟨loading_configured _ _ _ (by decide) (cfg1_passed _ rfl), loading_configured _ _ _ (by decide) ⟨?_, ?_⟩,
    by decide, rfl, rfl, rfl, by decide⟩
  · exact { cfg_legal with passes := by decide }
  · exact (cfg1_passed run rfl).2

/-- R22: of four cell records the third fails: the first two are written, the cells behind them are not. -/
theorem test_cells_are_written_one_by_one :
    let t := after (.configFetchComplete (.words 0x1B80FFFF 0x1B81FFFF 0x3A99FFFF 0x1B83FFFF))
      (loading .cell 0 [] cfg1 (pausedRun 5))
    ([0, 1, 2, 3].map fun i => (t.map.cells.get i).cfg.limit) = [7040, 7041, 0, 0] ∧ t.life.lastResult = .badFormat := by
  decide +kernel

/-- Passes of one cell and of four and no views, cell records with no channels and a metal limit of 7040: the last one as
the first word of a burst, and as the fourth. The last view record, without spans, alone and behind another. -/
theorem test_witness_LastRecordEndsTheLoad :
    let one := loading .cell 0 [] cfg1 (pausedRun 1)
    let four := loading .cell 0 [] cfg1 (pausedRun 4)
    let x : CellCfg := ⟨none, none, 7040⟩
    (onPortKind one .configFetch ∧ one.life.pendingCfg = some cfg1 ∧ one.Configured ∧ cfg1.viewCount = 0 ∧
      0 + [x].length = (configuredCells cfg1 one).length ∧ 0 + [x, x, x, x].length = (configuredCells cfg1 four).length ∧
      parseCell (cfg1.scannerCount * 16) (fun n => (four.conv.channels.get n).cfg.inUse) [] 0x1B80FFFF = .ok x) ∧
    (15 + [((0 : Int), ([] : List Span))].length = cfg.viewCount ∧
      14 + [((0 : Int), ([] : List Span)), (0, [])].length = cfg.viewCount ∧
      parseView (cellConfigured cfg one) [] ([0, 0, 0, 0].take 1) = .ok (0, []) ∧
      parseView (cellConfigured cfg one) [] (([0, 0, 0, 0].drop 1).take 1) = .ok (0, []) ∧
      (loading .view 15 [] cfg (pausedRun 1)).Configured) :=
  ⟨⟨onPort_onKind _ _, rfl, loading_configured _ _ _ (by decide) (cfg1_passed _ rfl), rfl, rfl, rfl, rfl⟩, rfl, rfl, rfl, rfl,
    loading_configured _ _ _ (by decide) cfg_passed⟩

theorem loading_phased (st : Stage) (index : Nat) (ws : List W32) (c : RootCfg) (cells : Nat) :
    (loading st index ws c (pausedRun cells)).Phased :=
  ⟨⟨fun _ => rfl, fun _ => rfl⟩, fun _ => rfl, fun h => (nomatch h),
    fun h => by rcases h with h | h <;> exact (nomatch h), fun h => by rcases h with h | h <;> exact (nomatch h),
    fun j h hk => by cases h; exact (nomatch hk), fun _ _ _ => rfl⟩

theorem loading_paused (st : Stage) (index : Nat) (ws : List W32) (c : RootCfg) (cells : Nat) :
    (loading st index ws c (pausedRun cells)).Paused :=
  ⟨fun _ => rfl, fun _ => rfl, fun _ => rfl, fun _ => rfl, fun _ => rfl, fun _ => rfl, fun _ => rfl,
    fun _ _ hp => congrArg Pass.timer (passes_get _ _ hp), fun _ => rfl⟩

/-- The load of one pass of one cell whose last record arrives, and a load whose last two views arrive. -/
theorem test_witness_LoadEndAdoptsTheConfiguration :
    let ends := fun (c : RootCfg) (ci : Instr) (s : State) =>
      s.Phased ∧ s.Configured ∧ s.Paused ∧ onPortKind s .configFetch ∧ s.life.pendingCfg = some c ∧
        exec ci s = .next (after ci s) ∧ (after ci s).life.load = none ∧ (after ci s).life.lastResult = .ok
    ends cfg1 (.configFetchComplete (.words 0x1B80FFFF 0 0 0)) (loading .cell 0 [] cfg1 (pausedRun 1)) ∧
      ends cfg (.configFetchComplete (.words 0 0 0 0)) (loading .view 14 [] cfg (pausedRun 4)) :=
  ⟨⟨loading_phased _ _ _ _ _, loading_configured _ _ _ (by decide) (cfg1_passed _ rfl), loading_paused _ _ _ _ _,
      onPort_onKind _ _, rfl, rfl, by decide +kernel⟩,
    ⟨loading_phased _ _ _ _ _, loading_configured _ _ _ (by decide) cfg_passed, loading_paused _ _ _ _ _,
      onPort_onKind _ _, rfl, rfl, by decide +kernel⟩⟩

/-- A reload stopped by the stop value. -/
theorem test_witness_FailedReloadHolds :
    let s := phased .load (some (rootJob .reload)) run
    s.life.phase = .load ∧ s.life.load = some (rootJob .reload) ∧ exec .loadStopValue s = .next (after .loadStopValue s) ∧
      (after .loadStopValue s).life.phase = .halt := ⟨rfl, rfl, rfl, by decide +kernel⟩

def lockedRun : State := { run with life := { run.life with lock := true } }

theorem test_witness_LockedConfigurationIsKept :
    lockedRun.Phased ∧ lockedRun.Locked ∧ lockedRun.life.lock = true ∧
      exec .recomputeStart lockedRun = .next lockedRun :=
  ⟨⟨run_phased.load, run_phased.pending, run_phased.notSample, run_phased.unset, run_phased.set, run_phased.first,
    run_phased.reload⟩, fun _ => .inl rfl, rfl, rfl⟩

/-- Word 16, word 17 without lane 3 and word 18 of frame slot 7; word 31, word 32 without lane 3 and word 33 of line
slot 3. -/
theorem test_witness_SlotBeatsMergeByLane :
    run.life.phase = .run ∧ run.path.windows.isSome = true ∧
      (0x3C0#10).toNat % 128 / 4 < 17 ∧ (0x3C4#10).toNat % 128 / 4 = 17 ∧ (0x7#4).getLsbD 3 = false ∧
      17 < (0x3C8#10).toNat % 128 / 4 ∧ (0x37C#10).toNat % 256 / 4 < 32 ∧ (0x380#10).toNat % 256 / 4 = 32 ∧
      32 < (0x384#10).toNat % 256 / 4 := by decide

/-- `run` with `k` words missing in each slot and this many frames and lines queued. -/
def slotted (captured : Bool) (frames lines : Nat) : State :=
  { run with
    intake := { run.intake with
      slots := Table.fill 8 ⟨Table.fill 18 0, Table.fill 18 captured⟩
      queue := List.replicate frames (frameOf (Slot.empty 18)) }
    view := { run.view with
      slots := Table.fill 4 ⟨Table.fill 33 0, Table.fill 33 captured⟩
      queue := List.replicate lines (lineOf (Slot.empty 33)) } }

/-- Every earlier word captured, with one place left in the queues and with none; no word captured; the words of the slot
with the last one merged in. -/
theorem test_witness_CompletedSlotsAreQueuedOrReported :
    let s := slotted true 31 7
    let f := slotted true 32 8
    let e := slotted false 0 0
    let lacks := fun x : State => (List.range 17).filter fun w => !(x.intake.slots.getD 0 (Slot.empty 18)).captured.get w
    let lacksLine := fun x : State => (List.range 32).filter fun w => !(x.view.slots.getD 0 (Slot.empty 33)).captured.get w
    let word := fun last w : Nat => if w = last then (1#32) else 0
    (s.life.phase = .run ∧ beat.be.getLsbD 3 = true ∧ (0x44#10).toNat % 128 / 4 = 17 ∧ (0x80#10).toNat % 256 / 4 = 32) ∧
      (lacks s = [] ∧ s.intake.queue.length < 32 ∧ lacksLine s = [] ∧ s.view.queue.length < 8) ∧
      (lacks f = [] ∧ 32 ≤ f.intake.queue.length ∧ lacksLine f = [] ∧ 8 ≤ f.view.queue.length) ∧
      (lacks e = 0 :: (List.range 17).tail ∧ lacksLine e = 0 :: (List.range 32).tail) ∧
      (let slot := s.intake.slots.getD 0 (Slot.empty 18);
        (∀ w < 17, word 17 w = slot.words.get w) ∧ ∀ lane < 4, (word 17 17).extractLsb' (8 * lane) 8 =
          (if beat.be.getLsbD lane then beat.data else slot.words.get 17).extractLsb' (8 * lane) 8) ∧
      (let slot := s.view.slots.getD 0 (Slot.empty 33);
        (∀ w < 32, word 32 w = slot.words.get w) ∧ ∀ lane < 4, (word 32 32).extractLsb' (8 * lane) 8 =
          (if beat.be.getLsbD lane then beat.data else slot.words.get 32).extractLsb' (8 * lane) 8) := by decide

def frame (scanner seq : Byte) : Frame := { frameOf (Slot.empty 18) with scanner := scanner, seq := seq }

/-- `run` with this frame at the head of its queue and this sequence remembered for every scanner. -/
def queued (f : Frame) (m : Option Byte) : State :=
  { run with intake := { run.intake with queue := [f], scanners := Table.fill 8 ⟨m, none, false⟩ } }

/-- In order across the wrap, none remembered, no configured scanner, a duplicate, a gap. -/
theorem test_witness_FramesAreTakenInTurn :
    (queued (frame 7 0) (some 255)).life.phase = .run ∧ (queued (frame 7 0) (some 255)).conv.inHand = none ∧
      (queued (frame 7 0) (some 255)).intake.queue = frame 7 0 :: [] ∧
      (frame 7 0).scanner.toNat < run.life.params.scannerCount ∧
      ((queued (frame 7 0) (some 255)).intake.scanners.get 7).remembered = some ((frame 7 0).seq - 1) ∧
      ((queued (frame 7 0) none).intake.scanners.get 7).remembered = none ∧
      run.life.params.scannerCount ≤ (frame 8 0).scanner.toNat ∧
      ((queued (frame 7 9) (some 9)).intake.scanners.get 7).remembered = some (frame 7 9).seq ∧
      ((queued (frame 7 9) (some 10)).intake.scanners.get 7).remembered ≠ some (frame 7 9).seq ∧
      (frame 7 9).seq ≠ 10 + 1 := by decide

/-- A frame in hand with some channels captured in use and others not. -/
theorem test_witness_ConversionMovesEveryChannel :
    let job : FrameJob := ⟨frame 7 0, Table.build 16 fun i => { (default : ChannelCfg) with inUse := decide (i < 8) }⟩
    { run with conv := { run.conv with inHand := some job } }.conv.inHand = some job ∧ job.frame.scanner.toNat < 8 ∧
      (job.cfgs.get 0).inUse = true ∧ (job.cfgs.get 15).inUse = false :=
  ⟨rfl, by decide, by decide, by decide⟩

/-- The example curve; a junction at the last temperature and above it; an emf at the first, at the last and beyond; a
spike limit exceeded and one met. -/
theorem test_witness_VerdictsFollowTheirOrder :
    increasing curve = true ∧ curve.head? = some ⟨0, 0⟩ ∧ curve.getLast? = some ⟨52410, 13000⟩ ∧
      curve[1]? = some ⟨4096, 1000⟩ ∧ curve[1 + 1]? = some ⟨24905, 6000⟩ ∧ (1000 : Int) ≤ 1000 ∧ ¬((1001 : Int) ≤ 1000) ∧
      (52411 : Int) > 52410 ∧ (300 : Int) < |6530 - 6151| ∧ ¬((300 : Int) < |6451 - 6151|) := by decide

/-- Due at the length of the timer, not due a millisecond before. -/
theorem test_witness_SilentScannersChannelsGoStale :
    let tm : Timer := ⟨4995000, 5000⟩
    let tn : Timer := ⟨4995001, 5000⟩
    let s := { run with intake := { run.intake with scanners := Table.fill 8 ⟨some 1, some tm, false⟩ } }
    (s.intake.scanners.get 7).timer = some tm ∧ tm.len ≤ (s.life.clock - tm.start).toNat ∧
      (s.life.clock - tn.start).toNat < tn.len := by decide

def line (view seq : Byte) (fault : Bool) : Line :=
  { lineOf (Slot.empty 33) with view := view, seq := seq, fault := fault }

/-- The first view that is not configured, a repeated sequence, a fault flag, a line to accept; a line of one pixel and
a view whose two spans name different cells: one run holds the pixel, one holds none. -/
theorem test_witness_LinesAreTakenAndGiveSpots :
    (let s := fun l => { run with view := { run.view with
        queue := [l], views := Table.fill 16 { (default : ViewEntry) with remembered := some 4 } } };
      (s (line 15 4 true)).life.phase = .run ∧ (s (line 15 4 true)).view.inHand = none ∧
        (s (line 15 4 true)).view.queue = line 15 4 true :: [] ∧
        run.life.params.viewCount ≤ (line 16 0 false).view.toNat ∧
        (line 15 4 true).view.toNat < run.life.params.viewCount ∧
        ((s (line 15 4 true)).view.views.get 15).remembered = some (line 15 4 true).seq ∧
        ((s (line 15 5 true)).view.views.get 15).remembered ≠ some (line 15 5 true).seq ∧
        (line 15 5 true).fault = true ∧ (line 15 5 false).fault = false) ∧
    (let l : Line := { line 0 1 false with count := 1, pixels := Table.fill 64 6240 };
      let s := { run with view := { run.view with
        inHand := some ⟨l, -35⟩
        views := Table.fill 16 { (default : ViewEntry) with spans := [⟨0, 0, 511⟩, ⟨1, 63, 0⟩] } } };
      s.view.inHand = some ⟨l, -35⟩ ∧ ((s.view.views.get 0).spans.map Span.cell).Nodup ∧
        (1 ≤ l.pixels.get 0 ∧ l.pixels.get 0 ≤ 16000 ∧ 0 < l.count) ∧ ¬(1 < l.count) ∧
        (∀ sp ∈ (s.view.views.get 0).spans, sp.cell ≠ 7)) := by decide

/-- One hour, a millisecond less, a millisecond more. A refresh timer due and one not, on a queued pass, a frozen one, one
in OOS and one to append; an age of 65,534 and of 65,535, counted after a whole second and not before; no age. -/
theorem test_witness_AgesAndTimersRunOut :
    let tm : Timer := ⟨4999750, 250⟩
    let tn : Timer := ⟨4999751, 250⟩
    let x : Pass := { (default : Pass) with timer := some tm, commitAge := some 65534, ageRef := 4999000 }
    let y : Pass := { (default : Pass) with timer := some tn, commitAge := some 65535, ageRef := 4999001 }
    let s := passes (fun p => if p = 0 then x else if p = 1 then { x with frozen := true }
      else if p = 2 then { x with mode := .oos } else if p = 3 then x else y)
      { run with map := { run.map with queue := [3] } }
    ((3600000 : Nat) ≤ (run.life.clock - 1400000#32).toNat ∧ (run.life.clock - 1400001#32).toNat < 3600000 ∧
      3600000 < (run.life.clock - 1399999#32).toNat ∧ (run.life.clock - 1400000#32).toNat ≤ 3600000 ∧
      { run with view := { run.view with spots := Table.fill 512 (some ⟨0, 0, false, 1400000⟩) } }.view.spots.get 0 =
        some ⟨0, 0, false, 1400000⟩) ∧
    ((s.map.passes.get 0).timer = some tm ∧ tm.len ≤ (s.life.clock - tm.start).toNat ∧
      (s.map.passes.get 7).timer = some tn ∧ (s.life.clock - tn.start).toNat < tn.len) ∧
    (s.map.queue.contains 3 = true ∧ (s.map.passes.get 1).frozen = true ∧ (s.map.passes.get 2).mode = .oos ∧
      (s.map.queue.contains 0 = false ∧ (s.map.passes.get 0).frozen = false ∧ (s.map.passes.get 0).mode ≠ .oos)) ∧
    ((s.map.passes.get 0).commitAge = some 65534 ∧ 1000 ≤ (s.life.clock - (s.map.passes.get 0).ageRef).toNat ∧
      (s.map.passes.get 7).commitAge = some 65535 ∧ (s.life.clock - (s.map.passes.get 7).ageRef).toNat < 1000 ∧
      (run.map.passes.get 7).commitAge = none) := by decide

def busyMap (w : Option Work) (l : List Nat) : State := { run with map := { run.map with work := w, queue := l } }

/-- A queue with a head pass and no recompute in flight; outside RUN, one in flight, an empty queue; the workspace of the
last pass with the discard mark and without. -/
theorem test_witness_RecomputesStartAndCommit :
    ((busyMap none [7, 0]).life.phase = .run ∧ (busyMap none [7, 0]).map.work = none ∧
      (busyMap none [7, 0]).map.queue = 7 :: [0] ∧ (phased .halt none run).life.phase ≠ .run ∧
      (busyMap (some ⟨7, [], false⟩) []).map.work.isSome = true ∧ run.map.queue = []) ∧
    (busyMap (some ⟨7, [], true⟩) []).map.work = some ⟨7, [], true⟩ ∧
      (busyMap (some ⟨7, [], false⟩) []).map.work = some ⟨7, [], false⟩ ∧ 7 < 8 ∧
      (busyMap (some ⟨7, [], false⟩) []).Configured :=
  ⟨by decide, rfl, rfl, by decide, configured_of run_configured rfl rfl rfl rfl run_configured.cells⟩

/-- The example pass: two channels, one and none; a fresh spot, a stale one and none; positions 11 and 12 between
measured ones, and 15 with none above; an old temperature in range. -/
theorem test_witness_FusionFollowsItsFourSteps :
    let ds := image3.map (direct pass3)
    ((good 6380).bind ChanImage.supplied = some 6380 ∧ (150 : Int) < |6380 - 6710| ∧ |(6090 : Int) - 6110| ≤ 150) ∧
    ((tcOf 150 (image3.getD 9 default)).1 = some 6137 ∧ (tcOf 150 (image3.getD 13 default)).1 = none ∧
      (image3.getD 9 default).spot.map SpotImage.fresh = some true ∧
      (image3.getD 12 default).spot.map SpotImage.fresh = some false ∧ (image3.getD 15 default).spot = none) ∧
    ((ds.getD 11 default).temp = none ∧ measuredAt ds 10 = some (6100, false) ∧ measuredAt ds 13 = some (6400, false) ∧
      measuredAt ds 12 = none ∧ 13 - 10 ≤ pass3.spanLimit ∧ measuredAt ds 15 = none ∧ measuredAt ds 16 = none) ∧
    15 < image3.length ∧ inTempRange cell207.temp :=
  ⟨by decide, by decide, by decide, by decide, fun t h => by cases h; decide⟩

/-- A mask of every pass; no urgent code pending. -/
theorem test_witness_MaskCommandsActOnTheNamedPasses :
    (fetched run).life.phase = .run ∧ entryFetched (fetched run) ∧ (fetched run).Scheduled ∧
      (∀ p < 8, (0xFF#8).getLsbD p = true → p < (fetched run).life.params.passCount) :=
  ⟨rfl, entry_fetched _ rfl,
    ⟨run_scheduled.once, run_scheduled.runnable, run_scheduled.inFlight, run_scheduled.marked⟩, by decide⟩

theorem fetched_run_configured : (fetched run).Configured :=
  configured_of run_configured rfl rfl rfl rfl run_configured.cells

theorem fetched_run_scheduled : (fetched run).Scheduled :=
  ⟨run_scheduled.once, run_scheduled.runnable, run_scheduled.inFlight, run_scheduled.marked⟩

/-- Pass 7 in NORMAL: its present mode, and DECOKE (code 2); a recompute of it in flight and none. -/
theorem test_witness_SetModeChangesTheModeAlone :
    (fetched run).life.phase = .run ∧ entryFetched (fetched run) ∧ (fetched run).Configured ∧
      (7#8).toNat < (fetched run).life.params.passCount ∧ Mode.ofCode (0#8).toNat = some .normal ∧
      Mode.ofCode (2#8).toNat = some .decoke ∧ ((fetched run).map.passes.get 7).mode = .normal ∧
      ((fetched run).map.work.any fun w => decide (w.pass = 7)) = false ∧
      ((fetched (busyMap (some ⟨7, [], false⟩) [])).map.work.any fun w => decide (w.pass = 7)) = true ∧
      entryFetched (fetched (busyMap (some ⟨7, [], false⟩) [])) :=
  ⟨rfl, entry_fetched _ rfl, fetched_run_configured, by decide, rfl, rfl, by decide, rfl, rfl, entry_fetched _ rfl⟩

def oosRun : State := fetched (passes (fun p => if p = 7 then { (default : Pass) with mode := .oos } else default) run)

/-- Pass 7 in NORMAL named with OOS (code 3), and pass 7 in OOS named with NORMAL. -/
theorem test_witness_OutOfServiceEmptiesThePass :
    entryFetched (fetched run) ∧ (fetched run).Scheduled ∧ (fetched run).Configured ∧
      Mode.ofCode (3#8).toNat = some .oos ∧ (((fetched run).map.passes.get 7).mode = .oos ↔ Mode.oos ≠ .oos) ∧
      entryFetched oosRun ∧ oosRun.Scheduled ∧ oosRun.Configured ∧
      ((oosRun.map.passes.get 7).mode = .oos ↔ Mode.normal ≠ .oos) :=
  ⟨entry_fetched _ rfl, fetched_run_scheduled, fetched_run_configured, rfl, by decide, entry_fetched _ rfl,
    ⟨List.nodup_nil, fun _ h => (nomatch h), fun _ h => (nomatch h), fun _ h => (nomatch h)⟩,
    configured_of run_configured rfl rfl rfl rfl (by decide), by decide⟩

/-- A live cell: no reference, a window not over, a window over with a rate above the limit and at it; a margin at A and
above it; no last commit, a commit age of 3600 and of 3599. -/
theorem test_witness_CommitsWorkTheAlarmRecord :
    let cfg := { pass3 with rateWindowS := 60, rateLimit := 113, advisory := 1000 }
    let i : AlarmIn := ⟨207, cfg, .normal, 7163, .tc, some 6163, 5060000, 2750⟩
    i.source.live = true ∧ Source.held.live = false ∧ i.temp = some 6163 ∧ (default : AlarmRec).ref = none ∧
      (i.clock - 5000001#32).toNat < cfg.rateWindowS * 1000 ∧ cfg.rateWindowS * 1000 ≤ (i.clock - 5000000#32).toNat ∧
      cfg.rateLimit < saturate (-32767) 32767 (q ((6163 - 6049) * 60000) 60000) ∧
      saturate (-32767) 32767 (q ((6163 - 6050) * 60000) 60000) ≤ cfg.rateLimit ∧ i.limit - 6163 ≤ cfg.advisory ∧
      cfg.advisory < i.limit - 6162 ∧ (default : Pass).lastCommit = none ∧
      { (default : Pass) with lastCommit := some 1, commitAge := some 3600 }.commitAge = some 3600 := by decide

/-- A record without a margin; with P = 2, a first and a second commit that call for a higher level, a fall and a stay,
on the bands of spec 07. -/
theorem test_witness_LevelFollowsTheMarginBands :
    let r : AlarmRec := { (default : AlarmRec) with margin := some 877 }
    let h : AlarmRec := { (default : AlarmRec) with margin := some 501, level := .high }
    (default : AlarmRec).margin = none ∧ (levelFor 877 1000 400).code > r.level.code ∧ r.persist + 1 < 2 ∧
      2 ≤ { r with persist := 1 }.persist + 1 ∧ (levelFor 501 1000 400).code ≤ h.level.code ∧
      (levelFor (501 - 100) 1000 400).code < h.level.code ∧ (levelFor 500 1000 400).code ≤ h.level.code ∧
      h.level.code ≤ (levelFor (500 - 100) 1000 400).code := by decide

/-- The last cell and the last pass; RUN with the lock clear and with it set, and HALT. -/
theorem test_witness_AlarmCommandsActOnTheirCells :
    (fetched run).life.phase = .run ∧ entryFetched (fetched run) ∧ (511#16).toNat ≤ 511 ∧ (7#8).toNat ≤ 7 ∧
      (fetched (phased .halt none run)).life.phase = .halt ∧ (fetched run).life.lock = false ∧
      (fetched lockedRun).life.lock = true ∧ entryFetched (fetched lockedRun) :=
  ⟨rfl, entry_fetched _ rfl, by decide, by decide, rfl, rfl, rfl, entry_fetched _ rfl⟩

def engine (e : Engine) (s : State) : State := { s with cmd := { s.cmd with engine := e } }

/-- A bridge in RUN whose Command Engine is in this state, its head 0, with this tail, this register and these requests. -/
def manned (e : Engine) (tail : Nat) (u : Option Urgent) (out : List BridgeReq) : State :=
  { run with cmd := { run.cmd with engine := e, tail := tail, urgent := u }, path := { run.path with cmdOut := out } }

/-- Every such state accepts a pending code in RUN, with and without an access on the port. -/
theorem manned_accepts (e : Engine) (tail : Nat) (u : Option Urgent) (out : List BridgeReq) (k : ReqKind) :
    ((manned e tail u out).Configured ∧ (manned e tail u out).Scheduled) ∧
      (onKind k (manned e tail u out)).Configured ∧ (onKind k (manned e tail u out)).Scheduled :=
  ⟨⟨configured_of run_configured rfl rfl rfl rfl run_configured.cells, scheduled_of run_scheduled rfl⟩,
    configured_of run_configured rfl rfl rfl rfl run_configured.cells, scheduled_of run_scheduled rfl⟩

/-- The Command Engine's two writes: the head word's is left where the clearing write is withdrawn. -/
theorem manned_left :
    ([headWrite run].filter fun r => decide (r.kind ≠ .urgentClear)) ≠ [] ∧
      ([clearWrite run].filter fun r => decide (r.kind ≠ .urgentClear)) = [] := by decide

/-- A tail value equal to the head modulo the ring size, and one that is not; READY with a code pending, and with a write
waiting. A failed fetch in RUN without a code and with one, and in LOAD. The end of the head-word write and of the clearing
write: a write posted after it, WAIT_LOAD, BUSY in LOAD, STALLED, BUSY and READY with an entry to take and with none, and a
pending code in BUSY, READY and STALLED. -/
theorem test_witness_TheRingIsFetchedFromHeadToTail :
    ((ringWindows run).isSome = true ∧ (engine .busy run).cmd.engine = .busy ∧ run.cmd.engine = .ready ∧
      run.cmd.head = (16#32).toNat % run.life.params.cmdSize ∧ run.cmd.head ≠ (15#32).toNat % run.life.params.cmdSize ∧
      run.cmd.urgent = none ∧ outstanding run .commandEngine = false ∧
      (manned .ready 0 (some .freezeAll) []).cmd.urgent ≠ none ∧
      outstanding (manned .ready 0 none [headWrite run]) .commandEngine = true) ∧
    (onPortKind (fetched run) .ringFetch ∧ run.life.phase = .run ∧ (fetched run).cmd.urgent = none ∧
      (phased .load (some (rootJob .reload)) run).life.phase = .load ∧
      onPortKind (onKind .ringFetch (manned .busy 1 (some .abortExport) [])) .ringFetch) ∧
    (∀ e tail u out k, onPortKind (onKind k (manned e tail u out)) k ∧ (onKind k (manned e tail u out)).cmd.engine = e ∧
      (onKind k (manned e tail u out)).cmd.urgent = u ∧ (onKind k (manned e tail u out)).path.cmdOut = out ∧
      (onKind k (manned e tail u out)).life.phase = .run ∧ (onKind k (manned e tail u out)).cmd.head = 0 ∧
      (onKind k (manned e tail u out)).cmd.tail = tail ∧ (onKind k (manned e tail u out)).Configured ∧
      (onKind k (manned e tail u out)).Scheduled) ∧
    onPortKind (onKind .headWord (engine .busy (phased .load (some (rootJob .reload)) run))) .headWord :=
  ⟨by decide, ⟨onPort_onKind _ _, rfl, rfl, rfl, onPort_onKind _ _⟩,
    fun _ _ _ _ _ => ⟨onPort_onKind _ _, rfl, rfl, rfl, rfl, rfl, rfl, (manned_accepts _ _ _ _ _).2⟩, onPort_onKind _ _⟩

/-- R161: the head-word write ends with entry 1 to take: the fetch of its record is posted and the engine is BUSY. -/
theorem test_next_entry_follows_at_once :
    let t := after (.headWordWriteComplete false)
      (onKind .headWord { engine .busy run with cmd := { run.cmd with engine := .busy, head := 1, tail := 3 } })
    t.cmd.engine = .busy ∧ t.path.cmdOut = [⟨.ringFetch, 0x12010, []⟩] ∧ t.path.memPort = none := by decide

/-- The first opcode that names no command; a named command in LOAD and in HALT; RUN. -/
theorem test_witness_EntriesRunOrAreRefusedByPhase :
    14 ≤ (0x0E#8).toNat ∧ entryFetched (fetched run) ∧ (encodeRecord (.freeze 1)).isSome = true ∧
      entryFetched (fetched (phased .load (some (rootJob .reload)) run)) ∧
      (fetched (phased .halt none run)).life.phase = .halt ∧ (fetched run).life.phase = .run :=
  ⟨by decide, entry_fetched _ rfl, rfl, entry_fetched _ rfl, rfl, rfl⟩

/-- A mask of pass 7 with seven passes, pass 7 and mode code 4, a list off its 16 bytes, a channel not in use, offsets
just beyond the range, view 16, cell 512, pass 8; the lock set. -/
theorem test_witness_BadArgumentsAreRefused :
    let s := fetched { run with life := { run.life with params := { cfg with passCount := 7 } } }
    s.life.phase = .run ∧ entryFetched s ∧ (7 < 8 ∧ (0x80#8).getLsbD 7 = true ∧ s.life.params.passCount ≤ 7) ∧
      s.life.params.passCount ≤ (7#8).toNat ∧ 3 < (4#8).toNat ∧ (0x30008#32).toNat % 16 ≠ 0 ∧ s.life.lock = false ∧
      usedChannel s (0#8).toNat = false ∧ (0xFE0B#16).toInt < -500 ∧ 500 < (501#16).toInt ∧
      s.life.params.viewCount ≤ (16#8).toNat ∧ 511 < (512#16).toNat ∧ 7 < (8#8).toNat ∧
      (fetched lockedRun).life.lock = true ∧ (fetched (phased .halt none run)).life.phase = .halt :=
  ⟨rfl, entry_fetched _ rfl, by decide, by decide, by decide, by decide, rfl, by decide, by decide, by decide, by decide,
    by decide, by decide, rfl, rfl⟩

/-- The whole channel range, a last channel of 128, a last below the first; channel 127 in use with offsets at both
ends of the range; a view with three pairings and a view with two. -/
theorem test_witness_ChannelAndViewCommandsAct :
    (let ch : Channel := { (default : Channel) with cfg := { (default : ChannelCfg) with inUse := true } };
      let s := { fetched run with conv := { run.conv with channels := Table.fill 128 ch } };
      s.life.phase = .run ∧ entryFetched s ∧ (0#8).toNat ≤ (127#8).toNat ∧ (127#8).toNat ≤ 127 ∧ 127 < (128#8).toNat ∧
        (0#8).toNat < (1#8).toNat ∧ s.life.lock = false ∧ usedChannel s (127#8).toNat = true ∧
        -500 ≤ (0xFE0C#16).toInt ∧ (500#16).toInt ≤ 500 ∧ (fetched lockedRun).life.lock = true) ∧
    (let spans : List Span := [⟨0, 0, 0⟩, ⟨1, 1, 1⟩, ⟨2, 2, 2⟩];
      let s := { fetched run with view := { run.view with
        views := (Table.fill 16 { (default : ViewEntry) with spans := spans.take 2 }).set 15
          { (default : ViewEntry) with spans := spans }
        pairings := Table.fill 512 (some ⟨6137, 6240, 0⟩) } };
      s.life.phase = .run ∧ entryFetched s ∧ s.life.lock = false ∧ (15#8).toNat < s.life.params.viewCount ∧
        3 ≤ ((s.view.views.get 15).spans.filterMap fun sp => s.view.pairings.get sp.cell).length ∧
        ((s.view.views.get 0).spans.filterMap fun sp => s.view.pairings.get sp.cell).length < 3) :=
  ⟨⟨rfl, ⟨onPort_onKind _ _, rfl⟩, by decide, by decide, by decide, by decide, rfl, by decide, by decide, by decide, rfl⟩,
    ⟨rfl, ⟨onPort_onKind _ _, rfl⟩, rfl, by decide, by decide, by decide⟩⟩

theorem test_witness_ReloadEntersLoad :
    (fetched run).life.phase = .run ∧ (fetched (phased .halt none run)).life.phase = .halt ∧
      entryFetched (fetched run) ∧ (fetched run).life.lock = false ∧ (fetched lockedRun).life.lock = true :=
  ⟨rfl, rfl, entry_fetched _ rfl, rfl, rfl⟩

def job : ExportJob :=
  { mask := 1, hotFlag := false, listAddr := 0x30000, cursor := 0, reached := 0, held := none
    region := some ⟨0x40000, 32, true⟩, lastUsed := true, turns := [], buf := List.replicate 8 0, start := 0
    gens := Table.fill 8 0 }

def exporting (j : ExportJob) (s : State) : State := { s with exp := { s.exp with job := some j } }

/-- Every pass named, a list on 16 bytes, no export in flight and one. -/
theorem test_witness_ExportStartsOrIsBusy :
    (fetched run).life.phase = .run ∧ entryFetched (fetched run) ∧ (0x30010#32).toNat % 16 = 0 ∧
      (∀ p < 8, (0xFF#8).getLsbD p = true → p < (fetched run).life.params.passCount) ∧
      (fetched run).exp.job = none ∧ (exporting job (fetched run)).exp.job.isSome = true ∧
      entryFetched (exporting job (fetched run)) :=
  ⟨rfl, entry_fetched _ rfl, by decide, by decide, rfl, rfl, ⟨onPort_onKind _ _, rfl⟩⟩

def urgent (u : Urgent) (s : State) : State := { s with cmd := { s.cmd with urgent := some u } }

theorem test_witness_PendingCodeIsAcceptedAtEntryEnd :
    isRingCommand .nop ∧ Instr.nop.wellFormed = true ∧ Instr.nop ≠ .reload ∧
      onPortKind (urgent .freezeAll (fetched run)) .ringFetch ∧
      (urgent .freezeAll (fetched run)).cmd.urgent = some .freezeAll ∧
      (urgent .freezeAll (fetched run)).life.phase = .run :=
  ⟨rfl, rfl, by decide, ⟨_, rfl, rfl⟩, rfl, rfl⟩

/-- WAIT_LOAD; BUSY with a head-word write on the port and with one waiting; the first value that names no code. BUSY with
the clearing write alone outstanding, in LOAD and in RUN, with an entry to take and with none. READY and STALLED: with a
write waiting, with the clearing write on the port, with nothing outstanding, with an entry to take and with none. A code
in the register in each, an export in flight, HALT; for URGENT_ACCEPTANCE no code, a write outstanding, and a code with
nothing outstanding. -/
theorem test_witness_UrgentCodesAreHeldOrCarriedOut :
    (∀ e tail u out, (ringWindows (manned e tail u out)).isSome = true ∧ (manned e tail u out).cmd.engine = e ∧
      (manned e tail u out).cmd.head = 0 ∧ (manned e tail u out).cmd.tail = tail ∧ (manned e tail u out).cmd.urgent = u ∧
      (manned e tail u out).path.cmdOut = out ∧ (manned e tail u out).life.phase = .run ∧
      onPort (manned e tail u out) .commandEngine = none ∧
      (onPort (onKind .headWord (manned e tail u out)) .commandEngine).isSome = true ∧
      onPortKind (onKind .urgentClear (manned e tail u out)) .urgentClear ∧
      ¬onPortKind (manned e tail u out) .urgentClear ∧ ¬onPortKind (onKind .headWord (manned e tail u out)) .urgentClear ∧
      (manned e tail u out).Configured ∧ (manned e tail u out).Scheduled) ∧
    (let loading := engine .waitLoad (phased .load (some (rootJob .reload)) run);
      let busy := { engine .busy loading with path := { run.path with cmdOut := [clearWrite run] } };
      loading.cmd.engine = .waitLoad ∧ (ringWindows loading).isSome = true ∧ (ringWindows busy).isSome = true ∧
        busy.life.phase = .load ∧ busy.cmd.engine = .busy ∧ onPort busy .commandEngine = none ∧ 4 ≤ (4#32).toNat) ∧
    ((exporting job run).exp.job = some job ∧ (exporting job run).Configured ∧ (exporting job run).Scheduled) ∧
    ((phased .halt none run).life.phase = .halt ∧ (phased .halt none run).Configured ∧ (phased .halt none run).Scheduled ∧
      (ringWindows (phased .halt none run)).isSome = true) ∧
    (outstanding (manned .ready 0 none [headWrite run]) .commandEngine = true ∧
      outstanding (manned .stalled 0 (some .thawAll) []) .commandEngine = false) :=
  ⟨fun _ _ _ _ => ⟨rfl, rfl, rfl, rfl, rfl, rfl, rfl, rfl, rfl, onPort_onKind _ _, fun ⟨_, _, h⟩ => (nomatch h),
      fun ⟨_, hk, h⟩ => by cases h; exact (nomatch hk), (manned_accepts _ _ _ _ .headWord).1⟩,
    by decide, ⟨rfl, configured_of run_configured rfl rfl rfl rfl run_configured.cells, scheduled_of run_scheduled rfl⟩,
    ⟨rfl, halted_configured, scheduled_of run_scheduled rfl, rfl⟩, by decide⟩

def someEvent : Event := ⟨.intakeDuplicate, 2, 0, 255, 0⟩

def events (x : EventWriter) : State := { run with ev := x }

/-- A legal ring waits to be adopted, an access on the port. -/
theorem adopting_configured {a : EvRing} (h : a.Legal) (k : ReqKind) :
    (onKind k (events { run.ev with adopt := some a })).Configured where
  pending := fun _ h => nomatch h
  loading := fun _ h => nomatch h
  inForce := fun _ => cfg_passed
  reloading := fun _ h => nomatch h
  active := fun _ h => (Option.some.inj h).symm
  ring := fun _ h => Option.some.inj h ▸ ring_legal
  adopt := fun _ hr => Option.some.inj hr ▸ h
  cells := run_configured.cells

/-- A ring that waits while the writes it waits for are on the port: base and size unchanged with a threshold of 1, the base
moved, the size changed. -/
theorem test_witness_EventsAreWrittenAndPublished_adopting :
    let same := { evRingOf cfg with threshold := 1 }
    let moved := { evRingOf cfg with base := 0x18000 }
    let wide := { evRingOf cfg with size := 256 }
    let s := fun (k : ReqKind) (a : EvRing) => onKind k (events { run.ev with adopt := some a })
    (∀ k, (s k same).Configured ∧ (s k moved).Configured ∧ (s k wide).Configured) ∧
      (∀ k a, onPortKind (s k a) k ∧ (s k a).ev.ring = some (evRingOf cfg) ∧ (s k a).ev.adopt = some a) ∧
      (same.base = (evRingOf cfg).base ∧ same.size = (evRingOf cfg).size) ∧ moved.base ≠ (evRingOf cfg).base ∧
      wide.size ≠ (evRingOf cfg).size :=
  ⟨fun k => ⟨adopting_configured (by unfold EvRing.Legal; decide) k, adopting_configured (by unfold EvRing.Legal; decide) k,
      adopting_configured (by unfold EvRing.Legal; decide) k⟩,
    fun _ _ => ⟨onPort_onKind _ _, rfl, rfl⟩, ⟨rfl, rfl⟩, by decide, by decide⟩

/-- No ring, a class masked, eight events pending and fewer; producer 15 over consumer 0 is full in a ring of 16, producer
14 has room; a lost count of 1 and of 0; record and producer-word writes on the port. -/
theorem test_witness_EventsAreWrittenAndPublished :
    (State.reset.ev.ring = none ∧ (0x004#12).getLsbD someEvent.kind.cls = true ∧ someEvent.kind.cls ≠ 11 ∧
      (evRingOf cfg).mask.getLsbD someEvent.kind.cls = false ∧ 8 ≤ (List.replicate 8 someEvent).length ∧
      (List.replicate 7 someEvent).length < 8) ∧
    (run.ev.ring = some (evRingOf cfg) ∧ outstanding run .eventWriter = false ∧ run.ev.adopt = none ∧
      (((15 : Nat) : Int) - (0 : Nat)) % (evRingOf cfg).size = (evRingOf cfg).size - 1 ∧
      (events { run.ev with producer := 15, pending := [someEvent] }).ev.pending = someEvent :: [] ∧
      ¬(((14 : Nat) : Int) - (0 : Nat)) % (evRingOf cfg).size = (evRingOf cfg).size - 1 ∧
      0 < (events { run.ev with producer := 14, lost := 1 }).ev.lost ∧
      (events { run.ev with producer := 14, pending := [someEvent] }).ev.lost = 0) ∧
    (events { run.ev with producer := 15, pending := [someEvent] }).Configured ∧
    (onKind (.producerWord true) run).Configured ∧
    onPortKind (onKind (.eventRecord true) run) (.eventRecord true) ∧
      onPortKind (onKind (.producerWord true) run) (.producerWord true) :=
  ⟨by decide, by decide, configured_of run_configured rfl rfl rfl rfl run_configured.cells,
    configured_of run_configured rfl rfl rfl rfl run_configured.cells, onPort_onKind _ _, onPort_onKind _ _⟩

/-- A consumer word that empties the ring, a coalesce timer due and one not. -/
theorem test_witness_ConsumerAndCoalesceDriveEvt :
    let tm : Timer := ⟨4999900, 100⟩
    let tn : Timer := ⟨4999901, 100⟩
    (ringWindows run).isSome = true ∧ run.ev.ring = some (evRingOf cfg) ∧
      (events { run.ev with coalesce := some tm }).ev.coalesce = some tm ∧ run.ev.ring.isSome = true ∧
      tm.len ≤ (run.life.clock - tm.start).toNat ∧ (run.life.clock - tn.start).toNat < tn.len := by decide

theorem test_witness_ConsumerAndCoalesceDriveEvt_configured : run.Configured := run_configured

/-- A pair on 16 bytes with a length of 0, which stands for 65,536; an address off its 16 bytes; a length off them. A
burst with more of its turn to come in a region with room; the trailer's last burst at the end of a LAST region; a burst
after an abort. -/
theorem test_witness_ListFetchesAndStreamBurstsAct :
    (onPortKind (onKind .listFetch (exporting job run)) .listFetch ∧
      (onKind .listFetch (exporting job run)).exp.job = some job ∧ (0x40000#32).toNat % 16 = 0 ∧
      (0x80000000#32).toNat % 16 = 0 ∧ (0x40008#32).toNat % 16 ≠ 0 ∧ (0x80000008#32).toNat % 16 ≠ 0) ∧
    (onPortKind (onKind .stream (exporting job run)) .stream ∧ job.region = some ⟨0x40000, 32, true⟩ ∧
      job.buf.drop 4 = 0 :: [0, 0, 0] ∧ 16 < (⟨0x40000, 32, true⟩ : Region).left ∧
      { job with buf := List.replicate 4 0 }.buf.drop 4 = [] ∧ job.turns = [] ∧ (onKind .stream run).exp.job = none) :=
  ⟨⟨onPort_onKind _ _, rfl, by decide, by decide, by decide, by decide⟩, onPort_onKind _ _, rfl, rfl, by decide, rfl, rfl,
    rfl⟩

/-- A pass turn, the hot list and the trailer to follow; a region with 32 bytes left and one with 16; entries 31 and 32,
LAST and not; an entry held, on its 16 bytes and off them, and none. -/
theorem test_witness_ExportRegionsAndTurnsFollow :
    let j := { job with
      buf := List.replicate 4 0, turns := [.pass 7, .hotList, .trailer], lastUsed := false, cursor := 31
      held := some (0x50000, 0x20), region := some ⟨0x40000, 16, false⟩ }
    onPortKind (onKind .stream (exporting j run)) .stream ∧ (onKind .stream (exporting j run)).exp.job = some j ∧
      j.region = some ⟨0x40000, 16, false⟩ ∧ j.buf.drop 4 = [] ∧ j.turns = .pass 7 :: [.hotList, .trailer] ∧
      j.cursor ≤ 31 ∧ 31 < { j with cursor := 32 }.cursor ∧ j.lastUsed = false ∧ job.lastUsed = true ∧
      (0x50000#32).toNat % 16 = 0 ∧ (0x20#32).toNat % 16 = 0 ∧ (0x28#32).toNat % 16 ≠ 0 ∧ job.held = none ∧
      (⟨0x40000, 16, false⟩ : Region).left ≤ 16 ∧ 16 < (⟨0x40000, 32, true⟩ : Region).left :=
  ⟨onPort_onKind _ _, rfl, rfl, rfl, rfl, by decide, by decide, rfl, rfl, by decide, by decide, by decide, rfl, by decide,
    by decide⟩

theorem test_witness_RecordsDecodeAsEncoded :
    (Instr.setOffset 127 0xFFFF).wellFormed = true ∧
      encodeRecord (.setOffset 127 0xFFFF) = some (mkRecord 0x06 127 0 0xFFFF 0) := ⟨rfl, rfl⟩

/-- A step of a bridge in RUN. -/
def ticking : State := { run with pending := [.recomputeStart] }

theorem ticking_steps : step ticking = .next run := rfl

theorem ticking_phased : ticking.Phased := phased_of run_phased rfl rfl

theorem ticking_configured : ticking.Configured := configured_of run_configured rfl rfl rfl rfl run_configured.cells

theorem test_witness_EveryStepKeepsTheBounds :
    ticking.Phased ∧ ticking.Configured ∧ ticking.Bounded ∧ step ticking = .next run :=
  ⟨ticking_phased, ticking_configured,
    ⟨run_bounded.frames, run_bounded.lines, run_bounded.events, run_bounded.lost, run_bounded.suppressed,
      run_bounded.fairness, run_bounded.refresh, run_bounded.inFlight, run_bounded.hot, run_bounded.eligible,
      run_bounded.cmdRing, run_bounded.evRing, run_bounded.histories, run_bounded.persist, run_bounded.exposure,
      run_bounded.ages⟩, rfl⟩

theorem test_witness_EveryStepKeepsConfigurationsLegal :
    ticking.Phased ∧ ticking.Configured ∧ step ticking = .next run := ⟨ticking_phased, ticking_configured, rfl⟩

theorem test_witness_EveryStepKeepsTheLifephase : ticking.Phased ∧ ticking.Locked ∧ step ticking = .next run :=
  ⟨ticking_phased, fun h => (nomatch h), rfl⟩

theorem test_witness_EveryStepKeepsThePause : ticking.Phased ∧ ticking.Paused ∧ step ticking = .next run :=
  ⟨ticking_phased, by constructor <;> exact fun h => absurd rfl h, rfl⟩

theorem test_witness_EveryStepKeepsTheSchedule : ticking.Phased ∧ ticking.Paused ∧ ticking.Scheduled ∧
    step ticking = .next run :=
  ⟨ticking_phased, by constructor <;> exact fun h => absurd rfl h,
    ⟨run_scheduled.once, run_scheduled.runnable, run_scheduled.inFlight, run_scheduled.marked⟩, rfl⟩

theorem test_witness_EveryStepKeepsAlmTrue : ticking.AlmTrue ∧ step ticking = .next run := ⟨run_almTrue, rfl⟩

theorem test_witness_EveryStepKeepsTemperaturesInRange : ticking.InRange ∧ step ticking = .next run :=
  ⟨⟨run_inRange.cells, run_inRange.parts, run_inRange.channels, run_inRange.spots, run_inRange.pairings,
      run_inRange.references, run_inRange.image⟩, rfl⟩

theorem test_witness_EveryStepKeepsTheRanking : ticking.Ranked ∧ step ticking = .next run := 
  ⟨⟨List.Pairwise.nil, List.nodup_nil⟩, rfl⟩

end Sys2Proof.Tests.Slice0
end

section
/-! What one step can do, said once: the moves that the commands are made of, each with the condition under which it is
made. An invariant is proved for the moves; every command, and so every step, then keeps it. -/

namespace Sys2Proof.Machine

/-- One move of the bridge: an act of one row or one part of a row, under the condition in which the row makes it. -/
inductive Move (s : State) : State → Prop
  -- Power, RESET#, the clock and loads
  | poweredOn (held : Bool) : Move s { State.cleared with
      life := lifeInClear held false (if held then none else some Config.powerClearUs)
      pending := s.pending }
  | resetAsserted : Move s { State.cleared with
      life := lifeInClear true s.life.powerClearDone none
      path := pathInReset s.path
      pending := s.pending }
  | resetReleased (left : Option Nat) : Move s (withLife { s.life with resetHeld := false, clearLeft := left } s)
  | strapsRead (root : BitVec 4) (autoload : Bool) (hc : s.life.phase = .clear) : Move s (withLife { s.life with
      phase := .idle, rootStrap := root, autoload := autoload, clearLeft := none, powerClearDone := true } s)
  | ticked (hp : s.life.phase ≠ .clear) : Move s (withLife { s.life with clock := s.life.clock + 1, trefEdges := 0 } s)
  | firstLoadBegun (hp : s.life.phase = .idle) : Move s (beginLoad .first s)
  | reloadBegun (hp : s.life.phase = .run ∨ s.life.phase = .halt) (hl : s.life.lock = false) : Move s (beginReload s)
  | loadStopped (hp : s.life.phase = .load) : Move s (endLoad .stopped (dropConfigFetch s))
  | configFetched (reply : FetchReply) : Move s (configFetched reply s)
  | lockSet (hp : s.life.phase = .run ∨ s.life.phase = .halt) : Move s (setLock s)
  -- The Path Unit
  | portFreed : Move s (freePort s)
  | hostTaken (a : HostAccess) : Move s { s with path := { s.path with upstream := some a } }
  | hostAnswered (resp : List BeatResp) : Move s (answerHost resp s)
  | hostCompleted (resp : List BeatResp) : Move s (hostCompleted resp s)
  | hostGranted (a : HostAccess) (hg : s.path.fairness < Config.fairnessMax ∨ bridgeWaiting s = false) :
      Move s { s with path := { s.path with
        upstream := none
        memPort := some (.host a)
        fairness := if bridgeWaiting s then s.path.fairness + 1 else 0 } }
  | bridgeGranted (who : Requester) : Move s (grantBridge who s)
  | latchFilled (r : RecordId) : Move s (fillLatch r s)
  | latchEmptied : Move s { s with path := { s.path with latch := none } }
  | mapWritten (off : Nat) : Move s (holdoffWrite off s)
  | holdoffEnded : Move s { s with path := { s.path with holdoff := none } }
  -- The Frame Intake and the Conversion Engine
  | frameBeat (off : BitVec 10) (b : Beat) (hp : s.life.phase = .run) : Move s (frameBeat off.toNat b s)
  | frameTaken (f : Frame) (rest : List Frame) (hp : s.life.phase = .run) (hc : s.conv.inHand = none)
      (hq : s.intake.queue = f :: rest) : Move s (checkFrame f (popFrame rest s))
  | frameConverted (job : FrameJob) (hj : s.conv.inHand = some job) : Move s (convertFrame job s)
  | scannerSilent (i : Fin 8) (hd : timerDue (s.intake.scanners.get i.val).timer (now s) = true) :
      Move s (fallSilent i.val s)
  -- The View Unit
  | lineBeat (off : BitVec 10) (b : Beat) (hp : s.life.phase = .run) : Move s (lineBeat off.toNat b s)
  | lineTaken (l : Line) (rest : List Line) (hp : s.life.phase = .run) (hi : s.view.inHand = none)
      (hq : s.view.queue = l :: rest) : Move s (checkLine l { s with view := { s.view with queue := rest } })
  | lineCompleted (job : LineJob) (hj : s.view.inHand = some job) : Move s (completeLine job s)
  | spotRetired (c : Fin 512) : Move s (withSpots (s.view.spots.set c.val none) s)
  -- The Map Engine and the Alarm Unit
  | refreshDue (p : Fin 8) (hd : timerDue (passAt s p.val).timer (now s) = true) :
      Move s (appendPass p.val (setPass p.val { passAt s p.val with
        timer := some (refreshTimer s (passAt s p.val).cfg) } s))
  | commitAged (p : Fin 8) (age : Nat) (ha : (passAt s p.val).commitAge = some age) :
      Move s (setPass p.val { passAt s p.val with
        commitAge := some (satAdd 65535 age 1), ageRef := (passAt s p.val).ageRef + 1000 } s)
  | recomputeBegun (p : Nat) (rest : List Nat) (hp : s.life.phase = .run) (hw : s.map.work = none)
      (hq : s.map.queue = p :: rest) : Move s (withWork (some ⟨p, imageOf s p, false⟩) (withQueue rest s))
  | recomputeDropped (w : Work) (hw : s.map.work = some w) : Move s (withWork none s)
  | recomputeCommitted (w : Work) (hw : s.map.work = some w) (hd : w.discard = false) :
      Move s (commitPass w (withWork none s))
  | directTimeRetired (c : Fin 512) :
      Move s (withCells (s.map.cells.set c.val { s.map.cells.get c.val with lastDirect := none }) s)
  | referenceRetired (c : Fin 512) :
      Move s (withRecs (s.alarm.recs.set c.val { s.alarm.recs.get c.val with ref := none }) s)
  -- The Command Engine
  | tailWritten (v : W32) : Move s (tailWrite v s)
  | urgentWritten (reg : Option Urgent) : Move s (urgentWrite reg s)
  | urgentRefused (v : W32) : Move s (urgentRefused v s)
  | urgentAccepted : Move s (acceptAtOnce s)
  | fetchFailed : Move s (ringFetchFailed s)
  | writeEnded : Move s (cmdWriteEnded s)
  | entryFinished : Move s (finishEntry s)
  | entryRefused (op : Nat) (r : Reason) : Move s (refuseEntry op r s)
  | passesFrozen (m : Byte) (hp : s.life.phase = .run) (hm : maskCheck m s = none) :
      Move s (freezePasses (maskPasses m) s)
  | passesThawed (m : Byte) (hp : s.life.phase = .run) (hm : maskCheck m s = none) :
      Move s (thawPasses (maskPasses m) s)
  | refreshForced (m : Byte) (hp : s.life.phase = .run) (hm : maskCheck m s = none) :
      Move s (appendPasses (maskPasses m) s)
  | modeSet (p m : Byte) (hp : s.life.phase = .run) (hm : modeCheck p m s = none) : Move s (setModeEffect p m s)
  | faultsCleared (first last : Byte) : Move s (clearFaultRange first.toNat last.toNat s)
  | offsetSet (c : Byte) (v : W16) (hp : s.life.phase = .run) (hc : offsetCheck c v s = none) :
      Move s (setChannelOffset c.toNat v.toInt s)
  | viewCalibrated (v : Byte) (hp : s.life.phase = .run) (hc : calibrateCheck v s = none) :
      Move s (calibrate v.toNat s)
  | cellAcked (c : W16) : Move s (ackCell c.toNat s)
  | passAcked (p : Byte) : Move s (ackPassCells p.toNat s)
  | exposureReset (c : W16) (hp : s.life.phase = .run) (hc : exposureCheck c s = none) :
      Move s (resetExposureOf c.toNat s)
  -- The Event Writer
  | eventDropped (e : Event) (rest : List Event) (hq : s.ev.pending = e :: rest) :
      Move s (withEv { s.ev with pending := rest, lost := satAdd 65535 s.ev.lost 1 } s)
  | lostPosted (r : EvRing) (e : Event) : Move s (post ⟨.eventRecord true, eventRecordAddr r s.ev.producer, recordWords e⟩ s)
  | eventPosted (r : EvRing) (e : Event) (rest : List Event) (hq : s.ev.pending = e :: rest) :
      Move s (post ⟨.eventRecord false, eventRecordAddr r s.ev.producer, recordWords e⟩
        (withEv { s.ev with pending := rest } s))
  | recordWritten (error lost : Bool) : Move s (recordWritten error lost s)
  | producerWritten (error first : Bool) : Move s (producerWritten error first s)
  | consumerWritten (v : W32) : Move s (consumerWrite v s)
  | coalesceEnded : Move s (evalEvt (withEv { s.ev with coalesce := none, expired := true } s))
  -- The Export Engine
  | exportBegun (mask : Byte) (hot : Bool) (list : W32) (hp : s.life.phase = .run)
      (hc : exportCheck mask list s = none) : Move s (beginExport mask hot list s)
  | listFetched (reply : FetchReply) : Move s (listFetched reply s)
  | streamWritten (error : Bool) : Move s (streamWritten error s)

/-- Any number of moves, one after another. -/
abbrev Moves : State → State → Prop := Relation.ReflTransGen Move

theorem Move.moves {s t : State} (h : Move s t) : Moves s t := .single h

/-- What every move keeps, any number of moves keeps. -/
theorem Moves.keeps {P : State → Prop} (hP : ∀ s t, Move s t → P s → P t) {s t : State} (h : Moves s t) (hs : P s) :
    P t := by
  induction h with
  | refl => exact hs
  | tail _ hm ih => exact hP _ _ hm ih

/-! ### Completions and ring entries -/

/-- A completion frees the port, and then the requester may act (R13). -/
theorem complete_moves {mine : ReqKind → Bool} {act : BridgeReq → State → State}
    (hact : ∀ r s, Moves s (act r s)) (s : State) : Moves s (complete mine act s) := by
  obtain h | h | ⟨r, -, -, h⟩ := complete_cases mine act s
  · rw [h]
  · rw [h]; exact Move.portFreed.moves
  · rw [h]; exact Move.portFreed.moves.trans (hact r _)

/-- An entry is refused, or its effect is made in a lifephase that lets the command run, its checks passed (R163). -/
theorem executeEntry_cases (op : Nat) (inHalt : Bool) (check : State → Option Reason) (act : State → State) (s : State) :
    (∃ r, executeEntry op inHalt check act s = refuseEntry op r s) ∨
    ((s.life.phase = .run ∨ inHalt = true ∧ s.life.phase = .halt) ∧ check s = none ∧
      executeEntry op inHalt check act s = act s) := by
  have checked : (∃ r, checkedEffect op check act s = refuseEntry op r s) ∨
      (check s = none ∧ checkedEffect op check act s = act s) := by
    unfold checkedEffect
    cases hc : check s with
    | none => exact .inr ⟨rfl, rfl⟩
    | some r => exact .inl ⟨r, rfl⟩
  unfold executeEntry
  cases hp : s.life.phase
  case run => simpa using checked
  case halt =>
    cases inHalt
    · exact .inl ⟨_, rfl⟩
    · simpa using checked
  all_goals exact .inl ⟨_, rfl⟩

/-- An entry whose effect is made of moves is made of moves (R163). -/
theorem executeEntry_moves {op : Nat} {inHalt : Bool} {check : State → Option Reason} {act : State → State} {s : State}
    (hact : (s.life.phase = .run ∨ inHalt = true ∧ s.life.phase = .halt) → check s = none → Moves s (act s)) :
    Moves s (executeEntry op inHalt check act s) := by
  obtain ⟨r, h⟩ | ⟨hp, hc, h⟩ := executeEntry_cases op inHalt check act s
  · rw [h]; exact (Move.entryRefused op r).moves
  · rw [h]; exact hact hp hc

/-- A ring command whose entry is made of moves is made of moves: the port is freed, the entry executed and ended
(R161). -/
theorem ringEntry_moves {entry : State → State} (hentry : ∀ s, Moves s (entry s)) {s t : State}
    (h : ringEntry entry s = .next t) : Moves s t := by
  obtain rfl : complete (isKind .ringFetch) (fun _ s => finishEntry (entry s)) s = t := by
    simpa [ringEntry] using h
  exact complete_moves (fun _ u => (hentry u).trans Move.entryFinished.moves) s

/-- A ring command that runs in RUN alone. -/
theorem runEntry_moves {op : Nat} {check : State → Option Reason} {act : State → State}
    (hact : ∀ s, s.life.phase = .run → check s = none → Moves s (act s)) {s t : State}
    (h : ringEntry (executeEntry op false check act) s = .next t) : Moves s t :=
  ringEntry_moves (fun u => executeEntry_moves fun hp hc => hact u (by simpa using hp) hc) h

/-- A ring command that runs in RUN and in HALT. -/
theorem haltEntry_moves {op : Nat} {check : State → Option Reason} {act : State → State}
    (hact : ∀ s, s.life.phase = .run ∨ s.life.phase = .halt → check s = none → Moves s (act s)) {s t : State}
    (h : ringEntry (executeEntry op true check act) s = .next t) : Moves s t :=
  ringEntry_moves (fun u => executeEntry_moves fun hp hc => hact u (by simpa using hp) hc) h

/-! ### Hand-overs -/

theorem urgentValue_moves (v : W32) (s : State) : Moves s (urgentValue v s) := by
  unfold urgentValue
  split_ifs
  · exact (Move.urgentWritten _).moves
  · exact (Move.urgentWritten _).moves
  · exact (Move.urgentWritten _).moves
  · exact (Move.urgentWritten _).moves
  · exact (Move.urgentRefused v).moves

/-- A start value begins a load in IDLE, a reload in HALT without the lock, and does nothing else (R16). -/
theorem loadStart_moves (s : State) : Moves s (loadStart s) := by
  unfold loadStart
  split
  next hp => exact (Move.firstLoadBegun hp).moves
  next hp =>
    split_ifs with hl
    · exact .refl
    · exact (Move.reloadBegun (.inr hp) (by simpa using hl)).moves
  all_goals exact .refl

theorem loadStop_moves (s : State) : Moves s (loadStop s) := by
  unfold loadStop
  split
  next hp => exact (Move.loadStopped hp).moves
  all_goals exact .refl

theorem startValue_moves (v : W32) (s : State) : Moves s (startValue v s) := by
  unfold startValue
  split_ifs
  · exact loadStart_moves s
  · exact loadStop_moves s
  · exact .refl

/-- In RUN a start or stop value does nothing (R16). -/
theorem startValue_run {s : State} (hp : s.life.phase = .run) (v : W32) : startValue v s = s := by
  simp [startValue, loadStart, loadStop, hp]

/-- The watch is one of the intake windows. -/
def Watch.isIntake : Watch → Bool
  | .frame _ => true
  | .line _ => true
  | .tail => false
  | .urgent => false
  | .consumer => false
  | .start => false
  | .none => false

/-- The rings' words are no intake windows. -/
theorem ringWatch_isIntake (s : State) (a : W32) : (ringWatch s a).isIntake = false := by
  unfold ringWatch
  split
  · split_ifs <;> rfl
  · rfl

/-- The intake windows are watched in RUN alone (R4). -/
theorem run_of_watchOf_isIntake {s : State} {a : W32} (h : (watchOf s a).isIntake = true) : s.life.phase = .run := by
  by_contra hp
  have hw : intakeWindows s = none := by
    unfold intakeWindows
    cases hq : s.life.phase <;> simp_all
  unfold watchOf at h
  rw [hw] at h
  split_ifs at h
  · exact Bool.noConfusion h
  · simp [ringWatch_isIntake] at h

/-- A beat handed over, an intake beat in RUN, is made of moves (R5, R6). -/
theorem handOver_moves {x : Watch × Beat} {s : State} (h : x.1.isIntake = true → s.life.phase = .run) :
    Moves s (handOver x s) := by
  obtain ⟨w, b⟩ := x
  cases w <;> simp only [handOver]
  case tail => split_ifs; exacts [(Move.tailWritten _).moves, .refl]
  case urgent => split_ifs; exacts [urgentValue_moves _ s, .refl]
  case consumer => split_ifs; exacts [(Move.consumerWritten _).moves, .refl]
  case start => split_ifs; exacts [startValue_moves _ s, .refl]
  case frame off => exact (Move.frameBeat off b (h rfl)).moves
  case line off => exact (Move.lineBeat off b (h rfl)).moves
  case none => exact .refl

/-- A hand-over in RUN leaves the bridge in RUN. -/
theorem handOver_run {x : Watch × Beat} {s : State} (h : s.life.phase = .run) : (handOver x s).life.phase = .run := by
  obtain ⟨w, b⟩ := x
  cases w <;> simp only [handOver]
  case start => split_ifs <;> simp [startValue_run, h]
  case frame | line | none => simp [h]
  all_goals split_ifs <;> simp [h]

/-- The hand-over of a granted access is made of moves (R5, R6). -/
theorem handOverAll_moves (a : HostAccess) (s : State) : Moves s (handOverAll a s) := by
  have beats : ∀ (l : List (Watch × Beat)) (t : State), (∀ x ∈ l, x.1.isIntake = true → t.life.phase = .run) →
      Moves t (l.foldl (fun t x => handOver x t) t) := by
    intro l
    induction l with
    | nil => exact fun _ _ => .refl
    | cons x l ih =>
      intro t h
      exact (handOver_moves (h x (by simp))).trans
        (ih _ fun y hy hi => handOver_run (h y (by simp [hy]) hi))
  unfold handOverAll
  split_ifs
  · refine beats _ s fun x hx hi => ?_
    obtain ⟨y, -, rfl⟩ := List.mem_map.mp hx
    exact run_of_watchOf_isIntake hi
  · exact .refl

/-! ### Commands -/

/-- The arbiter grants the host only while its fairness count allows it (R12). -/
theorem arbitrate_host {s : State} {a : HostAccess} (h : arbitrate s = .host a) :
    s.path.fairness < Config.fairnessMax ∨ bridgeWaiting s = false := by
  have hb : bridgeGrant s ≠ .host a := by
    unfold bridgeGrant
    split_ifs <;> simp
  unfold arbitrate at h
  split at h
  · split_ifs at h with hg
    · simpa using hg
    · exact absurd h hb
  · exact absurd h hb

theorem readBeat_moves (off : Nat) (s : State) : Moves s (readBeat off s).2 := by
  unfold readBeat
  split
  · exact .refl
  · exact (Move.latchFilled _).moves
  · split <;> exact .refl

theorem readBeats_moves (offs : List Nat) (s : State) : Moves s (readBeats offs s).2 := by
  induction offs generalizing s with
  | nil => exact .refl
  | cons off rest ih => exact (readBeat_moves off s).trans (ih _)

theorem serveMapRead_moves (a : HostAccess) (s : State) : Moves s (serveMapRead a s) :=
  (readBeats_moves _ s).trans (Move.hostAnswered _).moves

theorem serveMapWrite_moves (a : HostAccess) (s : State) : Moves s (serveMapWrite a s) :=
  (Move.mapWritten _).moves.trans (Move.hostAnswered _).moves

theorem whileRings_moves {act : State → State} (hact : ∀ s, Moves s (act s)) {s t : State}
    (h : whileRings act s = .next t) : Moves s t := by
  unfold whileRings at h
  split at h <;> cases h
  · exact hact s
  · exact .refl

theorem execMemoryPortGrant_moves {s t : State} (h : execMemoryPortGrant s = .next t) : Moves s t := by
  unfold execMemoryPortGrant at h
  split at h
  · cases h; exact .refl
  · split at h <;> cases h
    next a ha => exact (Move.hostGranted a (arbitrate_host ha)).moves.trans (handOverAll_moves a _)
    next who hw => exact (Move.bridgeGranted who).moves
    next => exact .refl

theorem execEventWriterAction_moves {s t : State} (h : execEventWriterAction s = .next t) : Moves s t := by
  unfold execEventWriterAction at h
  split at h
  · cases h; exact .refl
  split at h
  · cases h; exact .refl
  next r hr =>
    split at h
    · split at h <;> cases h
      · exact .refl
      next e rest hq => exact (Move.eventDropped e rest hq).moves
    split at h
    · cases h; exact (Move.lostPosted r _).moves
    · split at h <;> cases h
      · exact .refl
      next e rest hq => exact (Move.eventPosted r e rest hq).moves

/-- A row that is due acts, and otherwise leaves the state. -/
theorem guarded_moves {b : Prop} [Decidable b] {act s t : State} (hact : b → Moves s act)
    (h : (if b then Host.Outcome.next act else .next s : Host.Outcome State Fault Refusal) = .next t) : Moves s t := by
  split_ifs at h with hb <;> cases h
  · exact hact hb
  · exact .refl

theorem next_moves {act s t : State} (hact : Moves s act)
    (h : (Host.Outcome.next act : Host.Outcome State Fault Refusal) = .next t) : Moves s t := by
  cases h; exact hact

theorem sampleStraps_moves {root : BitVec 4} {autoload : Bool} {s : State} (hc : s.life.phase = .clear) :
    Moves s (sampleStraps root autoload s) := by
  unfold sampleStraps
  dsimp only
  split_ifs
  · exact (Move.strapsRead root autoload hc).moves.trans (Move.firstLoadBegun rfl).moves
  · exact (Move.strapsRead root autoload hc).moves

theorem arrive_moves (a : HostAccess) (s : State) : Moves s (arrive a s) := by
  unfold arrive
  split_ifs
  · exact serveMapWrite_moves a s
  · exact serveMapRead_moves a s
  · exact (Move.hostTaken a).moves

/-- Every command is made of moves. -/
theorem exec_moves {c : Instr} {s t : State} (h : exec c s = .next t) : Moves s t := by
  cases c
  case powerOn held => exact next_moves (Move.poweredOn held).moves h
  case resetAssert => exact next_moves Move.resetAsserted.moves h
  case resetRelease => exact guarded_moves (fun _ => (Move.resetReleased _).moves) h
  case clearEnd root autoload =>
    refine guarded_moves (fun hc => sampleStraps_moves ?_) h
    simp only [clearRuns, Bool.and_eq_true, decide_eq_true_eq] at hc
    exact hc.1.1
  case heaterClockTick =>
    simp only [exec, execHeaterClockTick] at h
    split_ifs at h with hp <;> cases h
    · exact .refl
    · exact (Move.ticked hp).moves
  case commitAgeAdvance p =>
    simp only [exec, execCommitAgeAdvance] at h
    split at h
    next age ha => exact guarded_moves (fun _ => (Move.commitAged p age ha).moves) h
    next => exact next_moves .refl h
  case hostAccess a =>
    simp only [exec, execHostAccess] at h
    split_ifs at h <;> cases h
    · exact .refl
    · exact arrive_moves a s
  case memoryPortGrant => exact execMemoryPortGrant_moves h
  case hostAccessComplete resp => exact next_moves (Move.hostCompleted resp).moves h
  case mapRead d => exact guarded_moves (fun _ => serveMapRead_moves _ s) h
  case latchHoldExpiry =>
    simp only [exec, execLatchHoldExpiry] at h
    split at h <;> cases h
    · exact Move.latchEmptied.moves
    · exact .refl
  case mapWrite d => exact guarded_moves (fun _ => serveMapWrite_moves _ s) h
  case mapWriteHoldoffExpiry => exact guarded_moves (fun _ => Move.holdoffEnded.moves) h
  case loadStartValue => exact guarded_moves (fun _ => loadStart_moves s) h
  case loadStopValue => exact guarded_moves (fun _ => loadStop_moves s) h
  case configFetchComplete reply => exact next_moves (complete_moves (fun _ u => (Move.configFetched reply).moves) s) h
  case resultWordWriteComplete error =>
    cases error
    all_goals exact next_moves (complete_moves (fun _ _ => .refl) s) h
  case frameSlotWrite off b =>
    simp only [exec, execFrameSlotWrite, intakeWindows] at h
    cases hp : s.life.phase <;> simp only [hp] at h
    case run =>
      split at h <;> cases h
      · exact (Move.frameBeat off b hp).moves
      · exact .refl
    all_goals exact next_moves .refl h
  case frameTake =>
    simp only [exec, execFrameTake] at h
    split at h <;> cases h
    next f rest hp hc hq => exact (Move.frameTaken f rest hp hc hq).moves
    next => exact .refl
  case frameConversionComplete =>
    simp only [exec, execFrameConversionComplete] at h
    split at h <;> cases h
    next job hj => exact (Move.frameConverted job hj).moves
    next => exact .refl
  case freshnessTimerExpiry i => exact guarded_moves (fun hd => (Move.scannerSilent i hd).moves) h
  case lineSlotWrite off b =>
    simp only [exec, execLineSlotWrite, intakeWindows] at h
    cases hp : s.life.phase <;> simp only [hp] at h
    case run =>
      split at h <;> cases h
      · exact (Move.lineBeat off b hp).moves
      · exact .refl
    all_goals exact next_moves .refl h
  case lineTake =>
    simp only [exec, execLineTake] at h
    split at h <;> cases h
    next l rest hp hi hq => exact (Move.lineTaken l rest hp hi hq).moves
    next => exact .refl
  case lineCompletion =>
    simp only [exec, execLineCompletion] at h
    split at h <;> cases h
    next job hj => exact (Move.lineCompleted job hj).moves
    next => exact .refl
  case spotRetirement c =>
    simp only [exec, execSpotRetirement] at h
    split at h
    · exact guarded_moves (fun _ => (Move.spotRetired c).moves) h
    · exact next_moves .refl h
  case refreshTimerExpiry p => exact guarded_moves (fun hd => (Move.refreshDue p hd).moves) h
  case recomputeStart =>
    simp only [exec, execRecomputeStart] at h
    split at h <;> cases h
    next p rest hp hw hq => exact (Move.recomputeBegun p rest hp hw hq).moves
    next => exact .refl
  case recomputeCompletion =>
    simp only [exec, execRecomputeCompletion] at h
    split at h
    next w hw =>
      split at h
      · exact next_moves (Move.recomputeDropped w hw).moves h
      next hd => exact next_moves (Move.recomputeCommitted w hw (by simpa using hd)).moves h
    next => exact next_moves .refl h
  case lastDirectTimeRetirement c =>
    simp only [exec, execLastDirectTimeRetirement] at h
    split at h
    · exact guarded_moves (fun _ => (Move.directTimeRetired c).moves) h
    · exact next_moves .refl h
  case rateReferenceRetirement c =>
    simp only [exec, execRateReferenceRetirement] at h
    split at h
    · exact guarded_moves (fun _ => (Move.referenceRetired c).moves) h
    · exact next_moves .refl h
  case tailWordWrite v => exact whileRings_moves (fun _ => (Move.tailWritten v).moves) h
  case ringFetchError => exact next_moves (complete_moves (fun _ _ => Move.fetchFailed.moves) s) h
  case unknownOpcode op =>
    simp only [exec, execUnknownOpcode] at h
    split_ifs at h
    exact ringEntry_moves (fun _ => (Move.entryRefused _ _).moves) h
  case headWordWriteComplete error =>
    cases error
    all_goals exact next_moves (complete_moves (fun _ _ => Move.writeEnded.moves) s) h
  case nop => exact haltEntry_moves (fun _ _ _ => .refl) h
  case freeze m => exact runEntry_moves (fun _ hp hc => (Move.passesFrozen m hp hc).moves) h
  case thaw m => exact runEntry_moves (fun _ hp hc => (Move.passesThawed m hp hc).moves) h
  case setMode p m => exact runEntry_moves (fun _ hp hc => (Move.modeSet p m hp hc).moves) h
  case forceRefresh m => exact runEntry_moves (fun _ hp hc => (Move.refreshForced m hp hc).moves) h
  case clearFaults first last => exact runEntry_moves (fun _ _ _ => (Move.faultsCleared first last).moves) h
  case setOffset c v => exact runEntry_moves (fun _ hp hc => (Move.offsetSet c v hp hc).moves) h
  case calibrateView v => exact runEntry_moves (fun _ hp hc => (Move.viewCalibrated v hp hc).moves) h
  case ack c => exact haltEntry_moves (fun _ _ _ => (Move.cellAcked c).moves) h
  case ackPass p => exact haltEntry_moves (fun _ _ _ => (Move.passAcked p).moves) h
  case resetExposure c => exact runEntry_moves (fun _ hp hc => (Move.exposureReset c hp hc).moves) h
  case exportStart mask flag list => exact runEntry_moves (fun _ hp hc => (Move.exportBegun mask _ list hp hc).moves) h
  case reload =>
    refine haltEntry_moves (fun u hp hc => (Move.reloadBegun hp ?_).moves) h
    cases hl : u.life.lock
    · rfl
    · simp [reloadCheck, hl] at hc
  case lock => exact haltEntry_moves (fun _ hp _ => (Move.lockSet hp).moves) h
  case urgentCancel => exact whileRings_moves (fun _ => (Move.urgentWritten _).moves) h
  case freezeAll => exact whileRings_moves (fun _ => (Move.urgentWritten _).moves) h
  case thawAll => exact whileRings_moves (fun _ => (Move.urgentWritten _).moves) h
  case abortExport => exact whileRings_moves (fun _ => (Move.urgentWritten _).moves) h
  case urgentUnknown v =>
    simp only [exec, execUrgentUnknown] at h
    split_ifs at h
    exact whileRings_moves (fun _ => (Move.urgentRefused v).moves) h
  case urgentAcceptance =>
    simp only [exec, execUrgentAcceptance] at h
    split_ifs at h <;> cases h
    · exact .refl
    · exact Move.urgentAccepted.moves
  case urgentClearWriteComplete error =>
    cases error
    all_goals exact next_moves (complete_moves (fun _ _ => Move.writeEnded.moves) s) h
  case eventWriterAction => exact execEventWriterAction_moves h
  case eventRecordWriteComplete error =>
    refine next_moves (complete_moves (fun r u => ?_) s) h
    exact (Move.recordWritten error (decide (r.kind = .eventRecord true))).moves
  case producerWordWriteComplete error =>
    refine next_moves (complete_moves (fun r u => ?_) s) h
    exact (Move.producerWritten error (decide (r.kind = .producerWord true))).moves
  case consumerWordWrite v =>
    simp only [exec, execConsumerWordWrite] at h
    split at h <;> cases h
    · exact (Move.consumerWritten v).moves
    · exact .refl
  case coalesceTimerExpiry => exact guarded_moves (fun _ => Move.coalesceEnded.moves) h
  case listFetchComplete reply => exact next_moves (complete_moves (fun _ _ => (Move.listFetched reply).moves) s) h
  case streamWriteComplete error => exact next_moves (complete_moves (fun _ _ => (Move.streamWritten error).moves) s) h

/-- What every move keeps, every command keeps. -/
theorem exec_keeps {P : State → Prop} (hP : ∀ s t, Move s t → P s → P t) {c : Instr} {s t : State}
    (h : exec c s = .next t) (hs : P s) : P t :=
  (exec_moves h).keeps hP hs

/-- What every move keeps, and what does not depend on the queue of waiting commands, every step keeps. -/
theorem step_keeps {P : State → Prop} (hP : ∀ s t, Move s t → P s → P t)
    (hq : ∀ s rest, P s → P { s with pending := rest }) {s t : State} (h : step s = .next t) (hs : P s) : P t := by
  unfold step at h
  split at h
  · cases h; exact hs
  · exact exec_keeps hP h (hq s _ hs)

end Sys2Proof.Machine
end

section
/-! Every well-formed command answers, and none touches the queue (O2, O3). -/

namespace Sys2Proof.Machine

/-- Settles O2, by the two branches of `step`. -/
theorem stepRunsFrontCommand : Obligations.StepRunsFrontCommand := by
  refine ⟨fun c rest s h => ?_, fun s h => ?_⟩
  · simp [step, h]
  · simp [step, h]

/-! ### The queue -/

/-- The end of a load leaves the queue of waiting commands. -/
theorem endLoad_pending (r : LoadResult) (s : State) : (endLoad r s).pending = s.pending := by
  unfold endLoad
  split
  · rfl
  · dsimp only
    split
    · simp [adoptConfig]
    · split
      · simp [failReload]
      · simp [failFirstLoad]

/-- What a record that passes does: its effect on the load's progress and on the state, table by table (R18 to R22). -/
inductive RecordTaken (ws : List W32) (j : LoadJob) (s : State) : LoadJob → State → Prop
  | root (c : RootCfg) (hj : j.stage = .root) (hc : parseRoot ws = some c)
      (hw : windowsOk (rootAddr s).toNat c = true) :
      RecordTaken ws j s j (withLife { s.life with pendingCfg := some c } s)
  | pass (x : PassCfg) (hj : j.stage = .pass) (hx : parsePass ws = some x) :
      RecordTaken ws j s j (setPass j.index { passAt s j.index with cfg := x } s)
  | channel (x : ChannelCfg) (hj : j.stage = .channel)
      (hx : parseChannel (s.life.pendingCfg.getD default).curveCount ws = .ok x) :
      RecordTaken ws j s j (withChannels (s.conv.channels.modify j.index fun ch => { ch with cfg := x }) s)
  | curve (x : List Breakpoint) (hj : j.stage = .curve) (hx : parseCurve ws = .ok x) :
      RecordTaken ws j s j { s with conv := { s.conv with curves := s.conv.curves.set j.index x } }
  | cell (x : CellCfg) (hj : j.stage = .cell)
      (hx : parseCell ((s.life.pendingCfg.getD default).scannerCount * 16)
        (fun n => (s.conv.channels.get n).cfg.inUse) j.usedChannels (wordAt ws 0) = .ok x) :
      RecordTaken ws j s { j with usedChannels := j.usedChannels ++ namedChannels x }
        (withCells (s.map.cells.modify ((configuredCells (s.life.pendingCfg.getD default) s).getD j.index 0)
          fun old => { old with cfg := x }) s)
  | view (x : Int × List Span) (hj : j.stage = .view)
      (hx : parseView (cellConfigured (s.life.pendingCfg.getD default) s) j.usedCells ws = .ok x) :
      RecordTaken ws j s { j with usedCells := j.usedCells ++ x.2.map Span.cell }
        (withViews (s.view.views.modify j.index fun v => { v with correction := x.1, spans := x.2 }) s)

/-- A record written is one that passed its table's checks, with that table's effect. -/
theorem takeRecord_written {ws : List W32} {j j' : LoadJob} {s s' : State} (h : takeRecord ws j s = .written j' s') :
    RecordTaken ws j s j' s' := by
  cases hj : j.stage <;> simp only [takeRecord, hj] at h
  case root =>
    unfold takeRoot at h
    split at h
    · cases h
    next c hc =>
      split_ifs at h with hw
      cases h
      exact .root c hj hc hw
  case pass =>
    unfold takePass at h
    split at h <;> cases h
    next x hx => exact .pass x hj hx
  case channel =>
    unfold takeChannel at h
    split at h <;> cases h
    next x hx => exact .channel x hj hx
  case curve =>
    unfold takeCurve at h
    split at h <;> cases h
    next x hx => exact .curve x hj hx
  case cell =>
    unfold takeCell at h
    dsimp only at h
    split at h <;> cases h
    next x hx => exact .cell x hj hx
  case view =>
    unfold takeView at h
    split at h <;> cases h
    next x hx => exact .view x hj hx

section
variable {ws : List W32} {j j' : LoadJob} {s s' : State}

/-- A record touches the pending configuration and the tables alone. -/
theorem RecordTaken.frame (h : RecordTaken ws j s j' s') :
    s'.path = s.path ∧ s'.intake = s.intake ∧ s'.alarm = s.alarm ∧ s'.hot = s.hot ∧ s'.cmd = s.cmd ∧ s'.ev = s.ev ∧
      s'.exp = s.exp ∧ s'.pending = s.pending := by
  cases h <;> simp

theorem RecordTaken.path (h : RecordTaken ws j s j' s') : s'.path = s.path := h.frame.1

theorem RecordTaken.pending (h : RecordTaken ws j s j' s') : s'.pending = s.pending := by
  obtain ⟨-, -, -, -, -, -, -, hp⟩ := h.frame
  exact hp

/-- A record leaves the load in its table. -/
theorem RecordTaken.job (h : RecordTaken ws j s j' s') : j'.kind = j.kind ∧ j'.stage = j.stage ∧ j'.index = j.index := by
  cases h <;> simp

/-- A root record makes its values the pending configuration; no other record touches the Life Controller (R18). -/
theorem RecordTaken.life (h : RecordTaken ws j s j' s') :
    (j.stage = .root ∧ ∃ c, parseRoot ws = some c ∧ windowsOk (rootAddr s).toNat c = true ∧
      s'.life = { s.life with pendingCfg := some c }) ∨
    (j.stage ≠ .root ∧ s'.life = s.life) := by
  cases h
  case root c hj hc hw => exact .inl ⟨hj, c, hc, hw, rfl⟩
  all_goals exact .inr ⟨by simp [*], by simp⟩

end

/-- The next record or table belongs to the same load. -/
theorem afterRecord_kind {rest : List W32} {j j' : LoadJob} {s : State} (h : afterRecord rest j s = some j') :
    j'.kind = j.kind := by
  unfold afterRecord at h
  dsimp only at h
  split_ifs at h
  · cases h; rfl
  · obtain ⟨n, -, rfl⟩ := Option.map_eq_some_iff.mp h
    rfl

/-- The records that a completed fetch brings: what holds of the job and the state at its start, and is kept by each
record written, holds at whichever of its ends is reached (R17, R22). -/
theorem takeRecords_induct {I : LoadJob → State → Prop} {P : State → Prop}
    (taken : ∀ ws rest j j' j'' s s', I j s → RecordTaken ws j s j' s' →
      afterRecord rest j' s' = some j'' → I j'' s')
    (goesOn : ∀ j s, I j s → P (continueLoad j s))
    (fails : ∀ ws j s r, I j s → takeRecord ws j s = .failed r → P (endLoad r s))
    (ends : ∀ ws rest j j' s s', I j s → RecordTaken ws j s j' s' → afterRecord rest j' s' = none →
      P (endLoad .ok s'))
    (fuel : Nat) {j : LoadJob} {s : State} (h : I j s) : P (takeRecords fuel j s) := by
  induction fuel generalizing j s with
  | zero => exact goesOn j s h
  | succ fuel ih =>
    unfold takeRecords
    split
    · exact goesOn j s h
    · split
      · exact goesOn j s h
      · split
        next r hr => exact fails _ j s r h hr
        next j' s' ht =>
          split
          next j'' ha => exact ih (taken _ _ j j' j'' s s' h (takeRecord_written ht) ha)
          next ha => exact ends _ _ j j' s s' h (takeRecord_written ht) ha

/-- A completed configuration fetch leaves the queue of waiting commands. -/
theorem configFetched_pending (reply : FetchReply) (s : State) : (configFetched reply s).pending = s.pending := by
  unfold configFetched
  split
  · rfl
  · split
    · exact endLoad_pending _ s
    · refine takeRecords_induct (I := fun _ u => u.pending = s.pending) (P := fun u => u.pending = s.pending)
        (fun _ _ _ _ _ _ _ hi ht _ => ht.pending.trans hi) (fun _ _ hi => by simpa using hi)
        (fun _ _ u r hi _ => (endLoad_pending r u).trans hi)
        (fun _ _ _ _ _ _ hi ht _ => (endLoad_pending _ _).trans (ht.pending.trans hi)) _ rfl

/-- No move touches the queue of waiting commands. -/
theorem Move.pending {s t : State} (h : Move s t) : t.pending = s.pending := by
  cases h
  case configFetched reply => exact configFetched_pending reply s
  case loadStopped => exact (endLoad_pending _ _).trans (by simp)
  case bridgeGranted who =>
    unfold grantBridge
    split <;> simp
  case reloadBegun => simp [beginReload]
  all_goals simp

/-! ### Answers -/

/-- The outcome is a next state. -/
def Answered (o : Host.Outcome State Fault Refusal) : Prop := ∃ t, o = .next t

theorem Answered.next (t : State) : Answered (.next t) := ⟨t, rfl⟩

theorem Answered.ite {b : Prop} [Decidable b] {o p : Host.Outcome State Fault Refusal} (ho : Answered o)
    (hp : Answered p) : Answered (if b then o else p) := by
  split_ifs <;> assumption

theorem whileRings_answered (act : State → State) (s : State) : Answered (whileRings act s) := by
  unfold whileRings
  split <;> exact .next _

/-- An ill-formed term faults; every other command answers a next state (log entry 27). -/
theorem exec_answered {c : Instr} (s : State) (h : c.wellFormed = true) : Answered (exec c s) := by
  cases c
  case unknownOpcode op =>
    have hop : ¬ op.toNat < 14 := by simpa [Instr.wellFormed, opcodeNamed] using h
    simp only [exec, execUnknownOpcode, if_neg hop]
    exact .next _
  case urgentUnknown v =>
    have hv : ¬ v.toNat < 4 := by simpa [Instr.wellFormed, urgentNamed] using h
    simp only [exec, execUrgentUnknown, if_neg hv]
    exact whileRings_answered _ s
  case tailWordWrite | urgentCancel | freezeAll | thawAll | abortExport => exact whileRings_answered _ s
  case resetRelease | clearEnd | heaterClockTick | hostAccess | mapRead | mapWrite | mapWriteHoldoffExpiry |
      loadStartValue | loadStopValue | freshnessTimerExpiry | refreshTimerExpiry | urgentAcceptance |
      coalesceTimerExpiry =>
    exact .ite (.next _) (.next _)
  case commitAgeAdvance p =>
    simp only [exec, execCommitAgeAdvance]
    split
    · exact .ite (.next _) (.next _)
    · exact .next _
  case memoryPortGrant =>
    simp only [exec, execMemoryPortGrant]
    split
    · exact .next _
    · split <;> exact .next _
  case resultWordWriteComplete error | headWordWriteComplete error | urgentClearWriteComplete error =>
    cases error <;> exact .next _
  case latchHoldExpiry => simp only [exec, execLatchHoldExpiry]; split <;> exact .next _
  case frameSlotWrite => simp only [exec, execFrameSlotWrite]; split <;> exact .next _
  case frameTake => simp only [exec, execFrameTake]; split <;> exact .next _
  case frameConversionComplete => simp only [exec, execFrameConversionComplete]; split <;> exact .next _
  case lineSlotWrite => simp only [exec, execLineSlotWrite]; split <;> exact .next _
  case lineTake => simp only [exec, execLineTake]; split <;> exact .next _
  case lineCompletion => simp only [exec, execLineCompletion]; split <;> exact .next _
  case recomputeStart => simp only [exec, execRecomputeStart]; split <;> exact .next _
  case recomputeCompletion => simp only [exec, execRecomputeCompletion]; split <;> exact .next _
  case consumerWordWrite => simp only [exec, execConsumerWordWrite]; split <;> exact .next _
  case spotRetirement =>
    simp only [exec, execSpotRetirement]
    split
    · exact .ite (.next _) (.next _)
    · exact .next _
  case lastDirectTimeRetirement =>
    simp only [exec, execLastDirectTimeRetirement]
    split
    · exact .ite (.next _) (.next _)
    · exact .next _
  case rateReferenceRetirement =>
    simp only [exec, execRateReferenceRetirement]
    split
    · exact .ite (.next _) (.next _)
    · exact .next _
  case eventWriterAction =>
    simp only [exec, execEventWriterAction]
    refine .ite (.next _) ?_
    split
    · exact .next _
    · refine .ite ?_ (.ite (.next _) ?_) <;> split <;> exact .next _
  all_goals exact .next _

/-- An ill-formed term is one of the two that name no step, and faults (log entry 27). -/
theorem exec_faults {c : Instr} (s : State) (h : c.wellFormed = false) : ∃ f, exec c s = .fault f := by
  cases c
  case unknownOpcode op =>
    have hop : op.toNat < 14 := by simpa [Instr.wellFormed, opcodeNamed] using h
    exact ⟨_, if_pos hop⟩
  case urgentUnknown v =>
    have hv : v.toNat < 4 := by simpa [Instr.wellFormed, urgentNamed] using h
    exact ⟨_, if_pos hv⟩
  all_goals exact absurd h (by simp only [Instr.wellFormed, Bool.true_eq_false, not_false_eq_true])

/-- Settles O3: the arms of the dispatch answer one by one, and no move touches the queue. -/
theorem everyCommandAnswersAndKeepsTheQueue : Obligations.EveryCommandAnswersAndKeepsTheQueue :=
  ⟨fun _ s => ⟨exec_answered s, exec_faults s⟩, fun _ s _ h =>
    exec_keeps (P := fun u => u.pending = s.pending) (fun _ _ hm hu => hm.pending.trans hu) h rfl⟩

end Sys2Proof.Machine
end

section
/-! The lifephase, the load, the window set and the lock agree (O55). -/

namespace Sys2Proof.Machine

/-! ### What the end of a load leaves in the Life Controller and in the windows (R4, R23) -/

/-- The state in which a load's end begins its work: the lifephase entered, the load gone, the result word posted (R23). -/
def loadEntered (r : LoadResult) (j : LoadJob) (s : State) : State :=
  post ⟨.resultWord, resultAddr s, [resultWord r (phaseAfter j.kind r)]⟩
    (withLife { s.life with phase := phaseAfter j.kind r, lastResult := r, load := none, pendingCfg := none } s)

@[simp] theorem loadEntered_life (r : LoadResult) (j : LoadJob) (s : State) : (loadEntered r j s).life =
    { s.life with phase := phaseAfter j.kind r, lastResult := r, load := none, pendingCfg := none } := by
  simp [loadEntered]

@[simp] theorem loadEntered_frame (r : LoadResult) (j : LoadJob) (s : State) :
    (loadEntered r j s).intake = s.intake ∧ (loadEntered r j s).conv = s.conv ∧ (loadEntered r j s).view = s.view ∧
      (loadEntered r j s).map = s.map ∧ (loadEntered r j s).alarm = s.alarm ∧ (loadEntered r j s).hot = s.hot ∧
      (loadEntered r j s).cmd = s.cmd ∧ (loadEntered r j s).ev = s.ev ∧ (loadEntered r j s).exp = s.exp ∧
      (loadEntered r j s).pending = s.pending ∧ (loadEntered r j s).path.windows = s.path.windows ∧
      (loadEntered r j s).path.extent = s.path.extent ∧ (loadEntered r j s).path.suppressed = s.path.suppressed ∧
      (loadEntered r j s).path.fairness = s.path.fairness := by
  simp [loadEntered]

/-- With no load in progress nothing ends. -/
theorem endLoad_none {r : LoadResult} {s : State} (h : s.life.load = none) : endLoad r s = s := by
  simp [endLoad, h]

/-- A load that ends OK adopts the pending configuration (R23). -/
theorem endLoad_ok {j : LoadJob} {s : State} (h : s.life.load = some j) :
    endLoad .ok s = adoptConfig j.kind (s.life.pendingCfg.getD default) (loadEntered .ok j s) := by
  simp [endLoad, h, loadEntered]

/-- A reload that fails (R23). -/
theorem endLoad_reload {r : LoadResult} {j : LoadJob} {s : State} (hr : r ≠ .ok) (h : s.life.load = some j)
    (hk : j.kind = .reload) : endLoad r s = failReload r (loadEntered r j s) := by
  simp [endLoad, h, loadEntered, hr, hk]

/-- A first load that fails (R23). -/
theorem endLoad_first {r : LoadResult} {j : LoadJob} {s : State} (hr : r ≠ .ok) (h : s.life.load = some j)
    (hk : j.kind = .first) : endLoad r s = failFirstLoad r (loadEntered r j s) := by
  simp [endLoad, h, loadEntered, hr, hk]

/-- A configuration adopted is in force, the lock following its flag (R23, R25). -/
@[simp] theorem adoptConfig_life (k : LoadKind) (c : RootCfg) (s : State) :
    (adoptConfig k c s).life = { s.life with params := c, lock := s.life.lock || c.lockAtLoad } := by
  simp [adoptConfig]

/-- The windows of a configuration adopted are in force (R4). -/
@[simp] theorem adoptConfig_windows (k : LoadKind) (c : RootCfg) (s : State) :
    (adoptConfig k c s).path.windows = some (windowsOf c) := by
  simp [adoptConfig, pathLoadOk]

@[simp] theorem failReload_life (r : LoadResult) (s : State) : (failReload r s).life = s.life := by simp [failReload]

@[simp] theorem failReload_windows (r : LoadResult) (s : State) : (failReload r s).path.windows = s.path.windows := by
  simp [failReload]

@[simp] theorem failFirstLoad_life (r : LoadResult) (s : State) : (failFirstLoad r s).life = s.life := by
  simp [failFirstLoad]

@[simp] theorem failFirstLoad_path (r : LoadResult) (s : State) : (failFirstLoad r s).path = s.path := by
  simp [failFirstLoad]

theorem phaseAfter_ok (k : LoadKind) : phaseAfter k .ok = .run := by cases k <;> rfl

theorem phaseAfter_reload {r : LoadResult} (hr : r ≠ .ok) : phaseAfter .reload r = .halt := by
  cases r <;> first | rfl | exact absurd rfl hr

theorem phaseAfter_first {r : LoadResult} (hr : r ≠ .ok) : phaseAfter .first r = .idle := by
  cases r <;> first | rfl | exact absurd rfl hr

/-- The Life Controller while a load goes on. -/
@[simp] theorem continueLoad_life (j : LoadJob) (s : State) :
    (continueLoad j s).life = { s.life with load := some { j with addr := j.addr + 16 } } := by
  simp [continueLoad, withLoad]

@[simp] theorem beginLoad_life (k : LoadKind) (s : State) : (beginLoad k s).life = { s.life with
    phase := .load, pendingCfg := none, load := some { newLoad k s with addr := rootAddr s + 16 } } := by
  simp [beginLoad, newLoad]

@[simp] theorem beginReload_life (s : State) : (beginReload s).life = { s.life with
    phase := .load, pendingCfg := none, load := some { newLoad .reload s with addr := rootAddr s + 16 } } := by
  simp [beginReload, newLoad, rootAddr]

/-- A reload accepted leaves cells, alarm records, the hot list and what the path holds (R119). -/
@[simp] theorem beginReload_frame (s : State) :
    (beginReload s).alarm = s.alarm ∧ (beginReload s).hot = s.hot ∧ (beginReload s).pending = s.pending ∧
      (beginReload s).map.cells = s.map.cells ∧ (beginReload s).path.windows = s.path.windows ∧
      (beginReload s).path.extent = s.path.extent ∧ (beginReload s).path.suppressed = s.path.suppressed ∧
      (beginReload s).path.fairness = s.path.fairness ∧ (beginReload s).path.memPort = s.path.memPort := by
  simp [beginReload]

@[simp] theorem dropConfigFetch_windows (s : State) : (dropConfigFetch s).path.windows = s.path.windows := by
  simp [dropConfigFetch]

/-- A granted request leaves everything but the path. -/
@[simp] theorem grantBridge_frame (who : Requester) (s : State) :
    (grantBridge who s).life = s.life ∧ (grantBridge who s).intake = s.intake ∧ (grantBridge who s).conv = s.conv ∧
      (grantBridge who s).view = s.view ∧ (grantBridge who s).map = s.map ∧ (grantBridge who s).alarm = s.alarm ∧
      (grantBridge who s).hot = s.hot ∧ (grantBridge who s).cmd = s.cmd ∧ (grantBridge who s).ev = s.ev ∧
      (grantBridge who s).exp = s.exp ∧ (grantBridge who s).pending = s.pending ∧
      (grantBridge who s).path.windows = s.path.windows ∧ (grantBridge who s).path.suppressed = s.path.suppressed := by
  unfold grantBridge
  split <;> simp

@[simp] theorem answerHost_path (resp : List BeatResp) (s : State) :
    (answerHost resp s).path.windows = s.path.windows ∧ (answerHost resp s).path.extent = s.path.extent ∧
      (answerHost resp s).path.latch = s.path.latch ∧ (answerHost resp s).path.suppressed = s.path.suppressed ∧
      (answerHost resp s).path.fairness = s.path.fairness ∧ (answerHost resp s).path.memPort = s.path.memPort :=
  ⟨rfl, rfl, rfl, rfl, rfl, rfl⟩

@[simp] theorem hostCompleted_path (resp : List BeatResp) (s : State) :
    (hostCompleted resp s).path.windows = s.path.windows ∧ (hostCompleted resp s).path.extent = s.path.extent ∧
      (hostCompleted resp s).path.latch = s.path.latch ∧ (hostCompleted resp s).path.suppressed = s.path.suppressed ∧
      (hostCompleted resp s).path.fairness = s.path.fairness := by
  unfold hostCompleted
  split <;> exact ⟨rfl, rfl, rfl, rfl, rfl⟩

@[simp] theorem fillLatch_path (r : RecordId) (s : State) :
    (fillLatch r s).path.windows = s.path.windows ∧ (fillLatch r s).path.extent = s.path.extent ∧
      (fillLatch r s).path.suppressed = s.path.suppressed ∧ (fillLatch r s).path.fairness = s.path.fairness ∧
      (fillLatch r s).path.memPort = s.path.memPort :=
  ⟨rfl, rfl, rfl, rfl, rfl⟩

@[simp] theorem holdoffWrite_path (off : Nat) (s : State) :
    (holdoffWrite off s).path.windows = s.path.windows ∧ (holdoffWrite off s).path.extent = s.path.extent ∧
      (holdoffWrite off s).path.latch = s.path.latch ∧ (holdoffWrite off s).path.fairness = s.path.fairness := by
  unfold holdoffWrite
  split <;> exact ⟨rfl, rfl, rfl, rfl⟩

@[simp] theorem setLock_life (s : State) : (setLock s).life = { s.life with lock := true } := rfl

/-! ### Phased -/

section
variable {s t : State}

/-- Phased reads the lifephase, the load, the pending configuration and the windows alone. -/
theorem State.Phased.congr (h : s.Phased) (hp : t.life.phase = s.life.phase) (hl : t.life.load = s.life.load)
    (hc : t.life.pendingCfg = s.life.pendingCfg) (hw : t.path.windows = s.path.windows) : t.Phased where
  load := by rw [hl, hp]; exact h.load
  pending := by rw [hc, hp]; exact h.pending
  notSample := by rw [hp]; exact h.notSample
  unset := by rw [hp, hw]; exact h.unset
  set := by rw [hp, hw]; exact h.set
  first := by rw [hl, hw]; exact h.first
  reload := by rw [hl, hw]; exact h.reload

/-- Outside LOAD no load is in progress. -/
theorem State.Phased.no_load (h : s.Phased) (hp : s.life.phase ≠ .load) : s.life.load = none := by
  by_contra hl
  exact hp (h.load.mp (Option.isSome_iff_ne_none.mpr hl))

/-- Outside LOAD no configuration is pending. -/
theorem State.Phased.no_pending (h : s.Phased) (hp : s.life.phase ≠ .load) : s.life.pendingCfg = none := by
  by_contra hl
  exact hp (h.pending (Option.isSome_iff_ne_none.mpr hl))

/-- In LOAD a load is in progress. -/
theorem State.Phased.loading (h : s.Phased) (hp : s.life.phase = .load) : ∃ j, s.life.load = some j :=
  Option.isSome_iff_exists.mp (h.load.mpr hp)

theorem State.Phased.phase_load (h : s.Phased) {j : LoadJob} (hj : s.life.load = some j) : s.life.phase = .load :=
  h.load.mp (by simp [hj])

/-- A state in CLEAR or IDLE with nothing held is phased. -/
theorem phased_of_empty (hp : t.life.phase = .clear ∨ t.life.phase = .idle) (hl : t.life.load = none)
    (hc : t.life.pendingCfg = none) (hw : t.path.windows = none) : t.Phased := by
  constructor <;> rcases hp with hp | hp <;> simp [hp, hl, hc, hw]

/-- A state in RUN or HALT with a window set and no load is phased. -/
theorem phased_of_windows (hp : t.life.phase = .run ∨ t.life.phase = .halt) (hl : t.life.load = none)
    (hc : t.life.pendingCfg = none) (hw : t.path.windows.isSome = true) : t.Phased := by
  constructor <;> rcases hp with hp | hp <;> simp [hp, hl, hc, hw]

/-- A state in LOAD whose load agrees with its windows is phased. -/
theorem phased_of_load {j : LoadJob} (hp : t.life.phase = .load) (hl : t.life.load = some j)
    (hf : j.kind = .first → t.path.windows = none) (hr : j.kind = .reload → t.path.windows.isSome = true) :
    t.Phased := by
  constructor <;> simp [hp, hl]
  · exact hf
  · exact hr

/-- The end of a load enters a lifephase that agrees with the windows (R23). -/
theorem State.Phased.endLoad (h : s.Phased) (r : LoadResult) : (endLoad r s).Phased := by
  cases hl : s.life.load with
  | none => rw [endLoad_none hl]; exact h
  | some j =>
    by_cases hr : r = .ok
    · subst hr
      rw [endLoad_ok hl]
      exact phased_of_windows (by simp [phaseAfter_ok]) (by simp) (by simp) (by simp)
    · cases hk : j.kind with
      | first =>
        rw [endLoad_first hr hl hk]
        exact phased_of_empty (by simp [hk, phaseAfter_first hr]) (by simp) (by simp) (by simp [h.first j hl hk])
      | reload =>
        rw [endLoad_reload hr hl hk]
        exact phased_of_windows (by simp [hk, phaseAfter_reload hr]) (by simp) (by simp) (by simp [h.reload j hl hk])

/-- A load that goes on stays a load of its kind (R17). -/
theorem State.Phased.continueLoad (h : s.Phased) {j₀ j : LoadJob} (hl : s.life.load = some j₀)
    (hk : j.kind = j₀.kind) : (continueLoad j s).Phased :=
  phased_of_load (j := { j with addr := j.addr + 16 }) (by simpa using h.phase_load hl) (by simp)
    (fun hf => by simpa using h.first j₀ hl (hk ▸ hf)) (fun hr => by simpa using h.reload j₀ hl (hk ▸ hr))

/-- A load in progress: the state is phased and its load is of the job's kind. -/
def LoadKept (j : LoadJob) (s : State) : Prop := s.Phased ∧ ∃ j₀, s.life.load = some j₀ ∧ j.kind = j₀.kind

/-- A record keeps the load in progress. -/
theorem RecordTaken.loadKept {ws : List W32} {j j' : LoadJob} (ht : RecordTaken ws j s j' t) (h : LoadKept j s) :
    LoadKept j' t := by
  obtain ⟨hs, j₀, hl, hk⟩ := h
  have hk' : j'.kind = j₀.kind := ht.job.1.trans hk
  obtain ⟨-, c, -, -, hlife⟩ | ⟨-, hlife⟩ := ht.life
  · refine ⟨phased_of_load (j := j₀) ?_ ?_ ?_ ?_, j₀, ?_, hk'⟩
    · rw [hlife]; exact hs.phase_load hl
    · rw [hlife]; exact hl
    · rw [ht.path]; exact hs.first j₀ hl
    · rw [ht.path]; exact hs.reload j₀ hl
    · rw [hlife]; exact hl
  · exact ⟨hs.congr (by rw [hlife]) (by rw [hlife]) (by rw [hlife]) (by rw [ht.path]), j₀, by rw [hlife]; exact hl, hk'⟩

theorem LoadKept.after {rest : List W32} {j j' : LoadJob} (h : LoadKept j s) (ha : afterRecord rest j s = some j') :
    LoadKept j' s := by
  obtain ⟨hs, j₀, hl, hk⟩ := h
  exact ⟨hs, j₀, hl, (afterRecord_kind ha).trans hk⟩

/-- A completed configuration fetch keeps the agreement (R17, R23). -/
theorem State.Phased.configFetched (h : s.Phased) (reply : FetchReply) : (configFetched reply s).Phased := by
  unfold Machine.configFetched
  split
  · exact h
  next j hl =>
    split
    · exact h.endLoad _
    · refine takeRecords_induct (I := LoadKept) (fun _ _ _ _ _ _ _ hi ht ha => (ht.loadKept hi).after ha)
        (fun _ _ hi => ?_) (fun _ _ _ r hi _ => hi.1.endLoad r) (fun _ _ _ _ _ _ hi ht _ => (ht.loadKept hi).1.endLoad _)
        _ ⟨h, j, hl, rfl⟩
      obtain ⟨hs, j₀, hl, hk⟩ := hi
      exact hs.continueLoad hl hk

/-- Every move keeps the lifephase, the load and the windows in agreement. -/
theorem Move.phased (hm : Move s t) (h : s.Phased) : t.Phased := by
  cases hm
  case poweredOn held => exact phased_of_empty (.inl rfl) rfl rfl rfl
  case resetAsserted => exact phased_of_empty (.inl rfl) rfl rfl rfl
  case strapsRead root autoload hc =>
    have hq : s.life.phase ≠ .load := by simp [hc]
    exact phased_of_empty (.inr rfl) (h.no_load hq) (h.no_pending hq) (h.unset (.inl hc))
  case firstLoadBegun hp =>
    exact phased_of_load (j := { newLoad .first s with addr := rootAddr s + 16 }) (by simp) (by simp)
      (fun _ => by simpa using h.unset (.inr hp)) (by simp [newLoad])
  case reloadBegun hp hl =>
    exact phased_of_load (j := { newLoad .reload s with addr := rootAddr s + 16 }) (by simp) (by simp) (by simp [newLoad])
      (fun _ => by simpa using h.set hp)
  case loadStopped hp => exact (h.congr (by simp) (by simp) (by simp) (by simp)).endLoad _
  case configFetched reply => exact h.configFetched reply
  case resetReleased => exact h.congr rfl rfl rfl rfl
  case ticked => exact h.congr rfl rfl rfl rfl
  all_goals refine h.congr ?_ ?_ ?_ ?_
  all_goals simp

/-! ### Locked -/

/-- Locked reads the lock and the lifephase alone. -/
theorem State.Locked.congr (h : s.Locked) (hl : t.life.lock = s.life.lock) (hp : t.life.phase = s.life.phase) :
    t.Locked := by
  unfold State.Locked
  rw [hl, hp]
  exact h

/-- While the lock is clear nothing is asked. -/
theorem locked_of_clear (h : t.life.lock = false) : t.Locked := by simp [State.Locked, h]

/-- In LOAD the lock is clear (R25). -/
theorem State.Locked.unlocked (h : s.Locked) (hp : s.life.phase ≠ .run) (hq : s.life.phase ≠ .halt) :
    s.life.lock = false := by
  cases hl : s.life.lock
  · rfl
  · exact absurd (h hl) (by simp [hp, hq])

/-- A load begins and ends with the lock clear or in RUN (R25). -/
theorem State.Locked.endLoad (h : s.Locked) (hp : s.life.phase = .load) (r : LoadResult) : (endLoad r s).Locked := by
  have hf : s.life.lock = false := h.unlocked (by simp [hp]) (by simp [hp])
  cases hl : s.life.load with
  | none => rw [endLoad_none hl]; exact h
  | some j =>
    by_cases hr : r = .ok
    · subst hr
      rw [endLoad_ok hl]
      exact fun _ => .inl (by simp [phaseAfter_ok])
    · cases hk : j.kind with
      | first => rw [endLoad_first hr hl hk]; exact locked_of_clear (by simp [hf])
      | reload => rw [endLoad_reload hr hl hk]; exact locked_of_clear (by simp [hf])

theorem State.Locked.configFetched (h : s.Locked) (hs : s.Phased) (reply : FetchReply) :
    (configFetched reply s).Locked := by
  unfold Machine.configFetched
  split
  · exact h
  next j hl =>
    split
    · exact h.endLoad (hs.phase_load hl) _
    · have record {ws : List W32} {j j' : LoadJob} {u u' : State} (ht : RecordTaken ws j u j' u')
          (hi : u.Locked ∧ u.life.phase = .load) : u'.Locked ∧ u'.life.phase = .load := by
        obtain ⟨-, c, -, -, hlife⟩ | ⟨-, hlife⟩ := ht.life
        · exact ⟨hi.1.congr (by rw [hlife]) (by rw [hlife]), by rw [hlife]; exact hi.2⟩
        · exact ⟨hi.1.congr (by rw [hlife]) (by rw [hlife]), by rw [hlife]; exact hi.2⟩
      exact takeRecords_induct (I := fun _ u => u.Locked ∧ u.life.phase = .load)
        (fun _ _ _ _ _ _ _ hi ht _ => record ht hi) (fun _ _ hi => hi.1.congr (by simp) (by simp))
        (fun _ _ _ r hi _ => hi.1.endLoad hi.2 r) (fun _ _ _ _ _ _ hi ht _ => (record ht hi).1.endLoad (record ht hi).2 _)
        _ ⟨h, hs.phase_load hl⟩

/-- Every move keeps the lock to RUN and HALT (R25). -/
theorem Move.locked (hm : Move s t) (hs : s.Phased) (h : s.Locked) : t.Locked := by
  cases hm
  case poweredOn held => exact locked_of_clear rfl
  case resetAsserted => exact locked_of_clear rfl
  case strapsRead root autoload hc => exact locked_of_clear (h.unlocked (by simp [hc]) (by simp [hc]))
  case firstLoadBegun hp => exact locked_of_clear (by simpa using h.unlocked (by simp [hp]) (by simp [hp]))
  case reloadBegun hp hl => exact locked_of_clear (by simpa using hl)
  case loadStopped hp => exact (h.congr (t := dropConfigFetch s) (by simp) (by simp)).endLoad (by simpa using hp) _
  case configFetched reply => exact h.configFetched hs reply
  case lockSet hp => exact fun _ => hp
  case resetReleased => exact h.congr rfl rfl
  case ticked => exact h.congr rfl rfl
  all_goals exact h.congr (by simp) (by simp)

end

/-- Settles O55: each move keeps both, and so does each step. -/
theorem everyStepKeepsTheLifephase : Obligations.EveryStepKeepsTheLifephase := by
  intro s t hp hl h
  exact step_keeps (P := fun u => u.Phased ∧ u.Locked)
    (fun _ _ hm hu => ⟨hm.phased hu.1, hm.locked hu.1 hu.2⟩)
    (fun _ _ hu => ⟨hu.1.congr rfl rfl rfl rfl, hu.2.congr rfl rfl⟩) h ⟨hp, hl⟩

end Sys2Proof.Machine
end

section
/-! What an operation leaves of the Event Writer, where all it does to it is hand events over, and of the passes'
configuration parts. -/

namespace Sys2Proof.Machine

/-! ### Events handed over (R167) -/

/-- All that happened to the Event Writer is that events were handed to it (R167). -/
def Told (w w' : EventWriter) : Prop := ∃ es, w' = takes es w

section
variable {w w' w'' : EventWriter}

theorem Told.refl (w : EventWriter) : Told w w := ⟨[], rfl⟩

theorem Told.of_eq (h : w' = w) : Told w w' := h ▸ Told.refl w

theorem Told.trans (h : Told w w') (h' : Told w' w'') : Told w w'' := by
  obtain ⟨es, rfl⟩ := h
  obtain ⟨fs, rfl⟩ := h'
  exact ⟨es ++ fs, by simp [takes]⟩

/-- Events handed over to what stands as before. -/
theorem Told.start (h : Told w' w'') (e : w' = w) : Told w w'' := e ▸ h

theorem Told.take (w : EventWriter) (e : Event) : Told w (w.take e) := ⟨[e], rfl⟩

/-- What one event keeps, any number of events keeps. -/
theorem Told.keeps {P : EventWriter → Prop} (hP : ∀ w e, P w → P (w.take e)) (h : Told w w') (hw : P w) : P w' := by
  obtain ⟨es, rfl⟩ := h
  exact foldl_keeps hP es hw

/-- Events handed over touch the pending list and the lost count alone (R167). -/
theorem Told.frame (h : Told w w') : w'.ring = w.ring ∧ w'.adopt = w.adopt ∧ w'.producer = w.producer ∧
    w'.consumer = w.consumer ∧ w'.pathError = w.pathError ∧ w'.coalesce = w.coalesce ∧ w'.expired = w.expired ∧
    w'.evt = w.evt :=
  h.keeps (P := fun u => u.ring = w.ring ∧ u.adopt = w.adopt ∧ u.producer = w.producer ∧ u.consumer = w.consumer ∧
    u.pathError = w.pathError ∧ u.coalesce = w.coalesce ∧ u.expired = w.expired ∧ u.evt = w.evt)
    (fun u e hu => by simpa using hu) ⟨rfl, rfl, rfl, rfl, rfl, rfl, rfl, rfl⟩

theorem Told.ring (h : Told w w') : w'.ring = w.ring := h.frame.1

theorem Told.adopt (h : Told w w') : w'.adopt = w.adopt := by
  obtain ⟨-, ha, -⟩ := h.frame
  exact ha

end

theorem emit_told (k : EventKind) (sub : W16) (a b : W32) (s : State) : Told s.ev (emit k sub a b s).ev := .take _ _

theorem emitAll_told (es : List (EventKind × W16 × W32 × W32)) (s : State) : Told s.ev (emitAll es s).ev :=
  foldl_keeps (Q := fun u : State => Told s.ev u.ev) (fun _ _ hu => hu.trans (.take _ _)) es (.refl _)

/-- Where each round only hands events over, `forIdx` only hands events over. -/
theorem forIdx_told {n : Nat} {f : Nat → State → State} (hf : ∀ (i : Nat) (u : State), Told u.ev (f i u).ev) (s : State) :
    Told s.ev (forIdx n f s).ev :=
  forIdx_keeps (P := fun u : State => Told s.ev u.ev) (fun i u hu => hu.trans (hf i u)) (.refl _)

theorem putAlarm_told (c : Nat) (out : AlarmRec × List EventData) (s : State) : Told s.ev (putAlarm c out s).ev :=
  emitAll_told _ _

theorem putChannel_told (c : Nat) (out : Channel × List EventData) (s : State) : Told s.ev (putChannel c out s).ev :=
  emitAll_told _ _

theorem ite_told {b : Prop} [Decidable b] {w : EventWriter} {s t : State} (hs : b → Told w s.ev)
    (ht : ¬b → Told w t.ev) : Told w (if b then s else t).ev := by
  split_ifs with hb
  · exact hs hb
  · exact ht hb

theorem lostNotice_told (i : Nat) (s : State) : Told s.ev (lostNotice i s).ev := by
  unfold lostNotice
  exact forIdx_told (fun _ _ => ite_told (fun _ => putChannel_told _ _ _) fun _ => .refl _) s

theorem silenceNotice_told (i : Nat) (s : State) : Told s.ev (silenceNotice i s).ev := by
  unfold silenceNotice
  exact forIdx_told (fun _ _ => ite_told (fun _ => putChannel_told _ _ _) fun _ => .refl _) s

theorem convertFrame_told (job : FrameJob) (s : State) : Told s.ev (convertFrame job s).ev := by
  unfold convertFrame
  exact forIdx_told (fun _ _ => ite_told (fun _ => putChannel_told _ _ _) fun _ => .refl _) { s with conv := _ }

theorem fallSilent_told (i : Nat) (s : State) : Told s.ev (fallSilent i s).ev := by
  unfold fallSilent
  refine Told.trans ?_ (emit_told _ _ _ _ _)
  exact (silenceNotice_told i _).start (by simp)

theorem offerFrame_told (i : Nat) (f : Frame) (s : State) : Told s.ev (offerFrame i f s).ev := by
  unfold offerFrame
  dsimp only
  split
  · exact .refl _
  · split
    · refine Told.trans ?_ (lostNotice_told _ _)
      exact emit_told _ _ _ _ s
    · exact emit_told _ _ _ _ s

theorem frameBeat_told (off : Nat) (b : Beat) (s : State) : Told s.ev (frameBeat off b s).ev := by
  unfold frameBeat
  refine ite_told (fun _ => .refl _) fun _ => ite_told (fun _ => ?_) fun _ => .refl _
  unfold completeFrameSlot
  dsimp only
  split
  · exact offerFrame_told _ _ (withFrameSlot _ _ s)
  · exact emit_told _ _ _ _ (withFrameSlot _ _ s)

theorem acceptFrame_told (f : Frame) (gap : Option Nat) (s : State) : Told s.ev (acceptFrame f gap s).ev := by
  have resumed (b : Bool) (u : State) (sub : W16) (x y : W32) :
      Told u.ev (if b = true then emit .scannerResumed sub x y u else u).ev :=
    ite_told (fun _ => emit_told _ _ _ _ u) fun _ => .refl _
  have noticed (b : Bool) (i : Nat) (u : State) : Told u.ev (if b = true then lostNotice i u else u).ev :=
    ite_told (fun _ => lostNotice_told i u) fun _ => .refl _
  unfold acceptFrame beginFrame
  dsimp only
  refine Told.trans ?_ (noticed _ _ _)
  cases gap with
  | none => exact resumed _ (withScanners _ s) _ _ _
  | some g =>
    refine Told.trans ?_ (emit_told _ _ _ _ _)
    exact resumed _ (withScanners _ s) _ _ _

theorem checkFrame_told (f : Frame) (s : State) : Told s.ev (checkFrame f s).ev := by
  unfold checkFrame
  refine ite_told (fun _ => emit_told _ _ _ _ s) fun _ => ?_
  split
  · exact acceptFrame_told f _ s
  · exact ite_told (fun _ => emit_told _ _ _ _ s) fun _ => ite_told (fun _ => acceptFrame_told f _ s)
      fun _ => acceptFrame_told f _ s

theorem lineBeat_told (off : Nat) (b : Beat) (s : State) : Told s.ev (lineBeat off b s).ev := by
  unfold lineBeat
  refine ite_told (fun _ => .refl _) fun _ => ite_told (fun _ => ?_) fun _ => .refl _
  unfold completeLineSlot
  dsimp only
  split
  · exact ite_told (fun _ => .refl _) fun _ => emit_told _ _ _ _ (withLineSlot _ _ s)
  · exact emit_told _ _ _ _ (withLineSlot _ _ s)

theorem checkLine_told (l : Line) (s : State) : Told s.ev (checkLine l s).ev := by
  unfold checkLine
  exact ite_told (fun _ => emit_told _ _ _ _ s) fun _ => ite_told (fun _ => emit_told _ _ _ _ s) fun _ =>
    ite_told (fun _ => emit_told _ _ _ _ s) fun _ => .refl _

theorem calibrate_told (v : Nat) (s : State) : Told s.ev (calibrate v s).ev := emit_told _ _ _ _ (withViews _ s)

theorem resetExposureOf_told (c : Nat) (s : State) : Told s.ev (resetExposureOf c s).ev := emit_told _ _ _ _ (withRecs _ s)

theorem alarmCommit_told (p credit : Nat) (s : State) : Told s.ev (alarmCommit p credit s).ev := by
  rw [alarmCommit, evalAlm_ev]
  exact forIdx_told (fun _ _ => putAlarm_told _ _ _) s

theorem alarmOosEntry_told (p : Nat) (s : State) : Told s.ev (alarmOosEntry p s).ev := by
  rw [alarmOosEntry, evalAlm_ev]
  exact forIdx_told (fun _ _ => putAlarm_told _ _ _) s

theorem alarmInhibit_told (p : Nat) (s : State) : Told s.ev (alarmInhibit p s).ev := by
  rw [alarmInhibit]
  exact forIdx_told (fun _ _ => putAlarm_told _ _ _) s

theorem leaderEvent_told (before : Hot) (s : State) : Told s.ev (leaderEvent before s).ev := by
  unfold leaderEvent
  dsimp only
  split
  · exact ite_told (fun _ => .refl _) fun _ => emit_told _ _ _ _ s
  · split
    · exact emit_told _ _ _ _ s
    · exact .refl _

theorem rebuildHot_told (s : State) : Told s.ev (rebuildHot s).ev := by
  have h := leaderEvent_told s.hot (rebuildList s)
  rwa [rebuildList_ev] at h

theorem commitPass_told (w : Work) (s : State) : Told s.ev (commitPass w s).ev := by
  unfold commitPass
  refine Told.trans ?_ (rebuildHot_told _)
  exact Told.trans (.of_eq (by simp)) (alarmCommit_told _ _ _)

theorem enterOos_told (p : Nat) (s : State) : Told s.ev (enterOos p s).ev := by
  unfold enterOos
  refine Told.trans ?_ (rebuildHot_told _)
  simp only [advanceGen_frame]
  exact (alarmOosEntry_told p _).start (by simp)

theorem exitOos_told (p : Nat) (m : Mode) (s : State) : Told s.ev (exitOos p m s).ev := by
  unfold exitOos
  simp only [appendPass_frame]
  exact (rebuildHot_told _).start (by simp)

theorem switchMode_told (p : Nat) (m : Mode) (s : State) : Told s.ev (switchMode p m s).ev := by
  have inhibited : Told s.ev (if m = .spall ∨ m = .decoke then alarmInhibit p (abandon p (putMode p m s))
      else abandon p (putMode p m s)).ev :=
    ite_told (fun _ => by simpa using alarmInhibit_told p (abandon p (putMode p m s))) fun _ => .of_eq (by simp)
  unfold switchMode
  exact ite_told (fun _ => inhibited.trans (.of_eq (by simp))) fun _ => inhibited

theorem changeMode_told (p : Nat) (m : Mode) (s : State) : Told s.ev (changeMode p m s).ev := by
  unfold changeMode
  exact ite_told (fun _ => .refl _) fun _ => ite_told (fun _ => enterOos_told p s) fun _ =>
    ite_told (fun _ => exitOos_told p m s) fun _ => switchMode_told p m s

theorem setModeEffect_told (p m : Byte) (s : State) : Told s.ev (setModeEffect p m s).ev := by
  unfold setModeEffect
  split
  · exact changeMode_told _ _ s
  · exact .refl _

theorem endExport_told (o : ExportOutcome) (s : State) : Told s.ev (endExport o s).ev := by
  unfold endExport
  split
  · exact .refl _
  · simpa using Told.take s.ev _

theorem reachEntry_told (e : W32 × W32) (j : ExportJob) (s : State) : Told s.ev (reachEntry e j s).ev := by
  unfold reachEntry
  exact ite_told (fun _ => .of_eq (by simp [postStream])) fun _ => endExport_told _ (withJob _ s)

theorem needRegion_told (j : ExportJob) (s : State) : Told s.ev (needRegion j s).ev := by
  unfold needRegion
  split
  · exact endExport_told _ (withJob _ s)
  · split
    · exact reachEntry_told _ _ s
    · exact .of_eq (by simp [postListFetch])

theorem beginExport_told (mask : Byte) (hot : Bool) (list : W32) (s : State) :
    Told s.ev (beginExport mask hot list s).ev := needRegion_told _ { s with exp := _ }

theorem listFetched_told (reply : FetchReply) (s : State) : Told s.ev (listFetched reply s).ev := by
  unfold listFetched
  split
  · exact .refl _
  · split
    · exact endExport_told _ s
    · exact reachEntry_told _ _ s

theorem continueStream_told (j : ExportJob) (s : State) : Told s.ev (continueStream j s).ev := by
  unfold continueStream
  split
  · exact ite_told (fun _ => needRegion_told _ s) fun _ => .of_eq (by simp [postStream])
  · exact needRegion_told _ s

theorem streamWritten_told (error : Bool) (s : State) : Told s.ev (streamWritten error s).ev := by
  unfold streamWritten
  split
  · exact ite_told (fun _ => .refl _) fun _ => .refl _
  · refine ite_told (fun _ => endExport_told _ s) fun _ => ?_
    dsimp only
    split
    · exact continueStream_told _ { s with exp := _ }
    · split
      · exact continueStream_told _ { s with exp := _ }
      · exact endExport_told _ (withJob _ { s with exp := _ })

theorem carryOutUrgent_told (u : Urgent) (s : State) : Told s.ev (carryOutUrgent u s).ev := by
  cases hp : s.life.phase
  case run =>
    cases u <;> simp only [carryOutUrgent, hp]
    · exact .of_eq (by simp)
    · exact .of_eq (by simp)
    · exact endExport_told _ s
  all_goals exact .of_eq (by simp [carryOutUrgent, hp])

theorem acceptUrgent_told (s : State) : Told s.ev (acceptUrgent s).ev := by
  refine ite_told (fun _ => .refl _) fun _ => ?_
  split
  · exact .refl _
  · simpa using carryOutUrgent_told _ (withCmd _ s)

theorem acceptAtOnce_told (s : State) : Told s.ev (acceptAtOnce s).ev :=
  ite_told (fun _ => acceptUrgent_told s) fun _ => .refl _

theorem cmdWriteEnded_told (s : State) : Told s.ev (cmdWriteEnded s).ev := by
  obtain ⟨-, h⟩ | ⟨-, -, h⟩ | ⟨-, h⟩ := cmdWriteEnded_cases s <;> rw [h]
  · exact .refl _
  · exact acceptUrgent_told s
  · exact .of_eq (by simp)

theorem urgentWrite_told (reg : Option Urgent) (s : State) : Told s.ev (urgentWrite reg s).ev := by
  refine ite_told (fun _ => ?_) fun _ => ?_
  · simpa using cmdWriteEnded_told (withdrawClear (withCmd { s.cmd with note := true, urgent := reg } s))
  · simpa using acceptAtOnce_told (withdrawClear (withCmd { s.cmd with note := true, urgent := reg } s))

theorem urgentRefused_told (v : W32) (s : State) : Told s.ev (urgentRefused v s).ev := by
  refine (emit_told .commandRefused absent16 v (encNat Reason.unknown.code) s).trans ?_
  simpa [urgentRefused] using cmdWriteEnded_told (withdrawClear (withCmd
    { (emit .commandRefused absent16 v (encNat Reason.unknown.code) s).cmd with note := true }
    (emit .commandRefused absent16 v (encNat Reason.unknown.code) s)))

theorem ringFetchFailed_told (s : State) : Told s.ev (ringFetchFailed s).ev := by
  refine (emit_told .commandFetchError (subj s.cmd.head) 0 0 s).trans ?_
  exact ite_told (fun _ => .refl _) fun _ => acceptAtOnce_told (withCmd _ (emit _ _ _ _ s))

theorem cmdResume_told (s : State) : Told s.ev (cmdResume s).ev := by
  have h : Told s.ev (if outstanding (cmdWake s) .commandEngine = true then cmdWake s
      else acceptAtOnce (cmdWake s)).ev :=
    ite_told (fun _ => .of_eq (by simp)) fun _ => by simpa using acceptAtOnce_told (cmdWake s)
  simpa [cmdResume] using h

theorem cmdLoadOk_told (same : Bool) (s : State) : Told s.ev (cmdLoadOk same s).ev := by
  refine ite_told (fun _ => cmdResume_told s) fun _ => ?_
  simpa using cmdResume_told (post (headWrite (withCmd { s.cmd with head := 0, tail := 0 } s))
    (withCmd { s.cmd with head := 0, tail := 0 } s))

theorem finishEntry_told (s : State) : Told s.ev (finishEntry s).ev := by
  simpa [finishEntry] using acceptUrgent_told (post (headWrite (withCmd
    { s.cmd with head := (s.cmd.head + 1) % cmdSize s } s)) (withCmd { s.cmd with head := (s.cmd.head + 1) % cmdSize s } s))

theorem holdoffWrite_told (off : Nat) (s : State) : Told s.ev (holdoffWrite off s).ev := by
  unfold holdoffWrite
  split
  · exact .refl _
  · exact emit_told _ _ _ _ s

theorem beginReload_told (s : State) : Told s.ev (beginReload s).ev := by
  simpa [beginReload, abortExportJob] using endExport_told .aborted (mapPause (viewPause (convPause (intakePause s))))

/-- A failed reload hands its events over and evaluates EVT# (R23, R171). -/
theorem failReload_told (r : LoadResult) (s : State) :
    ∃ u : State, Told s.ev u.ev ∧ Told (evalEvt u).ev (failReload r s).ev := by
  refine ⟨_, ?_, cmdResume_told _⟩
  refine Told.trans ?_ (leaderEvent_told _ _)
  unfold loadEndEvent
  exact (emit_told _ _ _ _ _).start (by simp)

/-- A failed first load hands its events over and evaluates EVT# (R23, R171). -/
theorem failFirstLoad_told (r : LoadResult) (s : State) :
    ∃ u : State, Told s.ev u.ev ∧ (failFirstLoad r s).ev = (evalEvt u).ev := by
  refine ⟨_, ?_, rfl⟩
  refine Told.trans ?_ (leaderEvent_told _ _)
  unfold loadEndEvent
  exact (emit_told _ _ _ _ _).start (by simp)

end Sys2Proof.Machine
end

section
/-! What the moves leave of the passes: their configuration parts, and what becomes of their commit ages. -/

namespace Sys2Proof.Machine

/-- A projection that every round of `mapIdx` keeps reads as before. -/
theorem Table.get_mapIdx_same {α γ : Type} [Inhabited α] {n : Nat} (g : α → γ) {f : Nat → α → α}
    (hf : ∀ i a, g (f i a) = g a) (t : Table α n) (i : Nat) : g ((t.mapIdx f).get i) = g (t.get i) := by
  by_cases hi : i < n
  · rw [Table.get_mapIdx _ _ hi, hf]
  · rw [Table.get_of_le _ (not_lt.mp hi), Table.get_of_le _ (not_lt.mp hi)]

/-- A projection that a write keeps reads as before. -/
theorem Table.get_set_same {α γ : Type} [Inhabited α] {n : Nat} (g : α → γ) {t : Table α n} {i : Nat} {a : α}
    (ha : g a = g (t.get i)) (j : Nat) : g ((t.set i a).get j) = g (t.get j) := by
  rw [Table.get_set]
  split_ifs with h
  · rw [h.1, ha]
  · rfl

/-- A relation that holds of every entry and its replacement, and of the default and itself, holds of every read. -/
theorem Table.get_mapIdx_rel {α : Type} [Inhabited α] {n : Nat} {R : α → α → Prop} {f : Nat → α → α} {t : Table α n}
    (hf : ∀ i < n, R (t.get i) (f i (t.get i))) (hd : R default default) (i : Nat) :
    R (t.get i) ((t.mapIdx f).get i) := by
  by_cases hi : i < n
  · rw [Table.get_mapIdx _ _ hi]; exact hf i hi
  · rw [Table.get_of_le _ (not_lt.mp hi), Table.get_of_le _ (not_lt.mp hi)]; exact hd

/-- A relation that holds of an entry and its replacement, and of every entry and itself, holds of every read. -/
theorem Table.get_set_rel {α : Type} [Inhabited α] {n : Nat} {R : α → α → Prop} {t : Table α n} {i : Nat} {a : α}
    (ha : R (t.get i) a) (hr : ∀ x, R x x) (j : Nat) : R (t.get j) ((t.set i a).get j) := by
  rw [Table.get_set]
  split_ifs with h
  · rw [h.1]; exact ha
  · exact hr _

/-- Everything of a pass but its freeze. -/
def Pass.thawed (x : Pass) : Pass := { x with frozen := false }

/-- The pass with the configuration part it had, its commit age as it was or counted within 65,535 (R93). -/
def Pass.Follows (x y : Pass) : Prop :=
  y.cfg = x.cfg ∧ (y.commitAge = x.commitAge ∨ ∃ a ≤ 65535, y.commitAge = some a)

theorem Pass.Follows.refl (x : Pass) : x.Follows x := ⟨rfl, .inl rfl⟩

theorem Pass.Follows.trans {x y z : Pass} (h : x.Follows y) (h' : y.Follows z) : x.Follows z := by
  obtain ⟨hc, ha⟩ := h
  obtain ⟨hc', ha' | ha'⟩ := h'
  · exact ⟨hc'.trans hc, ha'.symm ▸ ha⟩
  · exact ⟨hc'.trans hc, .inr ha'⟩

theorem Pass.Follows.of_thawed {x y : Pass} (h : y.thawed = x.thawed) : x.Follows y :=
  ⟨(congrArg Pass.cfg h : y.thawed.cfg = x.thawed.cfg),
    .inl (congrArg Pass.commitAge h : y.thawed.commitAge = x.thawed.commitAge)⟩

/-- Every pass follows its former self. -/
def PassesFollow (s t : State) : Prop := ∀ i, (s.map.passes.get i).Follows (t.map.passes.get i)

section
variable {s t u : State}

theorem PassesFollow.of_eq (h : t.map.passes = s.map.passes) : PassesFollow s t := fun _ => h ▸ .refl _

theorem PassesFollow.trans (h : PassesFollow s t) (h' : PassesFollow t u) : PassesFollow s u :=
  fun i => (h i).trans (h' i)

theorem PassesFollow.of_thawed (h : ∀ i, (t.map.passes.get i).thawed = (s.map.passes.get i).thawed) :
    PassesFollow s t := fun i => .of_thawed (h i)

theorem setPass_follows {p : Nat} {x : Pass} (h : (passAt s p).Follows x) : PassesFollow s (setPass p x s) :=
  Table.get_set_rel h .refl

end

/-! ### Freezes (R113, R114, R116) -/

/-- A freeze touches the freezes alone (R113). -/
@[simp] theorem freezePass_thawed (p : Nat) (s : State) (i : Nat) :
    ((freezePass p s).map.passes.get i).thawed = (s.map.passes.get i).thawed := by
  have set := Table.get_set_same Pass.thawed (t := s.map.passes) (a := { passAt s p with frozen := true }) (i := p) rfl i
  unfold freezePass
  dsimp only
  split
  · rfl
  · split
    · split <;> exact set
    · exact set

@[simp] theorem freezePasses_thawed (ps : List Nat) (s : State) (i : Nat) :
    ((freezePasses ps s).map.passes.get i).thawed = (s.map.passes.get i).thawed :=
  foldl_same (fun u : State => (u.map.passes.get i).thawed) (fun u p => freezePass_thawed p u i) ps s

@[simp] theorem thawPass_thawed (p : Nat) (s : State) (i : Nat) :
    ((thawPass p s).map.passes.get i).thawed = (s.map.passes.get i).thawed := by
  have set := Table.get_set_same Pass.thawed (t := s.map.passes) (a := { passAt s p with frozen := false }) (i := p) rfl i
  unfold thawPass
  split
  · simp only [appendPass_frame]
    exact set
  · rfl

@[simp] theorem thawPasses_thawed (ps : List Nat) (s : State) (i : Nat) :
    ((thawPasses ps s).map.passes.get i).thawed = (s.map.passes.get i).thawed :=
  foldl_same (fun u : State => (u.map.passes.get i).thawed) (fun u p => thawPass_thawed p u i) ps s

@[simp] theorem carryOutUrgent_thawed (c : Urgent) (s : State) (i : Nat) :
    ((carryOutUrgent c s).map.passes.get i).thawed = (s.map.passes.get i).thawed := by
  cases hp : s.life.phase
  case run => cases c <;> simp [carryOutUrgent, hp]
  all_goals simp [carryOutUrgent, hp]

@[simp] theorem acceptUrgent_thawed (s : State) (i : Nat) :
    ((acceptUrgent s).map.passes.get i).thawed = (s.map.passes.get i).thawed := by
  unfold acceptUrgent
  dsimp only
  split
  · rfl
  · split <;> simp

@[simp] theorem acceptAtOnce_thawed (s : State) (i : Nat) :
    ((acceptAtOnce s).map.passes.get i).thawed = (s.map.passes.get i).thawed := by
  unfold acceptAtOnce
  split <;> simp

@[simp] theorem cmdWriteEnded_thawed (s : State) (i : Nat) :
    ((cmdWriteEnded s).map.passes.get i).thawed = (s.map.passes.get i).thawed := by
  obtain ⟨-, h⟩ | ⟨-, -, h⟩ | ⟨-, h⟩ := cmdWriteEnded_cases s <;> simp [h]

@[simp] theorem urgentWrite_thawed (reg : Option Urgent) (s : State) (i : Nat) :
    ((urgentWrite reg s).map.passes.get i).thawed = (s.map.passes.get i).thawed := by
  unfold urgentWrite
  dsimp only
  split <;> simp

@[simp] theorem urgentRefused_thawed (v : W32) (s : State) (i : Nat) :
    ((urgentRefused v s).map.passes.get i).thawed = (s.map.passes.get i).thawed := by
  simp [urgentRefused]

@[simp] theorem ringFetchFailed_thawed (s : State) (i : Nat) :
    ((ringFetchFailed s).map.passes.get i).thawed = (s.map.passes.get i).thawed := by
  unfold ringFetchFailed
  dsimp only
  split <;> simp

@[simp] theorem cmdResume_thawed (s : State) (i : Nat) :
    ((cmdResume s).map.passes.get i).thawed = (s.map.passes.get i).thawed := by
  unfold cmdResume
  dsimp only
  split <;> simp

@[simp] theorem cmdLoadOk_thawed (same : Bool) (s : State) (i : Nat) :
    ((cmdLoadOk same s).map.passes.get i).thawed = (s.map.passes.get i).thawed := by
  unfold cmdLoadOk
  dsimp only
  split <;> simp

@[simp] theorem finishEntry_thawed (s : State) (i : Nat) :
    ((finishEntry s).map.passes.get i).thawed = (s.map.passes.get i).thawed := by
  simp [finishEntry]

/-! ### Modes, commits and loads (R93, R99, R108, R118 to R120) -/

theorem advanceGen_follows (p : Nat) (s : State) : PassesFollow s (advanceGen p s) := setPass_follows ⟨rfl, .inl rfl⟩

theorem putMode_follows (p : Nat) (m : Mode) (s : State) : PassesFollow s (putMode p m s) :=
  setPass_follows ⟨rfl, .inl rfl⟩

theorem enterOos_follows (p : Nat) (s : State) : PassesFollow s (enterOos p s) := by
  unfold PassesFollow enterOos
  simp only [rebuildHot_frame]
  refine PassesFollow.trans ?_ (advanceGen_follows p _)
  exact (putMode_follows p .oos s).trans (.of_eq (by simp))

theorem exitOos_follows (p : Nat) (m : Mode) (s : State) : PassesFollow s (exitOos p m s) := by
  unfold PassesFollow exitOos
  simp only [appendPass_frame, rebuildHot_frame]
  refine PassesFollow.trans ?_ (advanceGen_follows p _)
  exact (putMode_follows p m s).trans (.of_eq (by simp))

theorem switchMode_follows (p : Nat) (m : Mode) (s : State) : PassesFollow s (switchMode p m s) := by
  refine (putMode_follows p m s).trans (.of_eq ?_)
  unfold switchMode
  dsimp only
  split <;> split <;> simp

theorem setModeEffect_follows (p m : Byte) (s : State) : PassesFollow s (setModeEffect p m s) := by
  unfold setModeEffect
  split
  · unfold changeMode
    split_ifs
    · exact .of_eq rfl
    · exact enterOos_follows _ s
    · exact exitOos_follows _ _ s
    · exact switchMode_follows _ _ s
  · exact .of_eq rfl

theorem commitPass_follows (w : Work) (s : State) : PassesFollow s (commitPass w s) := by
  have set : PassesFollow s (setPass w.pass (commitPassState s (passAt s w.pass)) (withCells (commitCells s w) s)) :=
    Table.get_set_rel ⟨rfl, .inr ⟨0, by omega, rfl⟩⟩ .refl
  exact set.trans (.of_eq (by simp [commitPass]))

theorem mapPause_follows (s : State) : PassesFollow s (mapPause s) :=
  Table.get_mapIdx_rel (fun _ _ => ⟨rfl, .inl rfl⟩) (.refl _)

theorem beginReload_follows (s : State) : PassesFollow s (beginReload s) := by
  refine PassesFollow.trans ?_ ((mapPause_follows (viewPause (convPause (intakePause s)))).trans (.of_eq ?_))
  · exact .of_eq (by simp)
  · simp [beginReload]

theorem mapLoadOk_follows (s : State) : PassesFollow s (mapLoadOk s) := by
  refine Table.get_mapIdx_rel (fun i _ => ?_) (.refl _)
  unfold loadPass
  split_ifs
  · exact ⟨rfl, .inl rfl⟩
  · exact ⟨rfl, .inl rfl⟩

theorem mapLoadFail_follows (s : State) : PassesFollow s (mapLoadFail s) := by
  refine Table.get_mapIdx_rel (fun i _ => ?_) (.refl _)
  split_ifs
  · exact ⟨rfl, .inl rfl⟩
  · exact .refl _

theorem adoptConfig_follows (k : LoadKind) (c : RootCfg) (s : State) : PassesFollow s (adoptConfig k c s) := by
  unfold adoptConfig
  dsimp only
  refine PassesFollow.trans ?_ (.of_thawed fun i => cmdLoadOk_thawed _ _ i)
  unfold PassesFollow
  simp only [leaderEvent_frame, loadEndEvent_frame, eventLoadOk_frame, rebuildList_map, alarmLoadOk_frame,
    appendPasses_frame]
  refine PassesFollow.trans ?_ (mapLoadOk_follows _)
  exact .of_eq (by simp)

theorem failReload_follows (r : LoadResult) (s : State) : PassesFollow s (failReload r s) := by
  unfold failReload
  dsimp only
  refine PassesFollow.trans ?_ (.of_thawed fun i => cmdResume_thawed _ i)
  unfold PassesFollow
  simp only [evalEvt_map, leaderEvent_frame, loadEndEvent_frame, rebuildList_map, alarmLoadFail_frame]
  exact mapLoadFail_follows s

/-- At a load's end every pass follows its former self, or the Map Engine is cleared (R117, R118, R120). -/
theorem endLoad_passes (r : LoadResult) (s : State) :
    PassesFollow s (endLoad r s) ∨ (endLoad r s).map = MapEngine.cleared := by
  cases hl : s.life.load with
  | none => exact .inl (.of_eq (by rw [endLoad_none hl]))
  | some j =>
    have entered : PassesFollow s (loadEntered r j s) := .of_eq (by simp)
    by_cases hr : r = .ok
    · subst hr
      rw [endLoad_ok hl]
      exact .inl (entered.trans (adoptConfig_follows _ _ _))
    · cases hk : j.kind with
      | first => exact .inr (by rw [endLoad_first hr hl hk]; simp [failFirstLoad])
      | reload =>
        rw [endLoad_reload hr hl hk]
        exact .inl (entered.trans (failReload_follows r _))

/-- Every pass follows its former self, but where the Map Engine is cleared or a configuration fetch completes. -/
theorem Move.passes {s t : State} (hm : Move s t) :
    PassesFollow s t ∨ t.map = MapEngine.cleared ∨ ∃ reply, t = Machine.configFetched reply s := by
  cases hm
  case poweredOn => exact .inr (.inl rfl)
  case resetAsserted => exact .inr (.inl rfl)
  case loadStopped =>
    obtain h | h := endLoad_passes .stopped (dropConfigFetch s)
    · exact .inl (PassesFollow.trans (.of_eq (by simp)) h)
    · exact .inr (.inl h)
  case configFetched reply => exact .inr (.inr ⟨reply, rfl⟩)
  all_goals refine .inl ?_
  case reloadBegun => exact beginReload_follows s
  case refreshDue p hd =>
    unfold PassesFollow
    simp only [appendPass_frame]
    exact setPass_follows ⟨rfl, .inl rfl⟩
  case commitAged p age ha => exact setPass_follows ⟨rfl, .inr ⟨_, satAdd_le _ _ _, rfl⟩⟩
  case recomputeCommitted w hw hd => exact PassesFollow.trans (.of_eq (withWork_map_passes _ _)) (commitPass_follows w _)
  case urgentWritten reg => exact .of_thawed (urgentWrite_thawed reg s)
  case urgentRefused v => exact .of_thawed (urgentRefused_thawed v s)
  case urgentAccepted => exact .of_thawed (acceptAtOnce_thawed s)
  case fetchFailed => exact .of_thawed (ringFetchFailed_thawed s)
  case writeEnded => exact .of_thawed (cmdWriteEnded_thawed s)
  case entryFinished => exact .of_thawed (finishEntry_thawed s)
  case passesFrozen m _ _ => exact .of_thawed (freezePasses_thawed _ s)
  case passesThawed m _ _ => exact .of_thawed (thawPasses_thawed _ s)
  case modeSet p m _ _ => exact setModeEffect_follows p m s
  all_goals exact .of_eq (by simp)

end Sys2Proof.Machine
end

section
/-! Every configuration held is one whose root passed its checks (O54). -/

namespace Sys2Proof.Machine

/-! ### The records' checks give legal values (R18, R19) -/

theorem inRange_iff {lo hi n : Nat} : inRange lo hi n = true ↔ lo ≤ n ∧ n ≤ hi := by simp [inRange]

theorem cmdSizeOfCode_legal {n k : Nat} (h : cmdSizeOfCode n = some k) : k = 16 ∨ k = 64 := by
  unfold cmdSizeOfCode at h
  split at h <;> cases h
  · exact .inl rfl
  · exact .inr rfl

theorem evSizeOfCode_legal {n k : Nat} (h : evSizeOfCode n = some k) : k = 16 ∨ k = 64 ∨ k = 256 := by
  unfold evSizeOfCode at h
  split at h <;> cases h
  · exact .inl rfl
  · exact .inr (.inl rfl)
  · exact .inr (.inr rfl)

/-- A root record that passes its range checks has legal values (R18). -/
theorem parseRoot_legal {ws : List W32} {c : RootCfg} (h : parseRoot ws = some c) : c.Legal := by
  unfold parseRoot at h
  dsimp only at h
  split at h
  next threshold cmdSize evSize _ hcmd hev =>
    split_ifs at h with hok
    cases h
    simp only [Bool.and_eq_true, inRange_iff, pointerOk, beq_iff_eq, decide_eq_true_eq] at hok
    obtain ⟨⟨⟨⟨⟨⟨⟨⟨⟨⟨⟨⟨⟨-, ht⟩, hcoal⟩, hfresh⟩, hpass⟩, hscan⟩, hview⟩, hcurve⟩, hdeb⟩, hp⟩, hc⟩, hcu⟩, hce⟩, hv⟩ := hok
    have hsize := evSizeOfCode_legal hev
    exact
      { cmdSize := cmdSizeOfCode_legal hcmd
        evSize := hsize
        threshold := ⟨ht.1, by dsimp only; omega⟩
        coalesce := hcoal
        freshness := hfresh
        passes := hpass
        scanners := hscan
        views := hview.2
        curves := hcurve
        debounce := hdeb
        pointers := by simp [hp, hc, hcu, hce, hv] }
  next => cases h

/-- What the Event Writer takes of a legal root is a legal ring (R18, R172). -/
theorem evRingOf_legal {c : RootCfg} (h : c.Legal) : (evRingOf c).Legal := ⟨h.evSize, h.threshold⟩

/-- A pass record that passes has no more than 64 cells and a persistence of at most 8 (R19). -/
theorem parsePass_legal {ws : List W32} {x : PassCfg} (h : parsePass ws = some x) : x.cellCount ≤ 64 ∧ x.persistence ≤ 8 := by
  unfold parsePass at h
  dsimp only at h
  split at h
  · cases h
  · split_ifs at h with hok
    cases h
    simp only [Bool.and_eq_true, inRange_iff] at hok
    obtain ⟨⟨⟨⟨⟨⟨⟨⟨⟨⟨⟨⟨⟨hcells, -⟩, -⟩, -⟩, -⟩, -⟩, -⟩, -⟩, -⟩, -⟩, -⟩, -⟩, hpers⟩, -⟩ := hok
    exact ⟨hcells.2, hpers.2⟩

/-- A checked record does not fail with OK. -/
def Checked.NotOk {α : Type} (c : Checked α) : Prop := c ≠ .bad .ok

theorem parseChannel_notOk (n : Nat) (ws : List W32) : (parseChannel n ws).NotOk := by
  unfold parseChannel Checked.NotOk
  dsimp only
  split_ifs <;> simp

theorem parseCurve_notOk (ws : List W32) : (parseCurve ws).NotOk := by
  unfold parseCurve Checked.NotOk
  split_ifs <;> simp

theorem parseCell_notOk (n : Nat) (inUse : Nat → Bool) (used : List Nat) (w : W32) :
    (parseCell n inUse used w).NotOk := by
  unfold parseCell Checked.NotOk
  dsimp only
  split_ifs <;> simp

theorem spansFault_notOk (cellOk : Nat → Bool) (before : List Span) (used : List Nat) (sps : List Span) :
    spansFault cellOk before used sps ≠ some .ok := by
  induction sps generalizing before used with
  | nil => simp [spansFault]
  | cons sp rest ih =>
    have hsp : spanFault cellOk before used sp ≠ some .ok := by
      unfold spanFault
      split_ifs <;> simp
    unfold spansFault
    split
    next r hr => exact fun h => hsp (hr.trans h)
    next => exact ih _ _

theorem parseView_notOk (cellOk : Nat → Bool) (used : List Nat) (ws : List W32) : (parseView cellOk used ws).NotOk := by
  have hspans := spansFault_notOk cellOk [] used (viewSpans ws)
  unfold parseView Checked.NotOk
  dsimp only
  split
  · simp
  · split
    next r hr =>
      rintro ⟨⟩
      exact hspans hr
    next => simp

/-- No record fails with OK (R18 to R21). -/
theorem takeRecord_failed {ws : List W32} {j : LoadJob} {s : State} {r : LoadResult}
    (h : takeRecord ws j s = .failed r) : r ≠ .ok := by
  rintro rfl
  cases hj : j.stage <;> simp only [takeRecord, hj] at h
  case root =>
    unfold takeRoot at h
    split at h
    · cases h
    · split_ifs at h
      cases h
  case pass =>
    unfold takePass at h
    split at h <;> cases h
  case channel =>
    unfold takeChannel at h
    split at h <;> cases h
    next hr => exact parseChannel_notOk _ _ hr
  case curve =>
    unfold takeCurve at h
    split at h <;> cases h
    next hr => exact parseCurve_notOk _ hr
  case cell =>
    unfold takeCell at h
    dsimp only at h
    split at h <;> cases h
    next hr => exact parseCell_notOk _ _ _ _ hr
  case view =>
    unfold takeView at h
    split at h <;> cases h
    next hr => exact parseView_notOk _ _ _ hr

/-! ### The three parts of Configured -/

/-- The configurations of the Life Controller passed, and the windows are those of the one in force. -/
structure State.Passed (s : State) : Prop where
  pending : ∀ c, s.life.pendingCfg = some c → s.passed c
  loading : ∀ j, s.life.load = some j → j.stage ≠ .root → s.life.pendingCfg.isSome = true
  inForce : s.life.phase = .run ∨ s.life.phase = .halt → s.passed s.life.params
  reloading : ∀ j, s.life.load = some j → j.kind = .reload → s.passed s.life.params
  active : ∀ w, s.path.windows = some w → w = windowsOf s.life.params

/-- The event rings held are legal. -/
def EventWriter.Ringed (w : EventWriter) : Prop := (∀ r, w.ring = some r → r.Legal) ∧ ∀ r, w.adopt = some r → r.Legal

/-- The configuration part of a pass has no more than its 64 cells, and a persistence of at most 8. -/
def PassCfg.Fits (c : PassCfg) : Prop := c.cellCount ≤ 64 ∧ c.persistence ≤ 8

def MapEngine.Fits (m : MapEngine) : Prop := ∀ p < 8, (m.passes.get p).cfg.Fits

theorem State.configured_iff (s : State) : s.Configured ↔ s.Passed ∧ s.ev.Ringed ∧ s.map.Fits :=
  ⟨fun h => ⟨⟨h.pending, h.loading, h.inForce, h.reloading, h.active⟩, ⟨h.ring, h.adopt⟩, h.cells⟩,
    fun ⟨h, ⟨hr, ha⟩, hc⟩ => ⟨h.pending, h.loading, h.inForce, h.reloading, h.active, hr, ha, hc⟩⟩

section
variable {s t : State}

/-! ### The Life Controller's configurations -/

/-- The checks of a root read the root address alone of the state (R18). -/
theorem State.passed_congr (h : t.life.rootStrap = s.life.rootStrap) (c : RootCfg) : t.passed c ↔ s.passed c := by
  simp [State.passed, rootAddr, h]

/-- Passed reads these fields of the Life Controller and the windows alone. -/
theorem State.Passed.congr (h : s.Passed) (hr : t.life.rootStrap = s.life.rootStrap) (hp : t.life.phase = s.life.phase)
    (hl : t.life.load = s.life.load) (hc : t.life.pendingCfg = s.life.pendingCfg)
    (hf : t.life.params = s.life.params) (hw : t.path.windows = s.path.windows) : t.Passed where
  pending := by rw [hc]; exact fun c hc => (State.passed_congr hr c).mpr (h.pending c hc)
  loading := by rw [hc, hl]; exact h.loading
  inForce := by rw [hp, hf, State.passed_congr hr]; exact h.inForce
  reloading := by rw [hl, hf, State.passed_congr hr]; exact h.reloading
  active := by rw [hw, hf]; exact h.active

/-- Before a configuration is in force and with none pending nothing is asked. -/
theorem passed_of_empty (hp : t.life.phase = .clear ∨ t.life.phase = .idle) (hl : t.life.load = none)
    (hc : t.life.pendingCfg = none) (hw : t.path.windows = none) : t.Passed := by
  constructor <;> rcases hp with hp | hp <;> simp [hp, hl, hc, hw]

/-- The end of a load leaves configurations that passed: the one it adopts was pending (R23). -/
theorem State.Passed.endLoad (h : s.Passed) (hs : s.Phased) {r : LoadResult}
    (hr : r = .ok → s.life.pendingCfg.isSome = true) : (endLoad r s).Passed := by
  cases hl : s.life.load with
  | none => rw [endLoad_none hl]; exact h
  | some j =>
    by_cases hok : r = .ok
    · subst hok
      obtain ⟨c, hc⟩ := Option.isSome_iff_exists.mp (hr rfl)
      rw [endLoad_ok hl]
      constructor
      case inForce =>
        intro _
        rw [State.passed_congr (s := s) (by simp)]
        simpa [hc] using h.pending c hc
      all_goals simp
    · cases hk : j.kind with
      | first =>
        rw [endLoad_first hok hl hk]
        exact passed_of_empty (by simp [hk, phaseAfter_first hok]) (by simp) (by simp) (by simp [hs.first j hl hk])
      | reload =>
        rw [endLoad_reload hok hl hk]
        constructor
        case inForce =>
          intro _
          rw [State.passed_congr (s := s) (by simp)]
          simpa using h.reloading j hl hk
        case active => simpa using h.active
        all_goals simp

/-- A load in hand: its kind is the kept one's, and past the root a configuration is pending. -/
structure LoadSound (j : LoadJob) (s : State) : Prop where
  kept : LoadKept j s
  passed : s.Passed
  past : j.stage ≠ .root → s.life.pendingCfg.isSome = true

theorem LoadSound.after {rest : List W32} {j j' : LoadJob} (h : LoadSound j s) (hp : s.life.pendingCfg.isSome = true)
    (ha : afterRecord rest j s = some j') : LoadSound j' s :=
  ⟨h.kept.after ha, h.passed, fun _ => hp⟩

/-- A record keeps the load in hand sound, and leaves a configuration pending (R18). -/
theorem RecordTaken.loadSound {ws : List W32} {j j' : LoadJob} (ht : RecordTaken ws j s j' t) (h : LoadSound j s) :
    LoadSound j' t ∧ t.life.pendingCfg.isSome = true := by
  obtain ⟨hkind, hstage, -⟩ := ht.job
  obtain ⟨hj, c, hc, hw, hlife⟩ | ⟨hj, hlife⟩ := ht.life
  · have hp : t.life.pendingCfg = some c := by rw [hlife]
    have passed (d : RootCfg) : t.passed d ↔ s.passed d := State.passed_congr (by rw [hlife]) d
    refine ⟨⟨ht.loadKept h.kept, ⟨?_, ?_, ?_, ?_, ?_⟩, fun _ => by simp [hp]⟩, by simp [hp]⟩
    · rintro d hd
      obtain rfl : c = d := Option.some.inj (hp.symm.trans hd)
      exact (passed c).mpr ⟨parseRoot_legal hc, hw⟩
    · exact fun _ _ _ => by simp [hp]
    · simp only [hlife, passed]; exact h.passed.inForce
    · simp only [hlife, passed]; exact h.passed.reloading
    · rw [ht.path, hlife]; exact h.passed.active
  · have hp : t.life.pendingCfg.isSome = true := by rw [hlife]; exact h.past hj
    refine ⟨⟨ht.loadKept h.kept, ?_, fun _ => hp⟩, hp⟩
    exact h.passed.congr (by rw [hlife]) (by rw [hlife]) (by rw [hlife]) (by rw [hlife]) (by rw [hlife]) (by rw [ht.path])

/-- A load that goes on stays sound (R17). -/
theorem LoadSound.continueLoad {j : LoadJob} (h : LoadSound j s) : (continueLoad j s).Passed := by
  obtain ⟨⟨hs, j₀, hl, hk⟩, hp, hpast⟩ := h
  have passed (d : RootCfg) : (Machine.continueLoad j s).passed d ↔ s.passed d := State.passed_congr (by simp) d
  constructor
  · simp only [continueLoad_life, passed]; exact hp.pending
  · rintro j' hj' hst
    simp only [continueLoad_life] at hj' ⊢
    cases hj'
    exact hpast hst
  · simp only [continueLoad_life, passed]; exact hp.inForce
  · rintro j' hj' hk'
    simp only [continueLoad_life, passed] at hj' ⊢
    cases hj'
    exact hp.reloading j₀ hl (hk ▸ hk')
  · simpa using hp.active

/-- The job whose words a completed fetch brings is sound. -/
theorem State.Passed.loadSound (h : s.Passed) (hs : s.Phased) {j : LoadJob} (hl : s.life.load = some j) (ws : List W32) :
    LoadSound { j with words := ws } s :=
  ⟨⟨hs, j, hl, rfl⟩, h, h.loading j hl⟩

theorem State.Passed.configFetched (h : s.Passed) (hs : s.Phased) (reply : FetchReply) :
    (configFetched reply s).Passed := by
  unfold Machine.configFetched
  split
  · exact h
  next j hl =>
    split
    · exact h.endLoad hs (by simp)
    · exact takeRecords_induct (I := LoadSound)
        (fun _ _ _ _ _ _ _ hi ht ha => (ht.loadSound hi).1.after (ht.loadSound hi).2 ha)
        (fun _ _ hi => hi.continueLoad)
        (fun ws j u r hi hr => hi.passed.endLoad hi.kept.1 fun hok =>
          absurd hok (takeRecord_failed hr))
        (fun _ _ _ _ _ _ hi ht _ => (ht.loadSound hi).1.passed.endLoad (ht.loadSound hi).1.kept.1
          fun _ => (ht.loadSound hi).2)
        _ (h.loadSound hs hl _)

/-- A load begun holds no configuration yet; a reload falls back on the one in force (R17). -/
theorem State.Passed.beginLoad (h : s.Passed) {k : LoadKind} (hk : k = .reload → s.passed s.life.params)
    (hl : t.life = { s.life with
      phase := .load, pendingCfg := none, load := some { newLoad k s with addr := rootAddr s + 16 } })
    (hw : t.path.windows = s.path.windows) : t.Passed := by
  have passed (d : RootCfg) : t.passed d ↔ s.passed d := State.passed_congr (by rw [hl]) d
  constructor
  · simp [hl]
  · rintro j hj hst
    rw [hl] at hj
    cases hj
    exact absurd rfl hst
  · simp [hl]
  · rintro j hj hr
    rw [hl] at hj
    cases hj
    rw [passed, hl]
    exact hk hr
  · rw [hw, hl]; exact h.active

/-- Every move leaves configurations that passed. -/
theorem Move.passed (hm : Move s t) (hs : s.Phased) (h : s.Passed) : t.Passed := by
  cases hm
  case poweredOn held => exact passed_of_empty (.inl rfl) rfl rfl rfl
  case resetAsserted => exact passed_of_empty (.inl rfl) rfl rfl rfl
  case strapsRead root autoload hc =>
    have hq : s.life.phase ≠ .load := by simp [hc]
    exact passed_of_empty (.inr rfl) (hs.no_load hq) (hs.no_pending hq) (hs.unset (.inl hc))
  case firstLoadBegun hp => exact h.beginLoad (k := .first) (by simp) (by simp) (by simp)
  case reloadBegun hp hl => exact h.beginLoad (k := .reload) (fun _ => h.inForce hp) (by simp) (by simp)
  case loadStopped hp =>
    exact (h.congr (t := dropConfigFetch s) (by simp) (by simp) (by simp) (by simp) (by simp) (by simp)).endLoad
      (hs.congr (by simp) (by simp) (by simp) (by simp)) (by simp)
  case configFetched reply => exact h.configFetched hs reply
  case resetReleased => exact h.congr rfl rfl rfl rfl rfl rfl
  case ticked => exact h.congr rfl rfl rfl rfl rfl rfl
  all_goals exact h.congr (by simp) (by simp) (by simp) (by simp) (by simp) (by simp)

/-! ### The event rings -/

theorem EventWriter.Ringed.congr {w w' : EventWriter} (h : w.Ringed) (hr : w'.ring = w.ring) (ha : w'.adopt = w.adopt) :
    w'.Ringed := by
  unfold EventWriter.Ringed
  rw [hr, ha]
  exact h

theorem EventWriter.Ringed.told {w w' : EventWriter} (h : w.Ringed) (ht : Told w w') : w'.Ringed :=
  h.congr ht.ring ht.adopt

/-- A ring of the base and size in force is adopted with its indices kept (R172). -/
theorem adoptRing_kept {r : EvRing} (h : ∃ o, s.ev.ring = some o ∧ o.base = r.base ∧ o.size = r.size) :
    adoptRing r s = withEv { s.ev with ring := some r, adopt := none } s := by
  obtain ⟨o, ho, hb, hz⟩ := h
  simp [adoptRing, ho, hb, hz]

/-- Another ring is adopted with its indices at 0, which is written to the new producer word (R172). -/
theorem adoptRing_new {r : EvRing} (h : ¬∃ o, s.ev.ring = some o ∧ o.base = r.base ∧ o.size = r.size) :
    adoptRing r s = post (producerWrite r false 0) (withEv { s.ev with
      ring := some r, adopt := none, producer := 0, consumer := 0, coalesce := none, expired := false } s) := by
  cases ho : s.ev.ring with
  | none => simp [adoptRing, ho]
  | some o =>
    have hn : ¬(o.base = r.base ∧ o.size = r.size) := fun he => h ⟨o, ho, he.1, he.2⟩
    simp [adoptRing, ho, hn]

/-- After the adoption of a ring it is in force and none waits (R172). -/
@[simp] theorem adoptRing_rings (r : EvRing) (s : State) :
    (adoptRing r s).ev.ring = some r ∧ (adoptRing r s).ev.adopt = none := by
  by_cases h : ∃ o, s.ev.ring = some o ∧ o.base = r.base ∧ o.size = r.size
  · rw [adoptRing_kept h]; exact ⟨rfl, rfl⟩
  · rw [adoptRing_new h]; simp

theorem ringed_adoptRing {r : EvRing} (hr : r.Legal) (s : State) : (adoptRing r s).ev.Ringed := by
  simpa [EventWriter.Ringed] using hr

theorem EventWriter.Ringed.eventWriteEnded (h : s.ev.Ringed) : (eventWriteEnded s).ev.Ringed := by
  unfold Machine.eventWriteEnded
  split
  next r hr => exact (ringed_adoptRing (h.2 r hr) s).congr rfl rfl
  next => exact h

theorem EventWriter.Ringed.eventLoadOk (h : s.ev.Ringed) {r : EvRing} (hr : r.Legal) : (eventLoadOk r s).ev.Ringed := by
  unfold Machine.eventLoadOk
  refine EventWriter.Ringed.congr (w := (if outstanding s .eventWriter = true then withEv { s.ev with adopt := some r } s
    else adoptRing r s).ev) ?_ rfl rfl
  split
  · exact ⟨h.1, fun _ ha => Option.some.inj ha ▸ hr⟩
  · exact ringed_adoptRing hr s

/-- The adoption of a legal configuration leaves legal rings (R172). -/
theorem EventWriter.Ringed.adoptConfig (h : s.ev.Ringed) {c : RootCfg} (hc : c.Legal) (k : LoadKind) :
    (adoptConfig k c s).ev.Ringed := by
  unfold Machine.adoptConfig
  dsimp only
  refine EventWriter.Ringed.told (EventWriter.Ringed.told ?_ (leaderEvent_told _ _)) (cmdLoadOk_told _ _)
  refine EventWriter.Ringed.told ?_ (emit_told _ _ _ _ _)
  refine EventWriter.Ringed.eventLoadOk ?_ (evRingOf_legal hc)
  exact h.congr (by simp) (by simp)

theorem EventWriter.Ringed.endLoad (h : s.ev.Ringed) (hp : s.Passed) {r : LoadResult}
    (hr : r = .ok → s.life.pendingCfg.isSome = true) : (endLoad r s).ev.Ringed := by
  cases hl : s.life.load with
  | none => rw [endLoad_none hl]; exact h
  | some j =>
    have entered : (loadEntered r j s).ev.Ringed := h.congr (by simp) (by simp)
    by_cases hok : r = .ok
    · subst hok
      obtain ⟨c, hc⟩ := Option.isSome_iff_exists.mp (hr rfl)
      rw [endLoad_ok hl]
      exact entered.adoptConfig (by simpa [hc] using (hp.pending c hc).1) _
    · cases hk : j.kind with
      | first =>
        rw [endLoad_first hok hl hk]
        obtain ⟨u, hu, he⟩ := failFirstLoad_told r (loadEntered r j s)
        rw [he]
        exact (entered.told hu).congr rfl rfl
      | reload =>
        rw [endLoad_reload hok hl hk]
        obtain ⟨u, hu, he⟩ := failReload_told r (loadEntered r j s)
        exact EventWriter.Ringed.told (w := (evalEvt u).ev) ((entered.told hu).congr rfl rfl) he

/-- The ends of a completed configuration fetch, from what its records keep: the load goes on, fails, or ends OK with a
configuration pending (R17, R23). -/
theorem configFetched_ends {I P : State → Prop} (hI : ∀ ws j j' u u', I u → RecordTaken ws j u j' u' → I u')
    (hnone : s.life.load = none → P s) (goesOn : ∀ j u, LoadSound j u → I u → P (continueLoad j u))
    (ends : ∀ r u, u.Phased → u.Passed → (r = .ok → u.life.pendingCfg.isSome = true) → I u → P (endLoad r u))
    (hs : s.Phased) (hp : s.Passed) (h : I s) (reply : FetchReply) : P (Machine.configFetched reply s) := by
  unfold Machine.configFetched
  split
  next hl => exact hnone hl
  next j hl =>
    split
    · exact ends _ s hs hp (by simp) h
    · exact takeRecords_induct (I := fun j u => LoadSound j u ∧ I u)
        (fun _ _ _ _ _ _ _ hi ht ha => ⟨(ht.loadSound hi.1).1.after (ht.loadSound hi.1).2 ha, hI _ _ _ _ _ hi.2 ht⟩)
        (fun j u hi => goesOn j u hi.1 hi.2)
        (fun ws j u r hi hr => ends r u hi.1.kept.1 hi.1.passed (fun hok => absurd hok (takeRecord_failed hr)) hi.2)
        (fun _ _ _ _ u u' hi ht _ => ends .ok u' (ht.loadSound hi.1).1.kept.1 (ht.loadSound hi.1).1.passed
          (fun _ => (ht.loadSound hi.1).2) (hI _ _ _ _ _ hi.2 ht))
        _ ⟨hp.loadSound hs hl _, h⟩

theorem RecordTaken.ev {ws : List W32} {j j' : LoadJob} (h : RecordTaken ws j s j' t) : t.ev = s.ev := by
  obtain ⟨-, -, -, -, -, hev, -⟩ := h.frame
  exact hev

/-- The moves that are the Event Writer's own work, or clear it; every other move does no more than hand events to it. -/
inductive WriterWork (s : State) : State → Prop
  | cleared {t : State} (h : t.ev = default) : WriterWork s t
  | loadStopped : WriterWork s (Machine.endLoad .stopped (dropConfigFetch s))
  | configFetched (reply : FetchReply) : WriterWork s (Machine.configFetched reply s)
  | eventDropped (e : Event) (rest : List Event) (hq : s.ev.pending = e :: rest) :
      WriterWork s (withEv { s.ev with pending := rest, lost := satAdd 65535 s.ev.lost 1 } s)
  | eventPosted (r : BridgeReq) (e : Event) (rest : List Event) (hq : s.ev.pending = e :: rest) :
      WriterWork s (post r (withEv { s.ev with pending := rest } s))
  | recordWritten (error lost : Bool) : WriterWork s (Machine.recordWritten error lost s)
  | producerWritten (error first : Bool) : WriterWork s (Machine.producerWritten error first s)
  | consumerWritten (v : W32) : WriterWork s (consumerWrite v s)
  | coalesceEnded : WriterWork s (evalEvt (withEv { s.ev with coalesce := none, expired := true } s))

theorem Move.told (hm : Move s t) : Told s.ev t.ev ∨ WriterWork s t := by
  cases hm
  case poweredOn => exact .inr (.cleared rfl)
  case resetAsserted => exact .inr (.cleared rfl)
  case loadStopped => exact .inr .loadStopped
  case configFetched reply => exact .inr (.configFetched reply)
  case eventDropped e rest hq => exact .inr (.eventDropped e rest hq)
  case eventPosted r e rest hq => exact .inr (.eventPosted _ e rest hq)
  case recordWritten e l => exact .inr (.recordWritten e l)
  case producerWritten e f => exact .inr (.producerWritten e f)
  case consumerWritten v => exact .inr (.consumerWritten v)
  case coalesceEnded => exact .inr .coalesceEnded
  all_goals refine .inl ?_
  case reloadBegun => exact beginReload_told s
  case mapWritten off => exact holdoffWrite_told off s
  case frameBeat off b _ => exact frameBeat_told _ b s
  case frameTaken f rest _ _ _ => exact (checkFrame_told f (popFrame rest s)).start (by simp)
  case frameConverted job _ => exact convertFrame_told job s
  case scannerSilent i _ => exact fallSilent_told _ s
  case lineBeat off b _ => exact lineBeat_told _ b s
  case lineTaken l rest _ _ _ => exact checkLine_told l _
  case recomputeCommitted w _ _ => exact (commitPass_told w (withWork none s)).start (by simp)
  case urgentWritten reg => exact urgentWrite_told reg s
  case urgentRefused v => exact urgentRefused_told v s
  case urgentAccepted => exact acceptAtOnce_told s
  case fetchFailed => exact ringFetchFailed_told s
  case writeEnded => exact cmdWriteEnded_told s
  case entryFinished => exact finishEntry_told s
  case entryRefused op r => exact emit_told _ _ _ _ s
  case modeSet p m _ _ => exact setModeEffect_told p m s
  case viewCalibrated v _ _ => exact calibrate_told _ s
  case exposureReset c _ _ => exact resetExposureOf_told _ s
  case exportBegun mask hot list _ _ => exact beginExport_told mask hot list s
  case listFetched reply => exact listFetched_told reply s
  case streamWritten error => exact streamWritten_told error s
  all_goals exact .of_eq (by simp)

/-- Every move leaves legal rings. -/
theorem Move.ringed (hm : Move s t) (hs : s.Phased) (hp : s.Passed) (h : s.ev.Ringed) : t.ev.Ringed := by
  obtain ht | ht := hm.told
  · exact h.told ht
  cases ht
  case cleared he => rw [he]; exact ⟨nofun, nofun⟩
  case loadStopped =>
    have hd : (dropConfigFetch s).Passed := hp.congr (by simp) (by simp) (by simp) (by simp) (by simp) (by simp)
    exact (h.congr (w' := (dropConfigFetch s).ev) (by simp) (by simp)).endLoad hd (by simp)
  case configFetched reply =>
    exact configFetched_ends (I := fun u => u.ev.Ringed) (P := fun u => u.ev.Ringed)
      (fun _ _ _ _ _ hi ht => ht.ev ▸ hi) (fun _ => h) (fun _ _ _ hi => hi.congr (by simp) (by simp))
      (fun _ _ _ hp hr hi => hi.endLoad hp hr) hs hp h reply
  case eventDropped e rest _ => exact h.congr rfl rfl
  case eventPosted r e rest _ => exact h.congr (by simp) (by simp)
  case recordWritten error lost =>
    unfold Machine.recordWritten
    split
    · exact h
    · split
      · exact EventWriter.Ringed.eventWriteEnded (h.congr rfl rfl)
      · exact h.congr (by simp) (by simp)
  case producerWritten error first => exact EventWriter.Ringed.eventWriteEnded (h.congr rfl rfl)
  case consumerWritten v =>
    unfold consumerWrite
    split
    · exact h
    · exact h.congr rfl rfl
  case coalesceEnded => exact h.congr rfl rfl

/-! ### The passes' configuration parts -/

theorem MapEngine.Fits.follow (h : s.map.Fits) (hf : PassesFollow s t) : t.map.Fits := fun p hp =>
  (hf p).1.symm ▸ h p hp

theorem fits_cleared : MapEngine.cleared.Fits := fun p hp => by
  rw [MapEngine.cleared, Table.get_fill _ hp]
  exact ⟨by decide, by decide⟩

theorem MapEngine.Fits.endLoad (h : s.map.Fits) (r : LoadResult) : (endLoad r s).map.Fits := by
  obtain hf | hf := endLoad_passes r s
  · exact h.follow hf
  · rw [hf]; exact fits_cleared

/-- A pass record that passes fits its pass; no other record touches a pass (R19, R22). -/
theorem RecordTaken.fits {ws : List W32} {j j' : LoadJob} (ht : RecordTaken ws j s j' t) (h : s.map.Fits) :
    t.map.Fits := by
  cases ht
  case pass x hj hx =>
    intro p hp
    unfold setPass
    rw [withPasses_map_passes, Table.get_set]
    split_ifs
    · exact parsePass_legal hx
    · exact h p hp
  all_goals exact h

/-- Every move leaves passes that fit. -/
theorem Move.fits (hm : Move s t) (hs : s.Phased) (hp : s.Passed) (h : s.map.Fits) : t.map.Fits := by
  obtain hf | hf | ⟨reply, rfl⟩ := hm.passes
  · exact h.follow hf
  · rw [hf]; exact fits_cleared
  · exact configFetched_ends (I := fun u => u.map.Fits) (P := fun u => u.map.Fits) (fun _ _ _ _ _ hi ht => ht.fits hi)
      (fun _ => h) (fun _ _ _ hi => by simpa using hi) (fun r _ _ _ _ hi => hi.endLoad r) hs hp h reply

/-- Every move keeps every configuration legal. -/
theorem Move.configured (hm : Move s t) (hs : s.Phased) (h : s.Configured) : t.Configured := by
  obtain ⟨hp, hr, hf⟩ := s.configured_iff.mp h
  exact t.configured_iff.mpr ⟨hm.passed hs hp, hm.ringed hs hp hr, hm.fits hs hp hf⟩

end

/-- The queue of waiting commands plays no part. -/
theorem State.Configured.queue {s : State} (h : s.Configured) (rest : List Instr) :
    ({ s with pending := rest } : State).Configured :=
  ⟨h.pending, h.loading, h.inForce, h.reloading, h.active, h.ring, h.adopt, h.cells⟩

/-- Settles O54: each move keeps Configured, Phased being kept beside it. -/
theorem everyStepKeepsConfigurationsLegal : Obligations.EveryStepKeepsConfigurationsLegal := by
  intro s t hp hc h
  exact (step_keeps (P := fun u => u.Phased ∧ u.Configured)
    (fun _ _ hm hu => ⟨hm.phased hu.1, hm.configured hu.1 hu.2⟩)
    (fun _ rest hu => ⟨hu.1.congr rfl rfl rfl rfl, hu.2.queue rest⟩) h ⟨hp, hc⟩).2

end Sys2Proof.Machine
end

section
/-! Every step keeps the bounds of queues, lists, indices and counters (O53), block by block. -/

namespace Sys2Proof.Machine

/-! ### The bounds, block by block -/

def Intake.Bounded (i : Intake) : Prop := i.queue.length ≤ Config.frameQueueMax

def View.Bounded (v : View) : Prop := v.queue.length ≤ Config.lineQueueMax

def Path.Bounded (p : Path) : Prop := p.suppressed ≤ 65535 ∧ p.fairness ≤ Config.fairnessMax

/-- The pending list and the lost count (R167). -/
def EventWriter.Held (w : EventWriter) : Prop := w.pending.length ≤ Config.pendingEventsMax ∧ w.lost ≤ 65535

/-- The ring indices, once a ring is in force (R167). -/
def EventWriter.Indexed (w : EventWriter) : Prop := ∀ r, w.ring = some r → w.producer < r.size ∧ w.consumer < r.size

/-- The refresh queue (R95). -/
def QueueBounded (q : List Nat) : Prop := q.Nodup ∧ ∀ p ∈ q, p < 8

/-- The pass workspace (R97). -/
def WorkBounded (w : Option Work) : Prop := ∀ x, w = some x → x.pass < 8 ∧ x.image.length ≤ 64

/-- The commit ages (R93). -/
def MapEngine.Aged (m : MapEngine) : Prop := ∀ p < 8, ∀ a, (m.passes.get p).commitAge = some a → a ≤ 65535

def Hot.Bounded (h : Hot) : Prop := h.list.length ≤ Config.hotListMax ∧ h.eligible ≤ 512

/-- The command ring's indices, once its size is known (R159). -/
def Cmd.Bounded (size : Nat) (c : Cmd) : Prop := size ≠ 0 → c.head < size ∧ c.tail < size

/-- The verdict histories under a debounce count (R59). -/
def ChannelsBounded (d : Nat) (t : Table Channel 128) : Prop := ∀ c < 128, (t.get c).history.length ≤ d

/-- The persistence count and the exposure of an alarm record (R131, R140). -/
def AlarmRec.Bounded (r : AlarmRec) : Prop := r.persist ≤ 7 ∧ r.exposureS ≤ 4294967295 ∧ r.exposureMs ≤ 999

def RecsBounded (t : Table AlarmRec 512) : Prop := ∀ c < 512, (t.get c).Bounded

theorem State.bounded_iff (s : State) : s.Bounded ↔
    (s.intake.Bounded ∧ s.view.Bounded ∧ s.path.Bounded ∧ s.hot.Bounded) ∧ (s.ev.Held ∧ s.ev.Indexed) ∧
    (QueueBounded s.map.queue ∧ WorkBounded s.map.work ∧ s.map.Aged) ∧ s.cmd.Bounded s.life.params.cmdSize ∧
    ChannelsBounded s.life.params.debounce s.conv.channels ∧ RecsBounded s.alarm.recs :=
  ⟨fun h => ⟨⟨h.frames, h.lines, ⟨h.suppressed, h.fairness⟩, h.hot, h.eligible⟩, ⟨⟨h.events, h.lost⟩, h.evRing⟩,
      ⟨h.refresh, h.inFlight, h.ages⟩, h.cmdRing, h.histories,
      fun c hc => ⟨h.persist c hc, h.exposure c hc⟩⟩,
    fun ⟨⟨hi, hv, ⟨hps, hpf⟩, hhl, hhe⟩, ⟨⟨hep, hel⟩, her⟩, ⟨hq, hw, ha⟩, hc, hch, hr⟩ =>
      { frames := hi, lines := hv, events := hep, lost := hel, suppressed := hps, fairness := hpf, refresh := hq,
        inFlight := hw, hot := hhl, eligible := hhe, cmdRing := hc, evRing := her, histories := hch,
        persist := fun c hc => (hr c hc).1, exposure := fun c hc => (hr c hc).2, ages := ha }⟩

section
variable {s t : State}

/-! ### The Frame Intake and the View Unit (R31, R76) -/

theorem Intake.Bounded.offerFrame (h : s.intake.Bounded) (i : Nat) (f : Frame) : (offerFrame i f s).intake.Bounded := by
  unfold Machine.offerFrame
  dsimp only
  split
  next hlt => simpa [Intake.Bounded] using hlt
  next => split <;> simpa using h

theorem Intake.Bounded.frameBeat (h : s.intake.Bounded) (off : Nat) (b : Beat) : (frameBeat off b s).intake.Bounded := by
  unfold Machine.frameBeat
  dsimp only
  split
  · exact h
  · split
    · unfold completeFrameSlot
      dsimp only
      split
      · exact Intake.Bounded.offerFrame (s := withFrameSlot _ _ s) h _ _
      · exact h
    · exact h

theorem intake_bounded_of_nil {i : Intake} (h : i.queue = []) : i.Bounded := by simp [Intake.Bounded, h]

/-- The take's check leaves the frames behind the head (R34). -/
@[simp] theorem acceptFrame_queue (f : Frame) (gap : Option Nat) (s : State) :
    (acceptFrame f gap s).intake.queue = s.intake.queue := by
  unfold acceptFrame
  dsimp only
  cases gap <;> dsimp only <;> split <;> split <;> simp [beginFrame]

@[simp] theorem checkFrame_queue (f : Frame) (s : State) : (checkFrame f s).intake.queue = s.intake.queue := by
  unfold checkFrame
  dsimp only
  split
  · rfl
  · split
    · simp
    · split
      · rfl
      · split <;> simp

@[simp] theorem popFrame_queue (rest : List Frame) (s : State) : (popFrame rest s).intake.queue = rest := rfl

@[simp] theorem fallSilent_queue (i : Nat) (s : State) : (fallSilent i s).intake.queue = s.intake.queue := by
  simp [fallSilent]

@[simp] theorem intakeLoadOk_queue (s : State) : (intakeLoadOk s).intake.queue = s.intake.queue := rfl

@[simp] theorem beginReload_queue (s : State) : (beginReload s).intake.queue = [] := by
  simp [beginReload, intakePause]

/-- What a load can end as: a configuration adopted, a reload failed, or a first load failed (R23). -/
theorem endLoad_cases (r : LoadResult) (s : State) :
    endLoad r s = s ∨ ∃ j, s.life.load = some j ∧
      (r = .ok ∧ endLoad r s = adoptConfig j.kind (s.life.pendingCfg.getD default) (loadEntered r j s) ∨
        (r ≠ .ok ∧ j.kind = .reload ∧ endLoad r s = failReload r (loadEntered r j s)) ∨
        (r ≠ .ok ∧ j.kind = .first ∧ endLoad r s = failFirstLoad r (loadEntered r j s))) := by
  cases hl : s.life.load with
  | none => exact .inl (endLoad_none hl)
  | some j =>
    refine .inr ⟨j, rfl, ?_⟩
    by_cases hr : r = .ok
    · subst hr; exact .inl ⟨rfl, endLoad_ok hl⟩
    · cases hk : j.kind with
      | reload => exact .inr (.inl ⟨hr, rfl, endLoad_reload hr hl hk⟩)
      | first => exact .inr (.inr ⟨hr, rfl, endLoad_first hr hl hk⟩)

/-- What each of a load's three ends keeps, its end keeps. -/
theorem endLoad_keeps {P : State → Prop} {r : LoadResult} {s : State} (hs : P s)
    (hok : ∀ j, r = .ok → P (adoptConfig j.kind (s.life.pendingCfg.getD default) (loadEntered r j s)))
    (hreload : ∀ j, r ≠ .ok → P (failReload r (loadEntered r j s)))
    (hfirst : ∀ j, r ≠ .ok → P (failFirstLoad r (loadEntered r j s))) : P (endLoad r s) := by
  obtain h | ⟨j, -, ⟨hr, h⟩ | ⟨hr, -, h⟩ | ⟨hr, -, h⟩⟩ := endLoad_cases r s <;> rw [h]
  · exact hs
  · exact hok j hr
  · exact hreload j hr
  · exact hfirst j hr

/-- A load's end leaves the frames and lines queued, and what the path counts. -/
theorem endLoad_queues (r : LoadResult) (s : State) :
    (endLoad r s).intake.queue = s.intake.queue ∧
      ((endLoad r s).view.queue = s.view.queue ∨ (endLoad r s).view.queue = []) ∧
      (endLoad r s).path.suppressed = s.path.suppressed ∧ (endLoad r s).path.fairness = s.path.fairness := by
  refine endLoad_keeps (P := fun u => u.intake.queue = s.intake.queue ∧
    (u.view.queue = s.view.queue ∨ u.view.queue = []) ∧ u.path.suppressed = s.path.suppressed ∧
      u.path.fairness = s.path.fairness) ⟨rfl, .inl rfl, rfl, rfl⟩ (fun j _ => ?_) (fun j _ => ?_) (fun j _ => ?_)
  · simp [adoptConfig, pathLoadOk, viewLoadOk]
  · simp [failReload]
  · simp [failFirstLoad, View.cleared]

theorem Move.intake_bounded (hm : Move s t) (hs : s.Phased) (hp : s.Passed) (h : s.intake.Bounded) :
    t.intake.Bounded := by
  cases hm
  case poweredOn => exact intake_bounded_of_nil rfl
  case resetAsserted => exact intake_bounded_of_nil rfl
  case reloadBegun => exact intake_bounded_of_nil (by simp)
  case loadStopped => simpa [Intake.Bounded, (endLoad_queues _ _).1] using h
  case configFetched reply =>
    refine configFetched_ends (I := fun u => u.intake.Bounded) (P := fun u => u.intake.Bounded)
      (fun _ _ _ _ _ hi ht => ?_) (fun _ => h) (fun _ _ _ hi => by simpa using hi) (fun r u _ _ _ hi => ?_) hs hp h reply
    · obtain ⟨-, hin, -⟩ := ht.frame
      rw [hin]; exact hi
    · simpa [Intake.Bounded, (endLoad_queues r u).1] using hi
  case frameBeat off b _ => exact h.frameBeat _ b
  case frameTaken f rest _ _ hq =>
    have : s.intake.queue.length ≤ Config.frameQueueMax := h
    rw [hq, List.length_cons] at this
    simp only [Intake.Bounded, checkFrame_queue, popFrame_queue]
    omega
  case scannerSilent i _ => simpa [Intake.Bounded] using h
  all_goals simpa using h

theorem view_bounded_of_nil {v : View} (h : v.queue = []) : v.Bounded := by simp [View.Bounded, h]

theorem View.Bounded.lineBeat (h : s.view.Bounded) (off : Nat) (b : Beat) : (lineBeat off b s).view.Bounded := by
  unfold Machine.lineBeat
  dsimp only
  split
  · exact h
  · split
    · unfold completeLineSlot
      dsimp only
      split
      · unfold offerLine
        split
        next hlt => simpa [View.Bounded] using hlt
        next => exact h
      · exact h
    · exact h

/-- The take's check leaves the lines behind the head (R77). -/
@[simp] theorem checkLine_queue (l : Line) (s : State) : (checkLine l s).view.queue = s.view.queue := by
  unfold checkLine
  dsimp only
  split
  · rfl
  · split
    · rfl
    · split
      · rfl
      · rfl

@[simp] theorem completeLine_queue (job : LineJob) (s : State) : (completeLine job s).view.queue = s.view.queue := by
  unfold completeLine
  refine foldl_same (fun u : State => u.view.queue) (fun u sp => ?_) _ _
  unfold writeSpot
  split <;> rfl

@[simp] theorem setModeEffect_lines (p m : Byte) (s : State) : (setModeEffect p m s).view.queue = s.view.queue := by
  unfold setModeEffect changeMode
  split
  · split_ifs <;> simp
  · rfl

@[simp] theorem beginReload_lines (s : State) : (beginReload s).view.queue = [] := by
  simp [beginReload, viewPause]

theorem RecordTaken.lines {ws : List W32} {j j' : LoadJob} (h : RecordTaken ws j s j' t) :
    t.view.queue = s.view.queue := by
  cases h <;> simp

theorem View.Bounded.endLoad (h : s.view.Bounded) (r : LoadResult) : (endLoad r s).view.Bounded := by
  obtain ⟨-, hq | hq, -⟩ := endLoad_queues r s
  · simpa [View.Bounded, hq] using h
  · exact view_bounded_of_nil hq

theorem Move.view_bounded (hm : Move s t) (hs : s.Phased) (hp : s.Passed) (h : s.view.Bounded) : t.view.Bounded := by
  cases hm
  case poweredOn => exact view_bounded_of_nil rfl
  case resetAsserted => exact view_bounded_of_nil rfl
  case reloadBegun => exact view_bounded_of_nil (by simp)
  case loadStopped => exact View.Bounded.endLoad (s := dropConfigFetch s) (by simpa using h) _
  case configFetched reply =>
    exact configFetched_ends (I := fun u => u.view.Bounded) (P := fun u => u.view.Bounded)
      (fun _ _ _ _ _ hi ht => by simpa [View.Bounded, ht.lines] using hi) (fun _ => h)
      (fun _ _ _ hi => by simpa using hi) (fun r u _ _ _ hi => hi.endLoad r) hs hp h reply
  case lineBeat off b _ => exact h.lineBeat _ b
  case lineTaken l rest _ _ hq =>
    have : s.view.queue.length ≤ Config.lineQueueMax := h
    rw [hq, List.length_cons] at this
    simp only [View.Bounded, checkLine_queue]
    omega
  case lineCompleted job _ => simpa [View.Bounded] using h
  case viewCalibrated v _ _ => simpa [View.Bounded, calibrate] using h
  case recomputeCommitted w _ _ => simpa [View.Bounded, commitPass] using h
  case modeSet p m _ _ => simpa [View.Bounded] using h
  all_goals simpa [View.Bounded] using h

/-! ### The path's counts (R11, R12) -/

theorem path_bounded_of_eq {p q : Path} (h : p.Bounded) (hs : q.suppressed = p.suppressed)
    (hf : q.fairness = p.fairness) : q.Bounded := by
  unfold Path.Bounded
  rw [hs, hf]
  exact h

theorem Path.Bounded.endLoad (h : s.path.Bounded) (r : LoadResult) : (endLoad r s).path.Bounded := by
  obtain ⟨-, -, hs, hf⟩ := endLoad_queues r s
  exact path_bounded_of_eq h hs hf

theorem Move.path_bounded (hm : Move s t) (hs : s.Phased) (hp : s.Passed) (h : s.path.Bounded) : t.path.Bounded := by
  cases hm
  case poweredOn => exact ⟨Nat.zero_le _, Nat.zero_le _⟩
  case resetAsserted => exact ⟨Nat.zero_le _, Nat.zero_le _⟩
  case loadStopped =>
    exact Path.Bounded.endLoad (path_bounded_of_eq h (by simp [dropConfigFetch]) (by simp [dropConfigFetch])) _
  case configFetched reply =>
    exact configFetched_ends (I := fun u => u.path.Bounded) (P := fun u => u.path.Bounded)
      (fun _ _ _ _ _ hi ht => ht.path ▸ hi) (fun _ => h)
      (fun _ _ _ hi => path_bounded_of_eq hi (by simp) (by simp)) (fun r u _ _ _ hi => hi.endLoad r) hs hp h reply
  case hostGranted a hg =>
    refine ⟨h.1, ?_⟩
    dsimp only
    split
    next hb =>
      obtain hlt | hn := hg
      · exact hlt
      · rw [hn] at hb; exact Bool.noConfusion hb
    next => exact Nat.zero_le _
  case bridgeGranted who =>
    unfold grantBridge
    split
    · exact h
    · exact ⟨by simpa using h.1, Nat.zero_le _⟩
  case mapWritten off =>
    refine ⟨?_, by simpa using h.2⟩
    unfold holdoffWrite
    split
    · exact satAdd_le _ _ _
    · exact Nat.zero_le _
  all_goals exact path_bounded_of_eq h (by simp) (by simp)

/-! ### The hot list (R148) -/

/-- A rebuilt list holds at most its sixteen entries, of at most 512 eligible cells (R148, R149). -/
theorem hotOf_bounded (s : State) : (hotOf s).Bounded := by
  have hle := List.length_filterMap_le (hotEntry s) (List.range 512)
  rw [List.length_range] at hle
  constructor
  · simp only [hotOf, List.length_take]
    exact Nat.min_le_left _ _
  · simpa only [hotOf, eligibleEntries] using hle

theorem Move.hot_bounded (hm : Move s t) (hs : s.Phased) (hp : s.Passed) (h : s.hot.Bounded) : t.hot.Bounded := by
  have ended {r : LoadResult} {u : State} (hu : u.hot.Bounded) : (Machine.endLoad r u).hot.Bounded := by
    refine endLoad_keeps (P := fun u => u.hot.Bounded) hu (fun j _ => ?_) (fun j _ => ?_) (fun j _ => ?_)
    · simp [adoptConfig, hotOf_bounded]
    · simp [failReload, hotOf_bounded]
    · simp [failFirstLoad, hotOf_bounded]
  cases hm
  case poweredOn => exact ⟨Nat.zero_le _, Nat.zero_le _⟩
  case resetAsserted => exact ⟨Nat.zero_le _, Nat.zero_le _⟩
  case loadStopped => exact ended (by simpa using h)
  case configFetched reply =>
    refine configFetched_ends (I := fun u => u.hot.Bounded) (P := fun u => u.hot.Bounded)
      (fun _ _ _ _ _ hi ht => ?_) (fun _ => h) (fun _ _ _ hi => by simpa using hi) (fun r u _ _ _ hi => ended hi)
      hs hp h reply
    obtain ⟨-, -, -, hh, -⟩ := ht.frame
    rw [hh]; exact hi
  case recomputeCommitted w _ _ => simp [commitPass, hotOf_bounded]
  case modeSet p m _ _ =>
    unfold setModeEffect changeMode
    split
    · split_ifs
      · exact h
      · simp [enterOos, hotOf_bounded]
      · simp [exitOos, hotOf_bounded]
      · simpa using h
    · exact h
  all_goals simpa using h

/-! ### The Event Writer (R167) -/

theorem EventWriter.Held.take {w : EventWriter} (h : w.Held) (e : Event) : (w.take e).Held := by
  obtain ht | ⟨-, ht⟩ | ⟨hlt, ht⟩ := w.take_cases e <;> rw [ht]
  · exact h
  · exact ⟨h.1, satAdd_le _ _ _⟩
  · refine ⟨?_, h.2⟩
    simp only [List.length_append, List.length_singleton, Config.pendingEventsMax]
    omega

theorem EventWriter.Held.told {w w' : EventWriter} (h : w.Held) (ht : Told w w') : w'.Held :=
  ht.keeps (fun _ e hw => hw.take e) h

theorem EventWriter.Indexed.told {w w' : EventWriter} (h : w.Indexed) (ht : Told w w') : w'.Indexed := by
  obtain ⟨hr, -, hp, hc, -⟩ := ht.frame
  unfold EventWriter.Indexed
  rw [hr, hp, hc]
  exact h

/-- The Event Writer within its bounds. -/
def EventWriter.Bounded (w : EventWriter) : Prop := w.Held ∧ w.Indexed

theorem EventWriter.Bounded.told {w w' : EventWriter} (h : w.Bounded) (ht : Told w w') : w'.Bounded :=
  ⟨h.1.told ht, h.2.told ht⟩

theorem EventWriter.Bounded.evalEvt (h : s.ev.Bounded) : (evalEvt s).ev.Bounded := h

/-- A legal ring is not empty (R18). -/
theorem EvRing.Legal.pos {r : EvRing} (h : r.Legal) : 0 < r.size := by
  have := h.1
  omega

/-- Of a ring adopted the indices lie within it (R172). -/
theorem EventWriter.Bounded.adoptRing (h : s.ev.Bounded) {r : EvRing} (hr : r.Legal) : (adoptRing r s).ev.Bounded := by
  by_cases hk : ∃ o, s.ev.ring = some o ∧ o.base = r.base ∧ o.size = r.size
  · rw [adoptRing_kept hk]
    obtain ⟨o, ho, -, hz⟩ := hk
    refine ⟨h.1, fun r' hr' => ?_⟩
    obtain rfl : r = r' := Option.some.inj hr'
    rw [← hz]
    exact h.2 o ho
  · rw [adoptRing_new hk, post_ev]
    refine ⟨h.1, fun r' hr' => ?_⟩
    obtain rfl : r = r' := Option.some.inj hr'
    exact ⟨hr.pos, hr.pos⟩

theorem EventWriter.Bounded.eventWriteEnded (h : s.ev.Bounded) (hl : s.ev.Ringed) : (eventWriteEnded s).ev.Bounded := by
  unfold Machine.eventWriteEnded
  split
  next r hr => exact h.adoptRing (hl.2 r hr)
  next => exact h

theorem EventWriter.Bounded.eventLoadOk (h : s.ev.Bounded) {r : EvRing} (hr : r.Legal) : (eventLoadOk r s).ev.Bounded := by
  unfold Machine.eventLoadOk
  split
  · exact h
  · exact h.adoptRing hr

theorem EventWriter.Bounded.adoptConfig (h : s.ev.Bounded) {c : RootCfg} (hc : c.Legal) (k : LoadKind) :
    (adoptConfig k c s).ev.Bounded := by
  unfold Machine.adoptConfig
  dsimp only
  refine EventWriter.Bounded.told (EventWriter.Bounded.told ?_ (leaderEvent_told _ _)) (cmdLoadOk_told _ _)
  refine EventWriter.Bounded.told ?_ (emit_told _ _ _ _ _)
  refine EventWriter.Bounded.eventLoadOk ?_ (evRingOf_legal hc)
  simpa using h

theorem EventWriter.Bounded.endLoad (h : s.ev.Bounded) (hp : s.Passed) {r : LoadResult}
    (hr : r = .ok → s.life.pendingCfg.isSome = true) : (endLoad r s).ev.Bounded := by
  have entered (j : LoadJob) : (loadEntered r j s).ev.Bounded := by simpa using h
  refine endLoad_keeps (P := fun u => u.ev.Bounded) h (fun j hok => ?_) (fun j _ => ?_) (fun j _ => ?_)
  · obtain ⟨c, hc⟩ := Option.isSome_iff_exists.mp (hr hok)
    exact (entered j).adoptConfig (by simpa [hc] using (hp.pending c hc).1) _
  · obtain ⟨u, hu, he⟩ := failReload_told r (loadEntered r j s)
    exact EventWriter.Bounded.told ((entered j).told hu).evalEvt he
  · obtain ⟨u, hu, he⟩ := failFirstLoad_told r (loadEntered r j s)
    rw [he]
    exact ((entered j).told hu).evalEvt

theorem Move.ev_bounded (hm : Move s t) (hs : s.Phased) (hp : s.Passed) (hl : s.ev.Ringed) (h : s.ev.Bounded) :
    t.ev.Bounded := by
  obtain ht | ht := hm.told
  · exact h.told ht
  cases ht
  case cleared he => rw [he]; exact ⟨⟨by decide, by decide⟩, nofun⟩
  case loadStopped =>
    have hd : (dropConfigFetch s).Passed := hp.congr (by simp) (by simp) (by simp) (by simp) (by simp) (by simp)
    exact EventWriter.Bounded.endLoad (by simpa using h) hd (by simp)
  case configFetched reply =>
    exact configFetched_ends (I := fun u => u.ev.Bounded) (P := fun u => u.ev.Bounded)
      (fun _ _ _ _ _ hi ht => ht.ev ▸ hi) (fun _ => h) (fun _ _ _ hi => by simpa using hi)
      (fun _ _ _ hp hr hi => hi.endLoad hp hr) hs hp h reply
  case eventDropped e rest hq =>
    have : s.ev.pending.length ≤ Config.pendingEventsMax := h.1.1
    rw [hq, List.length_cons] at this
    exact ⟨⟨by dsimp only [withEv]; omega, satAdd_le _ _ _⟩, h.2⟩
  case eventPosted r e rest hq =>
    have : s.ev.pending.length ≤ Config.pendingEventsMax := h.1.1
    rw [hq, List.length_cons] at this
    rw [post_ev]
    exact ⟨⟨by dsimp only [withEv]; omega, h.1.2⟩, h.2⟩
  case recordWritten error lost =>
    unfold Machine.recordWritten
    split
    · exact h
    next r hr =>
      split
      · refine EventWriter.Bounded.eventWriteEnded ⟨⟨h.1.1, ?_⟩, h.2⟩ hl
        dsimp only [withEv]
        split
        · exact h.1.2
        · exact satAdd_le _ _ _
      · dsimp only
        rw [post_ev]
        refine ⟨⟨h.1.1, ?_⟩, fun r' hr' => ?_⟩
        · dsimp only [withEv]
          split
          · exact Nat.zero_le _
          · exact h.1.2
        · obtain rfl : r = r' := Option.some.inj (hr.symm.trans hr')
          exact ⟨Nat.mod_lt _ (hl.1 r hr).pos, (h.2 r hr).2⟩
  case producerWritten error first => exact EventWriter.Bounded.eventWriteEnded ⟨h.1, h.2⟩ hl
  case consumerWritten v =>
    unfold consumerWrite
    split
    · exact h
    next r hr =>
      refine ⟨h.1, fun r' hr' => ?_⟩
      obtain rfl : r = r' := Option.some.inj (hr.symm.trans hr')
      exact ⟨(h.2 r hr).1, Nat.mod_lt _ (hl.1 r hr).pos⟩
  case coalesceEnded => exact h

end

end Sys2Proof.Machine
end

section
/-! The bounds of the refresh queue, the workspace, the command ring, the histories and the alarm records (O53). -/

namespace Sys2Proof.Machine

section
variable {s t : State}

/-! ### The refresh queue and the workspace (R95, R97) -/

/-- The refresh queue and the workspace within their bounds. -/
def MapEngine.Queued (m : MapEngine) : Prop := QueueBounded m.queue ∧ WorkBounded m.work

theorem MapEngine.Queued.congr {m n : MapEngine} (h : m.Queued) (hq : n.queue = m.queue) (hw : n.work = m.work) :
    n.Queued := by
  unfold MapEngine.Queued
  rw [hq, hw]
  exact h

/-- An empty queue and an empty workspace are within their bounds. -/
theorem queued_of_empty {m : MapEngine} (hq : m.queue = []) (hw : m.work = none) : m.Queued := by
  simp [MapEngine.Queued, QueueBounded, WorkBounded, hq, hw]

theorem WorkBounded.none : WorkBounded none := nofun

theorem MapEngine.Queued.removeQueued (h : s.map.Queued) (p : Nat) : (removeQueued p s).map.Queued :=
  ⟨⟨h.1.1.erase p, fun x hx => h.1.2 x (List.mem_of_mem_erase hx)⟩, h.2⟩

/-- A pass is appended once (R95). -/
theorem MapEngine.Queued.appendPass (h : s.map.Queued) {p : Nat} (hp : p < 8) : (appendPass p s).map.Queued := by
  unfold Machine.appendPass
  split
  · exact h
  next hn =>
    split
    · exact h
    · split
      · exact h
      · have hmem : p ∉ s.map.queue := by simpa [passQueued] using hn
        refine ⟨⟨?_, ?_⟩, h.2⟩
        · simpa [List.nodup_append] using ⟨h.1.1, fun x hx he => hmem (he ▸ hx)⟩
        · intro x hx
          obtain hx | hx : x ∈ s.map.queue ∨ x = p := by simpa using hx
          · exact h.1.2 x hx
          · rw [hx]; exact hp

theorem MapEngine.Queued.appendPasses (h : s.map.Queued) {ps : List Nat} (hp : ∀ p ∈ ps, p < 8) :
    (appendPasses ps s).map.Queued := by
  unfold Machine.appendPasses
  induction ps generalizing s with
  | nil => exact h
  | cons p ps ih => exact ih (h.appendPass (hp p (by simp))) fun q hq => hp q (by simp [hq])

theorem MapEngine.Queued.freezePass (h : s.map.Queued) (p : Nat) : (freezePass p s).map.Queued := by
  have removed : (Machine.removeQueued p (setPass p { passAt s p with frozen := true } s)).map.Queued :=
    MapEngine.Queued.removeQueued (s := setPass p { passAt s p with frozen := true } s) h p
  unfold Machine.freezePass
  dsimp only
  split
  · exact h
  · split
    next w hw =>
      split
      · refine ⟨removed.1, fun x hx => ?_⟩
        cases hx
        exact h.2 w hw
      · exact removed
    next => exact removed

theorem MapEngine.Queued.freezePasses (h : s.map.Queued) (ps : List Nat) : (freezePasses ps s).map.Queued :=
  foldl_keeps (Q := fun u : State => u.map.Queued) (fun _ p hu => hu.freezePass p) ps h

theorem MapEngine.Queued.thawPass (h : s.map.Queued) {p : Nat} (hp : p < 8) : (thawPass p s).map.Queued := by
  unfold Machine.thawPass
  split
  · exact MapEngine.Queued.appendPass (s := setPass p { passAt s p with frozen := false } s) h hp
  · exact h

theorem MapEngine.Queued.thawPasses (h : s.map.Queued) {ps : List Nat} (hp : ∀ p ∈ ps, p < 8) :
    (thawPasses ps s).map.Queued := by
  unfold Machine.thawPasses
  induction ps generalizing s with
  | nil => exact h
  | cons p ps ih => exact ih (h.thawPass (hp p (by simp))) fun q hq => hp q (by simp [hq])

/-- In RUN no more than the eight passes are configured. -/
def State.EightPasses (s : State) : Prop := s.life.phase = .run → s.life.params.passCount ≤ 8

theorem State.EightPasses.congr (h : s.EightPasses) (he : t.life = s.life) : t.EightPasses := by
  unfold State.EightPasses
  rw [he]
  exact h

theorem MapEngine.Queued.carryOutUrgent (h : s.map.Queued) (he : s.EightPasses) (u : Urgent) :
    (carryOutUrgent u s).map.Queued := by
  cases hp : s.life.phase
  case run =>
    have all : ∀ p ∈ allPasses s, p < 8 := fun p hq => (List.mem_range.mp hq).trans_le (he hp)
    cases u <;> simp only [Machine.carryOutUrgent, hp]
    · exact h.freezePasses _
    · exact h.thawPasses all
    · exact h.congr (by simp) (by simp)
  all_goals exact h.congr (by simp [Machine.carryOutUrgent, hp]) (by simp [Machine.carryOutUrgent, hp])

theorem MapEngine.Queued.acceptUrgent (h : s.map.Queued) (he : s.EightPasses) : (acceptUrgent s).map.Queued := by
  unfold Machine.acceptUrgent
  split
  · exact h
  · split
    · exact h
    next u hu =>
      dsimp only
      rw [post_map]
      exact MapEngine.Queued.carryOutUrgent (s := withCmd { s.cmd with urgent := none, note := false } s) h he u

theorem MapEngine.Queued.acceptAtOnce (h : s.map.Queued) (he : s.EightPasses) : (acceptAtOnce s).map.Queued := by
  unfold Machine.acceptAtOnce
  split
  · exact h.acceptUrgent he
  · exact h

theorem MapEngine.Queued.cmdWriteEnded (h : s.map.Queued) (he : s.EightPasses) : (cmdWriteEnded s).map.Queued := by
  obtain ⟨-, hc⟩ | ⟨-, -, hc⟩ | ⟨-, hc⟩ := cmdWriteEnded_cases s <;> rw [hc]
  · exact h
  · exact h.acceptUrgent he
  · simpa using h

theorem MapEngine.Queued.urgentWrite (h : s.map.Queued) (he : s.EightPasses) (reg : Option Urgent) :
    (urgentWrite reg s).map.Queued := by
  have hw : (withdrawClear (withCmd { s.cmd with note := true, urgent := reg } s)).map.Queued := by simpa using h
  have hew : (withdrawClear (withCmd { s.cmd with note := true, urgent := reg } s)).EightPasses := he.congr (by simp)
  unfold Machine.urgentWrite
  dsimp only
  split
  · exact hw.cmdWriteEnded hew
  · simpa using hw.acceptAtOnce hew

theorem MapEngine.Queued.urgentRefused (h : s.map.Queued) (he : s.EightPasses) (v : W32) :
    (urgentRefused v s).map.Queued := by
  unfold Machine.urgentRefused
  exact MapEngine.Queued.cmdWriteEnded (by simpa using h) (he.congr (by simp))

theorem MapEngine.Queued.ringFetchFailed (h : s.map.Queued) (he : s.EightPasses) : (ringFetchFailed s).map.Queued := by
  unfold Machine.ringFetchFailed
  dsimp only
  split
  · exact h
  · exact MapEngine.Queued.acceptAtOnce (by simpa using h) (he.congr (by simp))

theorem MapEngine.Queued.cmdResume (h : s.map.Queued) (he : s.EightPasses) : (cmdResume s).map.Queued := by
  have woken : (cmdWake s).map.Queued := by simpa using h
  unfold Machine.cmdResume
  dsimp only
  simp only [fetchIfDue_frame]
  split
  · exact woken
  · exact woken.acceptAtOnce (he.congr (by simp))

theorem MapEngine.Queued.cmdLoadOk (h : s.map.Queued) (he : s.EightPasses) (same : Bool) : (cmdLoadOk same s).map.Queued := by
  unfold Machine.cmdLoadOk
  dsimp only
  split
  · exact h.cmdResume he
  · exact MapEngine.Queued.cmdResume (by simpa using h) (he.congr (by simp))

theorem MapEngine.Queued.finishEntry (h : s.map.Queued) (he : s.EightPasses) : (finishEntry s).map.Queued := by
  unfold Machine.finishEntry
  exact MapEngine.Queued.acceptUrgent (by simpa using h) (he.congr (by simp))

theorem MapEngine.Queued.abandon (h : s.map.Queued) (p : Nat) : (abandon p s).map.Queued := by
  unfold Machine.abandon
  split
  · exact ⟨h.1, .none⟩
  · exact h

theorem MapEngine.Queued.changeMode (h : s.map.Queued) {p : Nat} (hp : p < 8) (m : Mode) : (changeMode p m s).map.Queued := by
  have changed : (Machine.abandon p (putMode p m s)).map.Queued :=
    MapEngine.Queued.abandon (h.congr (by simp) (by simp)) p
  have inhibited : (if m = .spall ∨ m = .decoke then alarmInhibit p (Machine.abandon p (putMode p m s))
      else Machine.abandon p (putMode p m s)).map.Queued := by
    split
    · simpa using changed
    · exact changed
  unfold Machine.changeMode
  split_ifs
  · exact h
  · unfold enterOos
    refine MapEngine.Queued.congr (m := (Machine.removeQueued p (Machine.abandon p (putMode p .oos s))).map) ?_
      (by simp) (by simp)
    exact MapEngine.Queued.removeQueued (MapEngine.Queued.abandon (h.congr (by simp) (by simp)) p) p
  · unfold exitOos
    exact MapEngine.Queued.appendPass (h.congr (by simp) (by simp)) hp
  · unfold switchMode
    dsimp only
    split
    · exact inhibited.appendPass hp
    · exact inhibited

theorem MapEngine.Queued.setModeEffect (h : s.map.Queued) {p : Byte} (hp : p.toNat < 8) (m : Byte) :
    (setModeEffect p m s).map.Queued := by
  unfold Machine.setModeEffect
  split
  · exact h.changeMode hp _
  · exact h

/-- The mask names bits 0 to 7 (R180). -/
theorem lt_of_mem_maskPasses {m : Byte} {p : Nat} (h : p ∈ maskPasses m) : p < 8 :=
  List.mem_range.mp (List.mem_filter.mp h).1

/-- At a load's end with result OK the passes in service are appended, a recompute is abandoned (R96, R118). -/
theorem MapEngine.Queued.adoptConfig (h : s.map.Queued) {c : RootCfg} (hc : c.passCount ≤ 8) (k : LoadKind) :
    (adoptConfig k c s).map.Queued := by
  unfold Machine.adoptConfig
  dsimp only
  refine MapEngine.Queued.cmdLoadOk ?_ (fun _ => by simpa using hc) _
  simp only [leaderEvent_frame, loadEndEvent_frame, eventLoadOk_frame, rebuildList_map, alarmLoadOk_frame]
  refine MapEngine.Queued.appendPasses ?_ fun p hp => ?_
  · refine ⟨?_, .none⟩
    simpa [mapLoadOk] using h.1
  · have hlt : p < c.passCount := by simpa [passCount] using List.mem_range.mp (List.mem_filter.mp hp).1
    omega

theorem MapEngine.Queued.endLoad (h : s.map.Queued) (hp : s.Passed) {r : LoadResult}
    (hr : r = .ok → s.life.pendingCfg.isSome = true) : (endLoad r s).map.Queued := by
  obtain he | ⟨j, -, ⟨hok, he⟩ | ⟨hok, hk, he⟩ | ⟨-, -, he⟩⟩ := endLoad_cases r s <;> rw [he]
  · exact h
  · obtain ⟨c, hc⟩ := Option.isSome_iff_exists.mp (hr hok)
    exact MapEngine.Queued.adoptConfig (by simpa using h) (by simpa [hc] using (hp.pending c hc).1.passes.2) _
  · unfold failReload
    refine MapEngine.Queued.cmdResume (h.congr (by simp) (by simp)) fun hrun => ?_
    simp [hk, phaseAfter_reload hok] at hrun
  · exact queued_of_empty (by simp [failFirstLoad, MapEngine.cleared]) (by simp [failFirstLoad, MapEngine.cleared])

theorem RecordTaken.queued {ws : List W32} {j j' : LoadJob} (ht : RecordTaken ws j s j' t) (h : s.map.Queued) :
    t.map.Queued := by
  cases ht <;> exact h.congr (by simp) (by simp)

/-- The image of a pass holds its cells, no more than 64 (R98). -/
theorem imageOf_length (s : State) (p : Nat) : (imageOf s p).length = (passAt s p).cfg.cellCount := by
  simp [imageOf]

theorem eightPasses_of (hp : s.Passed) : s.EightPasses := fun hr => (hp.inForce (.inl hr)).1.passes.2

/-- Every move keeps the refresh queue and the workspace within their bounds. -/
theorem Move.queued (hm : Move s t) (hs : s.Phased) (hc : s.Passed) (hf : s.map.Fits) (h : s.map.Queued) :
    t.map.Queued := by
  have he : s.EightPasses := eightPasses_of hc
  cases hm
  case poweredOn => exact queued_of_empty rfl rfl
  case resetAsserted => exact queued_of_empty rfl rfl
  case reloadBegun => exact queued_of_empty (by simp [beginReload, mapPause]) (by simp [beginReload, mapPause])
  case loadStopped =>
    have hd : (dropConfigFetch s).Passed := hc.congr (by simp) (by simp) (by simp) (by simp) (by simp) (by simp)
    exact MapEngine.Queued.endLoad (by simpa using h) hd (by simp)
  case configFetched reply =>
    exact configFetched_ends (I := fun u => u.map.Queued) (P := fun u => u.map.Queued)
      (fun _ _ _ _ _ hi ht => ht.queued hi) (fun _ => h) (fun _ _ _ hi => by simpa using hi)
      (fun _ _ _ hp hr hi => hi.endLoad hp hr) hs hc h reply
  case refreshDue p hd => exact MapEngine.Queued.appendPass (h.congr (by simp) (by simp)) p.isLt
  case commitAged => exact h.congr (by simp) (by simp)
  case recomputeBegun p rest hp hw hq =>
    have hnd : (p :: rest).Nodup := hq ▸ h.1.1
    have hlt : ∀ x ∈ p :: rest, x < 8 := hq ▸ h.1.2
    refine ⟨⟨hnd.of_cons, fun x hx => hlt x (List.mem_cons_of_mem _ hx)⟩, fun w hw => ?_⟩
    cases hw
    refine ⟨hlt p (by simp), ?_⟩
    rw [imageOf_length]
    exact (hf p (hlt p (by simp))).1
  case recomputeDropped => exact ⟨h.1, .none⟩
  case recomputeCommitted w hw hd =>
    exact MapEngine.Queued.congr (m := (withWork none s).map) ⟨h.1, .none⟩ (by simp [commitPass]) (by simp [commitPass])
  case urgentWritten reg => exact h.urgentWrite he reg
  case urgentRefused v => exact h.urgentRefused he v
  case urgentAccepted => exact h.acceptAtOnce he
  case fetchFailed => exact h.ringFetchFailed he
  case writeEnded => exact h.cmdWriteEnded he
  case entryFinished => exact h.finishEntry he
  case passesFrozen m _ _ => exact h.freezePasses _
  case passesThawed m _ _ => exact h.thawPasses fun _ => lt_of_mem_maskPasses
  case refreshForced m _ _ => exact h.appendPasses fun _ => lt_of_mem_maskPasses
  case modeSet p m hp hm =>
    have hlt : p.toNat < passCount s := by
      by_contra hle
      simp [modeCheck, not_lt.mp hle] at hm
    exact h.setModeEffect (hlt.trans_le (he hp)) m
  all_goals exact h.congr (by simp) (by simp)

/-! ### The commit ages (R93) -/

theorem MapEngine.Aged.follow (h : s.map.Aged) (hf : PassesFollow s t) : t.map.Aged := by
  intro p hp a ha
  obtain hsame | ⟨b, hb, hb'⟩ := (hf p).2
  · exact h p hp a (hsame ▸ ha)
  · obtain rfl : b = a := Option.some.inj (hb'.symm.trans ha)
    exact hb

theorem aged_cleared : MapEngine.cleared.Aged := by
  intro p hp a ha
  rw [MapEngine.cleared, Table.get_fill _ hp] at ha
  cases ha

theorem RecordTaken.aged {ws : List W32} {j j' : LoadJob} (ht : RecordTaken ws j s j' t) (h : s.map.Aged) :
    t.map.Aged := by
  cases ht
  case pass x _ _ =>
    have same := Table.get_set_same Pass.commitAge (t := s.map.passes) (i := j.index)
      (a := { passAt s j.index with cfg := x }) rfl
    exact fun p hp a ha => h p hp a ((same p).symm.trans ha)
  all_goals exact h

theorem Move.aged (hm : Move s t) (hs : s.Phased) (hp : s.Passed) (h : s.map.Aged) : t.map.Aged := by
  obtain hf | hf | ⟨reply, rfl⟩ := hm.passes
  · exact h.follow hf
  · rw [hf]; exact aged_cleared
  · refine configFetched_ends (I := fun u => u.map.Aged) (P := fun u => u.map.Aged) (fun _ _ _ _ _ hi ht => ht.aged hi)
      (fun _ => h) (fun _ _ _ hi => by simpa using hi) (fun r u _ _ _ hi => ?_) hs hp h reply
    obtain he | he := endLoad_passes r u
    · exact hi.follow he
    · rw [he]; exact aged_cleared

end

end Sys2Proof.Machine
end

section
/-! Every step keeps the command ring's indices within the ring (O53, R159). -/

namespace Sys2Proof.Machine

section
variable {s t : State}

/-! ### What leaves the ring indices alone -/

@[simp] theorem fetchIfDue_indices (s : State) :
    (fetchIfDue s).cmd.head = s.cmd.head ∧ (fetchIfDue s).cmd.tail = s.cmd.tail := by
  unfold fetchIfDue
  split <;> simp [withCmd]

@[simp] theorem leaveBusy_indices (s : State) :
    (leaveBusy s).cmd.head = s.cmd.head ∧ (leaveBusy s).cmd.tail = s.cmd.tail := by
  unfold leaveBusy
  split <;> simp [withCmd]

@[simp] theorem acceptUrgent_indices (s : State) :
    (acceptUrgent s).cmd.head = s.cmd.head ∧ (acceptUrgent s).cmd.tail = s.cmd.tail := by
  unfold acceptUrgent
  split
  · simp
  · split <;> simp [withCmd]

@[simp] theorem acceptAtOnce_indices (s : State) :
    (acceptAtOnce s).cmd.head = s.cmd.head ∧ (acceptAtOnce s).cmd.tail = s.cmd.tail := by
  unfold acceptAtOnce
  split <;> simp

@[simp] theorem cmdWriteEnded_indices (s : State) :
    (cmdWriteEnded s).cmd.head = s.cmd.head ∧ (cmdWriteEnded s).cmd.tail = s.cmd.tail := by
  obtain ⟨-, h⟩ | ⟨-, -, h⟩ | ⟨-, h⟩ := cmdWriteEnded_cases s <;> simp [h]

@[simp] theorem urgentWrite_indices (reg : Option Urgent) (s : State) :
    (urgentWrite reg s).cmd.head = s.cmd.head ∧ (urgentWrite reg s).cmd.tail = s.cmd.tail := by
  unfold urgentWrite
  dsimp only
  split <;> simp [withCmd]

@[simp] theorem urgentRefused_indices (v : W32) (s : State) :
    (urgentRefused v s).cmd.head = s.cmd.head ∧ (urgentRefused v s).cmd.tail = s.cmd.tail := by
  simp [urgentRefused, withCmd]

@[simp] theorem ringFetchFailed_indices (s : State) :
    (ringFetchFailed s).cmd.head = s.cmd.head ∧ (ringFetchFailed s).cmd.tail = s.cmd.tail := by
  unfold ringFetchFailed
  dsimp only
  split <;> simp [withCmd]

@[simp] theorem cmdPause_indices (s : State) :
    (cmdPause s).cmd.head = s.cmd.head ∧ (cmdPause s).cmd.tail = s.cmd.tail := by
  unfold cmdPause
  split <;> simp [withCmd]

@[simp] theorem cmdWake_indices (s : State) :
    (cmdWake s).cmd.head = s.cmd.head ∧ (cmdWake s).cmd.tail = s.cmd.tail := by
  unfold cmdWake
  split <;> simp [withCmd]

@[simp] theorem cmdResume_indices (s : State) :
    (cmdResume s).cmd.head = s.cmd.head ∧ (cmdResume s).cmd.tail = s.cmd.tail := by
  unfold cmdResume
  dsimp only
  split <;> simp

@[simp] theorem beginReload_indices (s : State) :
    (beginReload s).cmd.head = s.cmd.head ∧ (beginReload s).cmd.tail = s.cmd.tail := by
  simp [beginReload]

@[simp] theorem failReload_indices (r : LoadResult) (s : State) :
    (failReload r s).cmd.head = s.cmd.head ∧ (failReload r s).cmd.tail = s.cmd.tail := by
  simp [failReload]

@[simp] theorem failFirstLoad_cmd (r : LoadResult) (s : State) : (failFirstLoad r s).cmd = s.cmd := by
  simp [failFirstLoad]

/-! ### What moves them -/

/-- The ring indices lie within the ring in force, once its size is known. -/
def State.RingIndexed (s : State) : Prop := s.cmd.Bounded s.life.params.cmdSize

theorem State.RingIndexed.congr (h : s.RingIndexed) (hh : t.cmd.head = s.cmd.head) (ht : t.cmd.tail = s.cmd.tail)
    (hp : t.life.params = s.life.params) : t.RingIndexed := by
  unfold State.RingIndexed Cmd.Bounded
  rw [hh, ht, hp]
  exact h

theorem State.RingIndexed.tailWrite (h : s.RingIndexed) (v : W32) : (tailWrite v s).RingIndexed := by
  have moved (e : Engine) :
      (withCmd { s.cmd with tail := v.toNat % cmdSize s, engine := e } s).RingIndexed := fun hz =>
    ⟨(h hz).1, Nat.mod_lt _ (Nat.pos_of_ne_zero hz)⟩
  unfold Machine.tailWrite
  cases s.cmd.engine <;> dsimp only
  · exact h
  · exact (moved s.cmd.engine).congr (by simp) (by simp) (by simp)
  · exact moved s.cmd.engine
  · exact (moved .ready).congr (by simp) (by simp) (by simp)
  · exact moved s.cmd.engine

theorem finishEntry_indices (s : State) : (finishEntry s).cmd.head = (s.cmd.head + 1) % cmdSize s ∧
    (finishEntry s).cmd.tail = s.cmd.tail := by
  simp [finishEntry, withCmd]

theorem State.RingIndexed.finishEntry (h : s.RingIndexed) : (finishEntry s).RingIndexed := by
  obtain ⟨hh, ht⟩ := finishEntry_indices s
  intro hz
  have hz' : s.life.params.cmdSize ≠ 0 := by simpa using hz
  rw [hh, ht]
  simpa [cmdSize] using ⟨Nat.mod_lt _ (Nat.pos_of_ne_zero hz'), (h hz').2⟩

/-- A load's end with OK keeps the indices where base and size are unchanged, and zeroes them otherwise (R166). -/
theorem cmdLoadOk_indices (same : Bool) (s : State) :
    (cmdLoadOk same s).cmd.head = (if same then s.cmd.head else 0) ∧
      (cmdLoadOk same s).cmd.tail = (if same then s.cmd.tail else 0) := by
  unfold cmdLoadOk
  split <;> simp [*, withCmd]

theorem adoptConfig_indices (k : LoadKind) (c : RootCfg) (s : State) :
    (adoptConfig k c s).cmd.head = (if sameCmdRing k s.life.params c then s.cmd.head else 0) ∧
      (adoptConfig k c s).cmd.tail = (if sameCmdRing k s.life.params c then s.cmd.tail else 0) := by
  simp [adoptConfig, cmdLoadOk_indices]

theorem State.RingIndexed.adoptConfig (h : s.RingIndexed) (k : LoadKind) (c : RootCfg) :
    (adoptConfig k c s).RingIndexed := by
  obtain ⟨hh, ht⟩ := adoptConfig_indices k c s
  intro hz
  rw [hh, ht]
  simp only [adoptConfig_life] at hz ⊢
  cases hs : sameCmdRing k s.life.params c with
  | false => simpa using Nat.pos_of_ne_zero hz
  | true =>
    have hsize : s.life.params.cmdSize = c.cmdSize := by
      simp only [sameCmdRing, Bool.and_eq_true, decide_eq_true_eq] at hs
      exact hs.2
    simpa [hsize] using h (hsize ▸ hz)

theorem State.RingIndexed.endLoad (h : s.RingIndexed) (r : LoadResult) : (endLoad r s).RingIndexed := by
  have entered (j : LoadJob) : (loadEntered r j s).RingIndexed := h.congr (by simp) (by simp) (by simp)
  exact endLoad_keeps (P := State.RingIndexed) h (fun j _ => (entered j).adoptConfig _ _)
    (fun j _ => (entered j).congr (by simp) (by simp) (by simp))
    (fun j _ => (entered j).congr (by simp) (by simp) (by simp))

theorem Move.ring_indexed (hm : Move s t) (hs : s.Phased) (hp : s.Passed) (h : s.RingIndexed) : t.RingIndexed := by
  cases hm
  case poweredOn => exact fun hz => absurd rfl hz
  case resetAsserted => exact fun hz => absurd rfl hz
  case loadStopped => exact State.RingIndexed.endLoad (h.congr (by simp) (by simp) (by simp)) _
  case configFetched reply =>
    refine configFetched_ends (I := State.RingIndexed) (P := State.RingIndexed)
      (fun _ _ _ _ _ hi ht => ?_) (fun _ => h) (fun _ _ _ hi => hi.congr (by simp) (by simp) (by simp))
      (fun r _ _ _ _ hi => hi.endLoad r) hs hp h reply
    obtain ⟨-, -, -, -, hcmd, -⟩ := ht.frame
    refine hi.congr (by rw [hcmd]) (by rw [hcmd]) ?_
    obtain ⟨-, c, -, -, hl⟩ | ⟨-, hl⟩ := ht.life <;> rw [hl]
  case tailWritten v => exact h.tailWrite v
  case entryFinished => exact h.finishEntry
  all_goals exact h.congr (by simp) (by simp) (by simp)

end

end Sys2Proof.Machine
end

section
/-! Every step keeps verdict histories no longer than the debounce count, and persistence counts and exposures within
their widths (O53, R59, R131, R140). -/

namespace Sys2Proof.Machine

/-! ### A property of every entry of a table -/

/-- Every entry has the property. -/
def Table.All {α : Type} [Inhabited α] {n : Nat} (P : α → Prop) (t : Table α n) : Prop := ∀ i < n, P (t.get i)

section
variable {α : Type} [Inhabited α] {n : Nat} {P : α → Prop} {t : Table α n}

theorem Table.All.get (h : t.All P) (hd : P default) (i : Nat) : P (t.get i) := by
  by_cases hi : i < n
  · exact h i hi
  · rw [Table.get_of_le t (not_lt.mp hi)]; exact hd

theorem Table.All.set (h : t.All P) {a : α} (ha : P a) (i : Nat) : (t.set i a).All P := fun j hj => by
  rw [Table.get_set]
  split_ifs
  · exact ha
  · exact h j hj

theorem Table.All.mapIdx (h : t.All P) {f : Nat → α → α} (hf : ∀ i a, P a → P (f i a)) : (t.mapIdx f).All P :=
  fun i hi => by
    rw [Table.get_mapIdx f t hi]
    exact hf i _ (h i hi)

theorem Table.All.modify (h : t.All P) (i : Nat) {f : α → α} (hf : P (f (t.get i))) : (t.modify i f).All P := h.set hf i

theorem Table.all_fill {a : α} (ha : P a) : (Table.fill n a).All P := fun i hi => by
  rw [Table.get_fill a hi]
  exact ha

end

section
variable {s t : State}

/-! ### Verdict histories (R59) -/

/-- A history no longer than the debounce count. -/
def Channel.Within (d : Nat) (ch : Channel) : Prop := ch.history.length ≤ d

/-- The histories of all channels under the configuration in force. -/
def State.HistoriesBounded (s : State) : Prop := s.conv.channels.All (Channel.Within s.life.params.debounce)

theorem State.HistoriesBounded.congr (h : s.HistoriesBounded) (hc : t.conv.channels = s.conv.channels)
    (hp : t.life.params = s.life.params) : t.HistoriesBounded := by
  unfold State.HistoriesBounded
  rw [hc, hp]
  exact h

theorem State.HistoriesBounded.emit (h : s.HistoriesBounded) {k : EventKind} {n : W16} {a b : W32} :
    (emit k n a b s).HistoriesBounded := h.congr (by simp) (by simp)

theorem channel_default_within (d : Nat) : (default : Channel).Within d := Nat.zero_le d

theorem pushVerdict_length (d : Nat) (good : Bool) (h : List Bool) : (pushVerdict d good h).length ≤ d := by
  simp only [pushVerdict, List.length_drop, List.length_append, List.length_singleton]
  omega

theorem readChannel_within (c d : Nat) (f : Frame) (rd : Reading) (cfg : ChannelCfg) (curve : List Breakpoint)
    (clock : W32) (ch : Channel) : (readChannel c d f rd cfg curve clock ch).1.Within d :=
  pushVerdict_length d _ ch.history

theorem putChannel_channels (c : Nat) (out : Channel × List (EventKind × W16 × W32 × W32)) (s : State) :
    (putChannel c out s).conv.channels = s.conv.channels.set c out.1 := by
  simp [putChannel]

theorem State.HistoriesBounded.putChannel (h : s.HistoriesBounded) (c : Nat)
    {out : Channel × List (EventKind × W16 × W32 × W32)} (ho : out.1.Within s.life.params.debounce) :
    (putChannel c out s).HistoriesBounded := by
  unfold State.HistoriesBounded
  rw [putChannel_channels, (putChannel_frame c out s).1]
  exact Table.All.set h ho c

theorem State.HistoriesBounded.channel (h : s.HistoriesBounded) (c : Nat) :
    (s.conv.channels.get c).Within s.life.params.debounce := Table.All.get h (channel_default_within _) c

theorem State.HistoriesBounded.convertFrame (h : s.HistoriesBounded) (job : FrameJob) :
    (convertFrame job s).HistoriesBounded := by
  unfold Machine.convertFrame
  refine forIdx_keeps (P := State.HistoriesBounded) (fun i u hu => ?_) (h.congr rfl rfl)
  dsimp only
  split
  · exact hu.putChannel _ (readChannel_within ..)
  · exact hu

theorem State.HistoriesBounded.lostNotice (h : s.HistoriesBounded) (i : Nat) : (lostNotice i s).HistoriesBounded := by
  unfold Machine.lostNotice
  refine forIdx_keeps (P := State.HistoriesBounded) (fun j u hu => ?_) h
  dsimp only
  split
  · exact hu.putChannel _ (hu.channel _)
  · exact hu

theorem State.HistoriesBounded.silenceNotice (h : s.HistoriesBounded) (i : Nat) :
    (silenceNotice i s).HistoriesBounded := by
  unfold Machine.silenceNotice
  refine forIdx_keeps (P := State.HistoriesBounded) (fun j u hu => ?_) h
  dsimp only
  split
  · exact hu.putChannel _ (Nat.zero_le _)
  · exact hu

theorem State.HistoriesBounded.offerFrame (h : s.HistoriesBounded) (i : Nat) (f : Frame) :
    (offerFrame i f s).HistoriesBounded := by
  unfold Machine.offerFrame
  dsimp only
  split
  · exact h.congr rfl rfl
  · split
    · exact State.HistoriesBounded.lostNotice (h.congr (by simp) (by simp)) _
    · exact h.congr (by simp) (by simp)

theorem State.HistoriesBounded.frameBeat (h : s.HistoriesBounded) (off : Nat) (b : Beat) :
    (frameBeat off b s).HistoriesBounded := by
  unfold Machine.frameBeat
  dsimp only
  split
  · exact h
  · split
    · unfold completeFrameSlot
      dsimp only
      split
      · exact State.HistoriesBounded.offerFrame (s := withFrameSlot _ _ s) (h.congr (by simp) (by simp)) _ _
      · exact h.congr (by simp) (by simp)
    · exact h.congr (by simp) (by simp)

theorem State.HistoriesBounded.acceptFrame (h : s.HistoriesBounded) (f : Frame) (gap : Option Nat) :
    (acceptFrame f gap s).HistoriesBounded := by
  have noticed (u : State) (hu : u.HistoriesBounded) :
      (beginFrame f (if gap.isSome || f.overrun then Machine.lostNotice f.scanner.toNat u else u)).HistoriesBounded := by
    split
    · exact (State.HistoriesBounded.lostNotice hu f.scanner.toNat).congr (by simp [beginFrame]) (by simp)
    · exact hu.congr (by simp [beginFrame]) (by simp)
  unfold Machine.acceptFrame
  dsimp only
  refine noticed _ ?_
  cases gap <;> dsimp only <;> split <;> exact h.congr (by simp) (by simp)

theorem State.HistoriesBounded.checkFrame (h : s.HistoriesBounded) (f : Frame) : (checkFrame f s).HistoriesBounded := by
  unfold Machine.checkFrame
  dsimp only
  split
  · exact h.congr (by simp) (by simp)
  · split
    · exact h.acceptFrame f none
    · split
      · exact h.congr (by simp) (by simp)
      · split
        · exact h.acceptFrame f none
        · exact h.acceptFrame f _

theorem State.HistoriesBounded.adoptConfig (k : LoadKind) (c : RootCfg) (s : State) :
    (adoptConfig k c s).HistoriesBounded := by
  have fresh (u : State) : (convLoadOk u).conv.channels.All (Channel.Within c.debounce) := fun i hi => by
    rw [convLoadOk_channel u hi]
    exact Nat.zero_le _
  unfold State.HistoriesBounded
  rw [adoptConfig_life]
  simpa [Machine.adoptConfig] using fresh _

theorem State.HistoriesBounded.endLoad (h : s.HistoriesBounded) (r : LoadResult) : (endLoad r s).HistoriesBounded := by
  refine endLoad_keeps (P := State.HistoriesBounded) h (fun j _ => .adoptConfig _ _ _) (fun j _ => ?_) (fun j _ => ?_)
  · exact h.congr (by simp [failReload]) (by simp)
  · unfold State.HistoriesBounded
    simpa [failFirstLoad, clearTables, Conv.cleared] using Table.all_fill (channel_default_within _)

theorem RecordTaken.histories {ws : List W32} {j j' : LoadJob} (ht : RecordTaken ws j s j' t)
    (h : s.HistoriesBounded) : t.HistoriesBounded := by
  cases ht
  case channel x _ _ => exact Table.All.modify h _ (h.channel _)
  all_goals exact h.congr (by simp) (by simp)

theorem Move.histories_bounded (hm : Move s t) (hs : s.Phased) (hp : s.Passed) (h : s.HistoriesBounded) :
    t.HistoriesBounded := by
  cases hm
  case poweredOn => exact Table.all_fill (channel_default_within _)
  case resetAsserted => exact Table.all_fill (channel_default_within _)
  case loadStopped => exact State.HistoriesBounded.endLoad (h.congr (by simp) (by simp)) _
  case configFetched reply =>
    exact configFetched_ends (I := State.HistoriesBounded) (P := State.HistoriesBounded)
      (fun _ _ _ _ _ hi ht => ht.histories hi) (fun _ => h) (fun _ _ _ hi => hi.congr (by simp) (by simp))
      (fun r _ _ _ _ hi => hi.endLoad r) hs hp h reply
  case reloadBegun => exact h.congr (by simp [beginReload, convPause]) (by simp)
  case frameBeat off b _ => exact h.frameBeat _ b
  case frameTaken f rest _ _ _ => exact State.HistoriesBounded.checkFrame (s := popFrame rest s) h f
  case frameConverted job _ => exact h.convertFrame job
  case scannerSilent i _ =>
    unfold fallSilent
    dsimp only
    exact State.HistoriesBounded.emit (State.HistoriesBounded.silenceNotice (h.congr (by simp) (by simp)) _)
  case faultsCleared first last =>
    refine Table.All.mapIdx h fun i ch hc => ?_
    split
    · exact hc
    · exact hc
  case offsetSet c v _ _ => exact Table.All.modify h _ (h.channel _)
  all_goals exact h.congr (by simp) (by simp)

/-! ### Alarm records (R131, R140) -/

/-- The alarm records of all cells within their bounds. -/
def State.RecordsBounded (s : State) : Prop := s.alarm.recs.All AlarmRec.Bounded

theorem State.RecordsBounded.congr (h : s.RecordsBounded) (hr : t.alarm.recs = s.alarm.recs) : t.RecordsBounded := by
  unfold State.RecordsBounded
  rw [hr]
  exact h

theorem State.RecordsBounded.evalAlm (h : s.RecordsBounded) : (evalAlm s).RecordsBounded := h.congr (by simp)

theorem State.RecordsBounded.rebuildHot (h : s.RecordsBounded) : (rebuildHot s).RecordsBounded := h.congr (by simp)

theorem State.RecordsBounded.emit (h : s.RecordsBounded) {k : EventKind} {n : W16} {a b : W32} :
    (emit k n a b s).RecordsBounded := h.congr (by simp)

theorem alarmRec_default_bounded : (default : AlarmRec).Bounded := ⟨by decide, by decide, by decide⟩

theorem State.RecordsBounded.record (h : s.RecordsBounded) (c : Nat) : (s.alarm.recs.get c).Bounded :=
  Table.All.get h alarmRec_default_bounded c

theorem putAlarm_recs (c : Nat) (out : AlarmRec × List EventData) (s : State) :
    (putAlarm c out s).alarm.recs = s.alarm.recs.set c out.1 := by
  simp [putAlarm]

theorem State.RecordsBounded.putAlarm (h : s.RecordsBounded) (c : Nat) {out : AlarmRec × List EventData}
    (ho : out.1.Bounded) : (putAlarm c out s).RecordsBounded := by
  unfold State.RecordsBounded
  rw [putAlarm_recs]
  exact Table.All.set h ho c

theorem State.RecordsBounded.mapIdx (h : s.RecordsBounded) {f : Nat → AlarmRec → AlarmRec}
    (hf : ∀ c r, r.Bounded → (f c r).Bounded) : (withRecs (s.alarm.recs.mapIdx f) s).RecordsBounded :=
  Table.All.mapIdx h hf

section
variable {r : AlarmRec}

theorem rateAlarmStep_bounded (h : r.Bounded) (i : AlarmIn) (rate : Int) : (rateAlarmStep i rate r).1.Bounded := by
  unfold rateAlarmStep
  split
  · split
    · exact h
    · split <;> exact h
  · split <;> exact h

theorem rateStep_bounded (h : r.Bounded) (i : AlarmIn) : (rateStep i r).1.Bounded := by
  unfold rateStep
  split
  · split
    · exact h
    · split
      · exact h
      · exact rateAlarmStep_bounded (r := { r with rate := some _ }) h i _
  · exact h
  · exact h

/-- A level that has not risen after `persistence` commits has not counted that far (R131). -/
theorem levelStep_bounded (h : r.Bounded) {i : AlarmIn} (hi : i.cfg.persistence ≤ 8) : (levelStep i r).1.Bounded := by
  obtain ⟨hp, hx⟩ := h
  unfold levelStep
  split
  · exact ⟨Nat.zero_le _, hx⟩
  · dsimp only
    split
    · split
      · exact ⟨Nat.zero_le _, hx⟩
      next hlt => exact ⟨by dsimp only; omega, hx⟩
    · split
      · exact ⟨Nat.zero_le _, hx⟩
      · exact ⟨Nat.zero_le _, hx⟩

theorem addExposure_bounded (h : r.Bounded) (ms : Nat) : (addExposure ms r).Bounded := by
  obtain ⟨hp, -, -⟩ := h
  unfold addExposure
  split
  · exact ⟨hp, le_rfl, le_rfl⟩
  next hlt => exact ⟨hp, not_lt.mp hlt, by dsimp only; omega⟩

theorem exposureStep_bounded (h : r.Bounded) (i : AlarmIn) : (exposureStep i r).Bounded := by
  unfold exposureStep
  split
  · split
    · exact addExposure_bounded h _
    · exact h
  · exact h
  · exact h

theorem alarmCell_bounded (h : r.Bounded) {i : AlarmIn} (hi : i.cfg.persistence ≤ 8) : (alarmCell i r).1.Bounded :=
  exposureStep_bounded (levelStep_bounded (rateStep_bounded (r := marginStep i r) h i) hi) i

theorem alarmCellOos_bounded (h : r.Bounded) (c : Nat) : (alarmCellOos c r).1.Bounded := ⟨Nat.zero_le _, h.2⟩

theorem alarmCellInhibit_bounded (h : r.Bounded) (c : Nat) : (alarmCellInhibit c r).1.Bounded := by
  unfold alarmCellInhibit
  split <;> exact h

theorem ackRec_bounded (h : r.Bounded) : (ackRec r).Bounded := h

end

theorem State.RecordsBounded.alarmCommit (h : s.RecordsBounded) {p : Nat} (hp : (passAt s p).cfg.persistence ≤ 8)
    (credit : Nat) : (alarmCommit p credit s).RecordsBounded := by
  unfold Machine.alarmCommit
  refine State.RecordsBounded.evalAlm (forIdx_keeps (P := fun u : State => u.RecordsBounded ∧ u.map = s.map) (fun i u hu => ?_) ⟨h, rfl⟩).1
  obtain ⟨hu, he⟩ := hu
  refine ⟨hu.putAlarm _ (alarmCell_bounded (hu.record _) ?_), by simpa using he⟩
  simpa [alarmIn, he, passAt] using hp

theorem State.RecordsBounded.alarmOosEntry (h : s.RecordsBounded) (p : Nat) : (alarmOosEntry p s).RecordsBounded := by
  unfold Machine.alarmOosEntry
  exact State.RecordsBounded.evalAlm (forIdx_keeps (P := State.RecordsBounded)
    (fun i u hu => hu.putAlarm _ (alarmCellOos_bounded (hu.record _) _)) h)

theorem State.RecordsBounded.alarmInhibit (h : s.RecordsBounded) (p : Nat) : (alarmInhibit p s).RecordsBounded := by
  unfold Machine.alarmInhibit
  exact forIdx_keeps (P := State.RecordsBounded)
    (fun i u hu => hu.putAlarm _ (alarmCellInhibit_bounded (hu.record _) _)) h

theorem State.RecordsBounded.alarmOosExit (h : s.RecordsBounded) (p : Nat) : (alarmOosExit p s).RecordsBounded := by
  refine h.mapIdx fun c r hr => ?_
  split <;> exact hr

theorem State.RecordsBounded.alarmLoadOk (h : s.RecordsBounded) : (alarmLoadOk s).RecordsBounded := by
  unfold Machine.alarmLoadOk
  exact State.RecordsBounded.evalAlm <| h.mapIdx fun c r hr => ⟨Nat.zero_le _, hr.2⟩

theorem State.RecordsBounded.alarmLoadFail (h : s.RecordsBounded) : (alarmLoadFail s).RecordsBounded := by
  refine h.mapIdx fun c r hr => ?_
  split <;> exact hr

theorem State.RecordsBounded.ackCell (h : s.RecordsBounded) (c : Nat) : (ackCell c s).RecordsBounded := by
  unfold Machine.ackCell
  exact State.RecordsBounded.evalAlm (s := withRecs _ s) (Table.All.modify h _ (ackRec_bounded (h.record _)))

theorem State.RecordsBounded.ackPassCells (h : s.RecordsBounded) (p : Nat) : (ackPassCells p s).RecordsBounded := by
  unfold Machine.ackPassCells
  refine State.RecordsBounded.evalAlm (h.mapIdx fun c r hr => ?_)
  split
  · exact ackRec_bounded hr
  · exact hr

theorem State.RecordsBounded.resetExposureOf (h : s.RecordsBounded) (c : Nat) :
    (resetExposureOf c s).RecordsBounded := by
  unfold Machine.resetExposureOf
  dsimp only
  exact State.RecordsBounded.emit (s := withRecs _ s) (Table.All.set h (a := { s.alarm.recs.get c with exposureS := 0, exposureMs := 0 })
    ⟨(h.record c).1, Nat.zero_le _, Nat.zero_le _⟩ c)

theorem State.RecordsBounded.enterOos (h : s.RecordsBounded) (p : Nat) : (enterOos p s).RecordsBounded := by
  unfold Machine.enterOos
  dsimp only
  refine State.RecordsBounded.rebuildHot ?_
  have entered : ∀ u : State, u.RecordsBounded → (advanceGen p (Machine.alarmOosEntry p u)).RecordsBounded :=
    fun u hu => (State.RecordsBounded.alarmOosEntry hu p).congr (by simp)
  exact entered _ (h.congr (by simp))

theorem State.RecordsBounded.exitOos (h : s.RecordsBounded) (p : Nat) (m : Mode) : (exitOos p m s).RecordsBounded := by
  have left : ∀ u : State, u.RecordsBounded →
      (appendPass p (Machine.rebuildHot (advanceGen p (Machine.alarmOosExit p u)))).RecordsBounded :=
    fun u hu => (State.RecordsBounded.alarmOosExit hu p).congr (by simp)
  exact left _ (h.congr (by simp))

theorem State.RecordsBounded.switchMode (h : s.RecordsBounded) (p : Nat) (m : Mode) :
    (switchMode p m s).RecordsBounded := by
  have changed : (abandon p (putMode p m s)).RecordsBounded := h.congr (by simp)
  have inhibited : (if m = .spall ∨ m = .decoke then Machine.alarmInhibit p (abandon p (putMode p m s))
      else abandon p (putMode p m s)).RecordsBounded := by
    split
    · exact changed.alarmInhibit p
    · exact changed
  unfold Machine.switchMode
  dsimp only
  split
  · exact inhibited.congr (by simp)
  · exact inhibited

theorem State.RecordsBounded.setModeEffect (h : s.RecordsBounded) (p m : Byte) :
    (setModeEffect p m s).RecordsBounded := by
  unfold Machine.setModeEffect changeMode
  split
  · split_ifs
    · exact h
    · exact h.enterOos _
    · exact h.exitOos _ _
    · exact h.switchMode _ _
  · exact h

theorem State.RecordsBounded.endLoad (h : s.RecordsBounded) (r : LoadResult) : (endLoad r s).RecordsBounded := by
  have entered (j : LoadJob) : (loadEntered r j s).RecordsBounded := h.congr (by simp)
  refine endLoad_keeps (P := State.RecordsBounded) h (fun j _ => ?_) (fun j _ => ?_) (fun j _ => ?_)
  · unfold adoptConfig
    dsimp only
    have adopted (same : Bool) (b : Hot) (e : EvRing) (u : State) (hu : u.RecordsBounded) :
        (cmdLoadOk same (leaderEvent b (loadEndEvent .ok .run
          (eventLoadOk e (rebuildList (Machine.alarmLoadOk u)))))).RecordsBounded :=
      (State.RecordsBounded.alarmLoadOk hu).congr (by simp)
    exact adopted _ _ _ _ ((entered j).congr (by simp))
  · unfold failReload
    dsimp only
    have failed (b : Hot) (u : State) (hu : u.RecordsBounded) :
        (cmdResume (evalEvt (leaderEvent b (loadEndEvent r .halt
          (rebuildList (Machine.alarmLoadFail u)))))).RecordsBounded :=
      (State.RecordsBounded.alarmLoadFail hu).congr (by simp)
    exact failed _ _ ((entered j).congr (by simp))
  · exact (entered j).congr (by simp [failFirstLoad])

theorem Move.records_bounded (hm : Move s t) (hs : s.Phased) (hp : s.Passed) (hf : s.map.Fits) (hw : WorkBounded s.map.work)
    (h : s.RecordsBounded) : t.RecordsBounded := by
  cases hm
  case poweredOn => exact Table.all_fill alarmRec_default_bounded
  case resetAsserted => exact Table.all_fill alarmRec_default_bounded
  case loadStopped => exact State.RecordsBounded.endLoad (h.congr (by simp)) _
  case configFetched reply =>
    refine configFetched_ends (I := State.RecordsBounded) (P := State.RecordsBounded)
      (fun _ _ _ _ _ hi ht => ?_) (fun _ => h) (fun _ _ _ hi => hi.congr (by simp))
      (fun r _ _ _ _ hi => hi.endLoad r) hs hp h reply
    obtain ⟨-, -, ha, -⟩ := ht.frame
    exact hi.congr (by rw [ha])
  case recomputeCommitted w hq _ =>
    have hlt : w.pass < 8 := (hw w hq).1
    refine State.RecordsBounded.rebuildHot (State.RecordsBounded.alarmCommit (h.congr (by simp)) ?_ _)
    simpa [passAt, commitPassState, setPass, Table.get_set_self hlt] using (hf w.pass hlt).2
  case referenceRetired c =>
    exact Table.All.set h (a := { s.alarm.recs.get c.val with ref := none }) (h.record c.val) c.val
  case modeSet p m _ _ => exact h.setModeEffect p m
  case cellAcked c => exact h.ackCell _
  case passAcked p => exact h.ackPassCells _
  case exposureReset c _ _ => exact h.resetExposureOf _
  all_goals exact h.congr (by simp)

end

end Sys2Proof.Machine
end

section
/-! Every step keeps the bounds: the blocks put together (O53). -/

namespace Sys2Proof.Machine

/-- Every move keeps every bound, block by block. -/
theorem Move.bounded {s t : State} (hm : Move s t) (hs : s.Phased) (hc : s.Configured) (h : s.Bounded) : t.Bounded := by
  obtain ⟨hp, hl, hf⟩ := s.configured_iff.mp hc
  obtain ⟨⟨hi, hv, hpath, hh⟩, hev, ⟨hq, hw, ha⟩, hcmd, hch, hr⟩ := s.bounded_iff.mp h
  obtain ⟨hq', hw'⟩ := hm.queued hs hp hf ⟨hq, hw⟩
  exact t.bounded_iff.mpr ⟨⟨hm.intake_bounded hs hp hi, hm.view_bounded hs hp hv, hm.path_bounded hs hp hpath,
    hm.hot_bounded hs hp hh⟩, hm.ev_bounded hs hp hl hev, ⟨hq', hw', hm.aged hs hp ha⟩, hm.ring_indexed hs hp hcmd,
    hm.histories_bounded hs hp hch, hm.records_bounded hs hp hf hw hr⟩

/-- The queue of waiting commands plays no part. -/
theorem State.Bounded.queue {s : State} (h : s.Bounded) (rest : List Instr) :
    ({ s with pending := rest } : State).Bounded :=
  State.bounded_iff _ |>.mpr (s.bounded_iff.mp h)

/-- Settles O53: each move keeps the bounds, Phased and Configured being kept beside them. -/
theorem everyStepKeepsTheBounds : Obligations.EveryStepKeepsTheBounds := by
  intro s t hp hc hb h
  exact (step_keeps (P := fun u => u.Phased ∧ u.Configured ∧ u.Bounded)
    (fun _ _ hm ⟨hp, hc, hb⟩ => ⟨hm.phased hp, hm.configured hp hc, hm.bounded hp hc hb⟩)
    (fun _ rest ⟨hp, hc, hb⟩ => ⟨hp.congr rfl rfl rfl rfl, hc.queue rest, hb.queue rest⟩) h ⟨hp, hc, hb⟩).2.2

end Sys2Proof.Machine
end

section
/-! The Path Unit row by row: power and RESET# (O4), host accesses (O6), grants (O7), map-window reads (O9), their layout
(O10), map-window writes and the timers (O13). -/

namespace Sys2Proof.Machine

section
variable {s : State}

/-! ### Power, RESET# and completions to be discarded (O4) -/

/-- Every ring command is one entry (R163). -/
theorem exec_ring_command {c : Instr} (hc : isRingCommand c) (hw : c.wellFormed = true) :
    ∃ entry, ∀ s, exec c s = ringEntry entry s := by
  cases c
  case unknownOpcode op =>
    have hop : ¬ op.toNat < 14 := by simpa [Instr.wellFormed, opcodeNamed] using hw
    exact ⟨_, fun s => by simp only [exec, execUnknownOpcode, if_neg hop]; rfl⟩
  case nop | freeze | thaw | setMode | forceRefresh | clearFaults | setOffset | calibrateView | ack | ackPass |
      resetExposure | exportStart | reload | lock => exact ⟨_, fun s => rfl⟩
  all_goals simp [isRingCommand, encodeRecord] at hc

/-- The row that completes an access of a kind is a completion of that kind (R13). -/
theorem exec_completes {c : Instr} {k : ReqKind} (hc : completesKind c k) :
    ∃ mine act, mine k = true ∧ ∀ s, exec c s = .next (complete mine act s) := by
  cases k
  case ringFetch =>
    obtain rfl | ⟨hr, hw⟩ := hc
    · exact ⟨isKind .ringFetch, _, rfl, fun s => rfl⟩
    · obtain ⟨entry, he⟩ := exec_ring_command hr hw
      exact ⟨isKind .ringFetch, _, rfl, he⟩
  case headWord | urgentClear | resultWord =>
    obtain ⟨e, rfl⟩ := hc
    cases e <;> exact ⟨isKind _, _, rfl, fun s => rfl⟩
  case eventRecord l =>
    obtain ⟨e, rfl⟩ := hc
    exact ⟨isEventRecord, _, rfl, fun s => rfl⟩
  case producerWord f =>
    obtain ⟨e, rfl⟩ := hc
    exact ⟨isProducerWord, _, rfl, fun s => rfl⟩
  case listFetch | stream | configFetch =>
    obtain ⟨e, rfl⟩ := hc
    exact ⟨isKind _, _, rfl, fun s => rfl⟩

/-- A completion to be discarded frees the port alone (R13). -/
theorem exec_discarded {r : BridgeReq} {c : Instr} (hp : s.path.memPort = some (.bridge r true))
    (hc : completesKind c r.kind) : exec c s = .next (freePort s) := by
  obtain ⟨mine, act, hm, he⟩ := exec_completes hc
  rw [he, complete_discard hp hm]

theorem exec_powerOn (held : Bool) (s : State) : exec (.powerOn held) s = .next { State.reset with
    life := { State.reset.life with resetHeld := held, clearLeft := if held then none else some 2000 }
    pending := s.pending } := rfl

theorem exec_resetRelease (s : State) : exec .resetRelease s = if s.life.resetHeld then .next { s with
    life := { s.life with resetHeld := false, clearLeft := some (if s.life.powerClearDone then 200 else 2000) } }
    else .next s := rfl

/-- Settles O4, row by row. -/
theorem powerAndResetClearEveryBlock : Obligations.PowerAndResetClearEveryBlock := by
  refine ⟨⟨exec_powerOn, fun s h => ?_, fun s h => ?_⟩, fun s => ?_, fun r c s hp hc => exec_discarded hp hc⟩
  · rw [exec_resetRelease, if_pos h]
  · rw [exec_resetRelease, if_neg (by simp [h])]
  · refine ⟨_, rfl, rfl, rfl, rfl, rfl, rfl, rfl, rfl, rfl, rfl, rfl, rfl, rfl, ?_, ?_, ?_⟩
    · intro a ha
      simp [pathInReset, ha, discardOnPort]
    · intro r d hr
      simp [pathInReset, hr, discardOnPort]
    · intro hn
      simp [pathInReset, hn, discardOnPort]

/-! ### The map window and the upstream port (O6) -/

/-- Where the ring windows stand (R4). -/
theorem ringWindows_eq_some {w : Windows} : ringWindows s = some w ↔
    (s.life.phase = .run ∨ s.life.phase = .load ∨ s.life.phase = .halt) ∧ s.path.windows = some w := by
  unfold ringWindows
  cases s.life.phase <;> simp

theorem inWindow_iff {base : W32} {e : Nat} {a : W32} :
    inWindow base e a = true ↔ base.toNat ≤ a.toNat ∧ a.toNat < base.toNat + e := by
  simp [inWindow]

theorem mapHit_iff {a : W32} : mapHit s a = true ↔
    (s.life.phase = .run ∨ s.life.phase = .load ∨ s.life.phase = .halt) ∧
      ∃ w, s.path.windows = some w ∧ w.map.toNat ≤ a.toNat ∧ a.toNat < w.map.toNat + 16384 := by
  have hit : mapHit s a = true ↔
      ∃ w, ringWindows s = some w ∧ w.map.toNat ≤ a.toNat ∧ a.toNat < w.map.toNat + 16384 := by
    unfold mapHit
    cases ringWindows s with
    | none => simp
    | some w =>
      simp only [Option.some.injEq, exists_eq_left']
      exact inWindow_iff
  rw [hit]
  constructor
  · rintro ⟨w, hw, ha⟩
    obtain ⟨hp, hw⟩ := ringWindows_eq_some.mp hw
    exact ⟨hp, w, hw, ha⟩
  · rintro ⟨hp, w, hw, ha⟩
    exact ⟨w, ringWindows_eq_some.mpr ⟨hp, hw⟩, ha⟩

theorem mapOffset_of_hit {a : W32} (h : mapHit s a = true) {w : Windows} (hw : s.path.windows = some w) :
    mapOffset s a = a.toNat - w.map.toNat := by
  rw [mapOffset, ringWindows_eq_some.mpr ⟨(mapHit_iff.mp h).1, hw⟩]

/-- With no access of its own waiting or on the memory port the host is not held (R2). -/
theorem servable_of_free (h : hostHeld s = false) (a : HostAccess) : servable a s = true := by
  simp [servable, h]

theorem exec_mapRead_served {d : Drive} (hm : mapHit s d.addr = true) (hh : hostHeld s = false) :
    exec (.mapRead d) s = .next (serveMapRead ⟨false, d⟩ s) := by
  simp only [exec, execMapRead, hm, servable_of_free hh, Bool.and_self, if_true]

theorem exec_mapWrite_served {d : Drive} (hm : mapHit s d.addr = true) (hh : hostHeld s = false) :
    exec (.mapWrite d) s = .next (serveMapWrite ⟨true, d⟩ s) := by
  simp only [exec, execMapWrite, hm, servable_of_free hh, Bool.and_self, if_true]

/-- Settles O6: the arrival's three cases, the map window, and the completion of a host access. -/
theorem hostAccessesPassThrough : Obligations.HostAccessesPassThrough := by
  refine ⟨fun a s => ⟨fun hh hm => ?_, fun hh hm => ?_, fun hh => ?_⟩,
    fun a s => ⟨mapHit_iff, fun hm w hw => mapOffset_of_hit hm hw⟩, fun resp a s hp => ?_⟩
  · simp [exec, execHostAccess, hh, arrive, hm]
  · rw [exec_mapWrite_served hm hh, exec_mapRead_served hm hh]
    obtain ⟨w, d⟩ := a
    cases w <;> simp [exec, execHostAccess, hh, arrive, hm]
  · simp [exec, execHostAccess, hh]
  · simp [exec, execHostAccessComplete, hostCompleted, hp]

/-! ### Grants (O7) -/

theorem bridgeWaiting_eq_false : bridgeWaiting s = false ↔
    s.path.evOut = [] ∧ s.path.cmdOut = [] ∧ s.path.expOut = [] := by
  simp [bridgeWaiting, and_assoc]

/-- The state in which a granted host write is handed over: the access on the port, the count following (R12). -/
theorem grantHost_eq (a : HostAccess) (s : State) : grantHost a s = handOverAll a (hostGranted a s) := by
  have hf : (if bridgeWaiting s then s.path.fairness + 1 else 0) =
      if s.path.evOut = [] ∧ s.path.cmdOut = [] ∧ s.path.expOut = [] then 0 else s.path.fairness + 1 := by
    cases hb : bridgeWaiting s with
    | false => simp [bridgeWaiting_eq_false.mp hb]
    | true =>
      have : ¬ (s.path.evOut = [] ∧ s.path.cmdOut = [] ∧ s.path.expOut = []) := fun h => by
        simp [bridgeWaiting_eq_false.mpr h] at hb
      simp [this]
  rw [grantHost, hf]
  rfl

/-- The host waits and is granted (R12). -/
theorem exec_grant_host {a : HostAccess} (hp : s.path.memPort = none) (hu : s.path.upstream = some a)
    (hm : mapHit s a.addr = false)
    (hg : s.path.fairness < 8 ∨ (s.path.evOut = [] ∧ s.path.cmdOut = [] ∧ s.path.expOut = [])) :
    exec .memoryPortGrant s = .next (handOverAll a (hostGranted a s)) := by
  have harb : arbitrate s = .host a := by
    rw [← bridgeWaiting_eq_false] at hg
    simp only [arbitrate, hostWaiting, hu, hm, Bool.false_eq_true, if_false]
    rw [if_pos]
    rw [Bool.or_eq_true, decide_eq_true_eq, Bool.not_eq_true']
    exact hg
  simp only [exec, execMemoryPortGrant, hp, harb, grantHost_eq]

/-- With no host access that waits, or eight of them granted while a request waited, the arbiter looks at the bridge's
requests (R12). -/
theorem arbitrate_bridge (h : s.path.upstream = none ∨ (8 ≤ s.path.fairness ∧ bridgeWaiting s = true)) :
    arbitrate s = bridgeGrant s := by
  obtain hu | ⟨hf, hb⟩ := h
  · simp [arbitrate, hostWaiting, hu]
  · unfold arbitrate
    split
    · rw [if_neg]
      rw [Bool.or_eq_true, decide_eq_true_eq, Bool.not_eq_true', hb]
      rintro (hlt | hb)
      · exact absurd hlt (not_lt.mpr hf)
      · cases hb
    · rfl

theorem exec_grant_bridge {who : Requester} (hp : s.path.memPort = none)
    (h : s.path.upstream = none ∨ (8 ≤ s.path.fairness ∧ bridgeWaiting s = true)) (hg : bridgeGrant s = .bridge who) :
    exec .memoryPortGrant s = .next (grantBridge who s) := by
  simp only [exec, execMemoryPortGrant, hp, arbitrate_bridge h, hg]

/-- Settles O7: a granted read hands nothing over; the bridge's requests follow in their order. -/
theorem portGrantsFollowTheArbiter : Obligations.PortGrantsFollowTheArbiter := by
  refine ⟨fun a s hp hu hm hw hg => ?_, fun s hp hfree => ⟨fun r rest he => ?_, fun r rest he hc => ?_,
    fun r rest he hc hx => ?_, fun r rest hu he hc hx hl => ?_⟩⟩
  · rw [exec_grant_host hp hu hm hg, handOverAll, hw]
    rfl
  · rw [exec_grant_bridge (who := .eventWriter) hp (hfree.imp_right fun hf => ⟨hf, by simp [bridgeWaiting, he]⟩)
      (by simp [bridgeGrant, he])]
    simp [grantBridge, requests, he, setRequests]
  · rw [exec_grant_bridge (who := .commandEngine) hp (hfree.imp_right fun hf => ⟨hf, by simp [bridgeWaiting, hc]⟩)
      (by simp [bridgeGrant, he, hc])]
    simp [grantBridge, requests, hc, setRequests]
  · rw [exec_grant_bridge (who := .exportEngine) hp (hfree.imp_right fun hf => ⟨hf, by simp [bridgeWaiting, hx]⟩)
      (by simp [bridgeGrant, he, hc, hx])]
    simp [grantBridge, requests, hx, setRequests]
  · rw [exec_grant_bridge (who := .lifeController) hp (.inl hu) (by simp [bridgeGrant, he, hc, hx, hl])]
    simp [grantBridge, requests, hl, setRequests]

/-! ### Map-window reads (O9) -/

/-- The host's own port plays no part in what a record holds. -/
theorem liveRecord_answerHost (resp : List BeatResp) (s : State) (r : RecordId) :
    liveRecord (answerHost resp s) r = liveRecord s r := rfl

/-- What a read beat returns and what it does to the latch do not depend on the answer that stands at the port. -/
theorem readBeat_answerHost (off : Nat) (resp : List BeatResp) (s : State) :
    readBeat off (answerHost resp s) = ((readBeat off s).1, answerHost resp (readBeat off s).2) := by
  unfold readBeat
  split
  · rfl
  · simp only [liveRecord_answerHost]
    rfl
  next r n _ =>
    have hl : latchedCopy (answerHost resp s) r = latchedCopy s r := rfl
    rw [hl]
    cases latchedCopy s r <;> rfl

/-- A read beat leaves all but the latch. -/
theorem readBeat_state (off : Nat) (s : State) : (readBeat off s).2 = s ∨ ∃ r, (readBeat off s).2 = fillLatch r s := by
  unfold readBeat
  split
  · exact .inl rfl
  next r _ => exact .inr ⟨r, rfl⟩
  · split <;> exact .inl rfl

/-- The state after one single read at a map-window offset. -/
def singleRead (off : Nat) (s : State) : State :=
  answerHost [.data (readBeat off s).1] (readBeat off s).2

/-- The answer of an earlier read is replaced. -/
theorem singleRead_answerHost (off : Nat) (resp : List BeatResp) (s : State) :
    singleRead off (answerHost resp s) = singleRead off s := by
  rw [singleRead, readBeat_answerHost]
  rfl

/-- A read beat leaves the window, and the host no more held than before. -/
theorem readBeat_frame (off : Nat) (s : State) : ringWindows (readBeat off s).2 = ringWindows s ∧
    hostHeld (readBeat off s).2 = hostHeld s := by
  obtain h | ⟨r, h⟩ := readBeat_state off s <;> rw [h] <;> exact ⟨rfl, rfl⟩

@[simp] theorem readBeat_mapHit (off : Nat) (s : State) (a : W32) : mapHit (readBeat off s).2 a = mapHit s a := by
  rw [mapHit, (readBeat_frame off s).1, mapHit]

@[simp] theorem readBeat_mapOffset (off : Nat) (s : State) (a : W32) :
    mapOffset (readBeat off s).2 a = mapOffset s a := by
  rw [mapOffset, (readBeat_frame off s).1, mapOffset]

@[simp] theorem readBeat_hostHeld (off : Nat) (s : State) : hostHeld (readBeat off s).2 = hostHeld s :=
  (readBeat_frame off s).2

theorem hostHeld_answerHost {resp : List BeatResp} (h : hostHeld s = false) : hostHeld (answerHost resp s) = false := by
  unfold hostHeld at h ⊢
  simpa [answerHost] using (Bool.or_eq_false_iff.mp h).2

/-- A single read of the map window (R7). -/
theorem exec_single_read {a : W32} {b : Beat} (hm : mapHit s a = true) (hh : hostHeld s = false) :
    exec (.mapRead (.single a b)) s = .next (singleRead (mapOffset s a) s) :=
  exec_mapRead_served hm hh

/-- A single read that follows another one. -/
theorem exec_next_read {a : W32} {b : Beat} {off : Nat} (hm : mapHit s a = true) (hh : hostHeld s = false) :
    exec (.mapRead (.single a b)) (singleRead off s) = .next (singleRead (mapOffset s a) (readBeat off s).2) := by
  have hit : mapHit (singleRead off s) a = true := (readBeat_mapHit off s a).trans hm
  have free : hostHeld (singleRead off s) = false := hostHeld_answerHost ((readBeat_hostHeld off s).trans hh)
  have same : mapOffset (singleRead off s) a = mapOffset s a := readBeat_mapOffset off s a
  rw [exec_single_read hit free, same]
  exact congrArg _ (singleRead_answerHost _ _ _)

theorem beatOffsets_burst (block : BitVec 28) (b0 b1 b2 b3 : Beat) (s : State) :
    beatOffsets s ⟨false, .burst block b0 b1 b2 b3⟩ = [mapOffset s (block ++ 0#4), mapOffset s (block ++ 0#4) + 4,
      mapOffset s (block ++ 0#4) + 8, mapOffset s (block ++ 0#4) + 12] := rfl

/-- The addresses of a burst inside the window lie four bytes apart in it. -/
theorem mapHit_beat {a : W32} {k : Nat} (hk : k ≤ 12) (h0 : mapHit s a = true) (h12 : mapHit s (a + 12) = true)
    (hal : a.toNat % 16 = 0) : mapHit s (a + BitVec.ofNat 32 k) = true ∧
      mapOffset s (a + BitVec.ofNat 32 k) = mapOffset s a + k := by
  obtain ⟨hp, w, hw, hlo, hhi⟩ := mapHit_iff.mp h0
  obtain ⟨-, w', hw', -, hhi'⟩ := mapHit_iff.mp h12
  obtain rfl : w = w' := Option.some.inj (hw.symm.trans hw')
  have hlt := a.isLt
  have hk' : (a + BitVec.ofNat 32 k).toNat = a.toNat + k := by
    rw [BitVec.toNat_add, BitVec.toNat_ofNat]
    omega
  have h12' : (a + 12).toNat = a.toNat + 12 := by
    rw [BitVec.toNat_add]
    simp only [BitVec.reduceToNat]
    omega
  have hit : mapHit s (a + BitVec.ofNat 32 k) = true := mapHit_iff.mpr ⟨hp, w, hw, by omega, by omega⟩
  refine ⟨hit, ?_⟩
  rw [mapOffset_of_hit hit hw, mapOffset_of_hit h0 hw]
  omega

theorem block_aligned (block : BitVec 28) : (block ++ 0#4).toNat % 16 = 0 := by
  rw [BitVec.toNat_append]
  simp [Nat.shiftLeft_eq]

/-- Settles O9. -/
theorem mapReadsFollowTheLatch : Obligations.MapReadsFollowTheLatch := by
  refine ⟨fun a b r s hm hh hr => ?_, fun a b s hm hh => ⟨fun r n copy hold hr hl => ?_, fun r n hr hl => ?_, fun hr => ?_⟩,
    fun block b0 b1 b2 b3 s h0 h12 hh => ?_⟩
  · rw [exec_single_read hm hh, singleRead]
    simp only [readBeat, hr]
    rfl
  · rw [exec_single_read hm hh, singleRead]
    simp only [readBeat, hr, latchedCopy, hl, if_true]
    rw [← hl]
    rfl
  · have hc : latchedCopy s r = none := by
      unfold latchedCopy
      split
      next l hs => rw [if_neg (hl l hs)]
      · rfl
    rw [exec_single_read hm hh, singleRead]
    simp only [readBeat, hr, hc]
    rfl
  · rw [exec_single_read hm hh, singleRead]
    simp only [readBeat, hr]
    rfl
  · have al := block_aligned block
    obtain ⟨hm4, ho4⟩ := mapHit_beat (k := 4) (by decide) h0 h12 al
    obtain ⟨hm8, ho8⟩ := mapHit_beat (k := 8) (by decide) h0 h12 al
    obtain ⟨hm12, ho12⟩ := mapHit_beat (k := 12) (by decide) h0 h12 al
    change mapOffset s ((block ++ 0#4) + 4) = _ at ho4
    change mapOffset s ((block ++ 0#4) + 8) = _ at ho8
    change mapOffset s ((block ++ 0#4) + 12) = _ at ho12
    refine ⟨_, _, _, _, _, _, _, _, exec_single_read h0 hh, rfl,
      exec_next_read (a := (block ++ 0#4) + 4) hm4 hh, rfl,
      exec_next_read (a := (block ++ 0#4) + 8) (by simpa using hm8) (by simpa using hh), rfl,
      exec_next_read (a := (block ++ 0#4) + 12) (by simpa using hm12) (by simpa using hh), rfl, ?_⟩
    rw [exec_mapRead_served h0 hh, serveMapRead, beatOffsets_burst]
    simp only [readBeats, readBeat_mapOffset, ho4, ho8, ho12]
    rfl

/-! ### The map window's layout (O10) -/

theorem liveRecord_outside {r : RecordId} (h : inExtent s.path.extent r = false) :
    liveRecord s r = List.replicate (recordSize r) 0 := by
  simp [liveRecord, h]

theorem recordAt_status {n : Nat} (h : n < 16) : recordAt (4 * n) = some (.status, n) := by
  rw [recordAt, if_pos (by omega), Nat.mul_div_cancel_left n (by decide)]

theorem recordAt_passHeader {p n : Nat} (hp : p < 8) (hn : n < 8) :
    recordAt (0x40 + 32 * p + 4 * n) = some (.passHeader p, n) := by
  have hq : (0x40 + 32 * p + 4 * n - 0x40) / 32 = p := by omega
  have hr : (0x40 + 32 * p + 4 * n - 0x40) % 32 / 4 = n := by omega
  rw [recordAt, if_neg (by omega), if_pos (by omega), hq, hr]

theorem recordAt_hotList {n : Nat} (h : n < 32) : recordAt (0x140 + 4 * n) = some (.hotList, n) := by
  have hq : (0x140 + 4 * n - 0x140) / 4 = n := by omega
  rw [recordAt, if_neg (by omega), if_neg (by omega), if_pos (by omega), hq]

theorem recordAt_viewRec {v n : Nat} (hv : v < 16) (hn : n < 2) :
    recordAt (0x200 + 8 * v + 4 * n) = some (.viewRec v, n) := by
  have hq : (0x200 + 8 * v + 4 * n - 0x200) / 8 = v := by omega
  have hr : (0x200 + 8 * v + 4 * n - 0x200) % 8 / 4 = n := by omega
  rw [recordAt, if_neg (by omega), if_neg (by omega), if_neg (by omega), if_neg (by omega), if_pos (by omega), hq, hr]

theorem recordAt_channelRec {c n : Nat} (hc : c < 128) (hn : n < 4) :
    recordAt (0x800 + 16 * c + 4 * n) = some (.channelRec c, n) := by
  have hq : (0x800 + 16 * c + 4 * n - 0x800) / 16 = c := by omega
  have hr : (0x800 + 16 * c + 4 * n - 0x800) % 16 / 4 = n := by omega
  rw [recordAt, if_neg (by omega), if_neg (by omega), if_neg (by omega), if_neg (by omega), if_neg (by omega),
    if_neg (by omega), if_pos (by omega), hq, hr]

theorem recordAt_cellRec {c n : Nat} (hc : c < 512) (hn : n < 4) :
    recordAt (0x1000 + 16 * c + 4 * n) = some (.cellRec c, n) := by
  have hq : (0x1000 + 16 * c + 4 * n - 0x1000) / 16 = c := by omega
  have hr : (0x1000 + 16 * c + 4 * n - 0x1000) % 16 / 4 = n := by omega
  rw [recordAt, if_neg (by omega), if_neg (by omega), if_neg (by omega), if_neg (by omega), if_neg (by omega),
    if_neg (by omega), if_neg (by omega), if_pos (by omega), hq, hr]

/-- The zero regions between the records (R7). -/
theorem recordAt_gap {off : Nat} (h : (0x1C0 ≤ off ∧ off < 0x200) ∨ (0x280 ≤ off ∧ off < 0x800) ∨ 0x3000 ≤ off) :
    recordAt off = none := by
  rw [recordAt, if_neg (by omega), if_neg (by omega), if_neg (by omega)]
  obtain h | h | h := h
  · rw [if_pos (by omega)]
  · rw [if_neg (by omega), if_neg (by omega), if_pos (by omega)]
  · rw [if_neg (by omega), if_neg (by omega), if_neg (by omega), if_neg (by omega), if_neg (by omega)]

/-- A cell outside its pass's part of the extent (R7). -/
theorem inExtent_cellRec_eq_false {e : Extent} {c : Nat} (h : e.passCount ≤ c / 64 ∨ e.cellCounts.getD (c / 64) 0 ≤ c % 64) :
    inExtent e (.cellRec c) = false := by
  rw [inExtent, decide_eq_false_iff_not, not_lt]
  unfold extentCells passOf posOf
  split
  · omega
  · exact Nat.zero_le _

/-- Settles O10. -/
theorem mapWindowLayout : Obligations.MapWindowLayout :=
  ⟨⟨fun _ => recordAt_status, fun _ hp _ => recordAt_passHeader hp, fun _ => recordAt_hotList,
      fun _ hv _ => recordAt_viewRec hv, fun _ hc _ => recordAt_channelRec hc, fun _ hc _ => recordAt_cellRec hc,
      fun _ => recordAt_gap⟩,
    fun _ => ⟨fun _ h => liveRecord_outside (by simpa [inExtent] using h),
      fun _ h => liveRecord_outside (inExtent_cellRec_eq_false h),
      fun _ h => liveRecord_outside (by simpa [inExtent] using h),
      fun _ h => liveRecord_outside (by simpa [inExtent] using h)⟩⟩

/-! ### Map-window writes and the two timers (O13) -/

/-- With the holdoff timer stopped a write is told and starts it (R11). -/
theorem holdoffWrite_stopped (h : s.path.holdoff = none) (off : Nat) : holdoffWrite off s = { s with
    ev := s.ev.take ⟨.pathMapWrite, BitVec.ofNat 16 off, s.life.clock, 0, BitVec.ofNat 32 s.path.suppressed⟩
    path := { s.path with holdoff := some ⟨s.life.clock, 1000⟩, suppressed := 0 } } := by
  simp only [holdoffWrite, h]
  rfl

/-- With the holdoff timer running a write is counted (R11). -/
theorem holdoffWrite_running (h : s.path.holdoff.isSome = true) (off : Nat) : holdoffWrite off s = { s with
    path := { s.path with
      suppressed := if 65535 ≤ s.path.suppressed + 1 then 65535 else s.path.suppressed + 1 } } := by
  obtain ⟨tm, ht⟩ := Option.isSome_iff_exists.mp h
  simp only [holdoffWrite, ht]
  rfl

/-- Settles O13. -/
theorem mapWritesReachNoMemoryAndTimersRunOut : Obligations.MapWritesReachNoMemoryAndTimersRunOut := by
  refine ⟨fun d s hm hh => ⟨fun hn => ?_, fun hs => ?_⟩, fun s => ⟨?_, fun tm ht hd => ?_, fun tm ht hd => ?_⟩⟩
  · rw [exec_mapWrite_served hm hh, serveMapWrite, holdoffWrite_stopped hn]
    rfl
  · rw [exec_mapWrite_served hm hh, serveMapWrite, holdoffWrite_running hs]
    rfl
  · cases hl : s.path.latch <;> simp only [exec, execLatchHoldExpiry, hl]
    simp [← hl]
  · have due : timerDue s.path.holdoff (now s) = true := by
      rw [ht, timerDue, Timer.due, decide_eq_true_eq]
      exact hd
    simp only [exec, execMapWriteHoldoffExpiry, due, if_true]
  · have notDue : timerDue s.path.holdoff (now s) = false := by
      rw [ht, timerDue, Timer.due, decide_eq_false_iff_not, not_le]
      exact hd
    simp only [exec, execMapWriteHoldoffExpiry, notDue, Bool.false_eq_true, if_false]

end

end Sys2Proof.Machine
end

section
/-! The checks of root, pass, channel and curve records (O17). -/

namespace Sys2Proof.Machine

/-! ### Fields and codes -/

theorem bit_eq_getLsbD (w : W32) (lo : Nat) : bit w lo = w.getLsbD lo := by
  rw [← BitVec.testBit_toNat, Nat.testBit_eq_decide_div_mod_eq]
  rfl

theorem ofNat_bits_eq_extract (w : W32) (lo width : Nat) :
    BitVec.ofNat width (bits w lo width) = w.extractLsb' lo width := by
  apply BitVec.eq_of_toNat_eq
  simp [bits, Nat.shiftRight_eq_div_pow]

theorem signed16_bits_eq_extract (w : W32) (lo : Nat) : signed16 (bits w lo 16) = (w.extractLsb' lo 16).toInt := by
  have hb : (w.extractLsb' lo 16).toNat = bits w lo 16 := by
    simp [bits, Nat.shiftRight_eq_div_pow]
  rw [BitVec.toInt_eq_toNat_cond, hb, signed16]
  split <;> split <;> omega

theorem within_iff {lo hi x : Int} : within lo hi x = true ↔ lo ≤ x ∧ x ≤ hi := by simp [within]

theorem Threshold.ofCode_eq_some {n : Nat} {x : Threshold} : Threshold.ofCode n = some x ↔
    n ≤ 2 ∧ x = if n = 0 then .advise else if n = 1 then .high else .over := by
  match n with
  | 0 | 1 | 2 => simp [Threshold.ofCode, eq_comm]
  | n + 3 => simp [Threshold.ofCode]

theorem cmdSizeOfCode_eq_some {n k : Nat} : cmdSizeOfCode n = some k ↔ n ≤ 1 ∧ k = if n = 0 then 16 else 64 := by
  match n with
  | 0 | 1 => simp [cmdSizeOfCode, eq_comm]
  | n + 2 => simp [cmdSizeOfCode]

theorem evSizeOfCode_eq_some {n k : Nat} : evSizeOfCode n = some k ↔ n ≤ 2 ∧ k = [16, 64, 256].getD n 0 := by
  match n with
  | 0 | 1 | 2 => simp [evSizeOfCode, eq_comm]
  | n + 3 => simp [evSizeOfCode]

theorem Mode.ofCode_eq_some {n : Nat} {x : Mode} : Mode.ofCode n = some x ↔
    n ≤ 3 ∧ x = if n = 0 then .normal else if n = 1 then .spall else if n = 2 then .decoke else .oos := by
  match n with
  | 0 | 1 | 2 | 3 => simp [Mode.ofCode, eq_comm]
  | n + 4 => simp [Mode.ofCode]

/-! ### The root record (R18) -/

/-- The event ring size that a root's code names (R183). -/
def rootEvSize (ws : List W32) : Nat := [16, 64, 256].getD (bits (wordAt ws 9) 8 8) 0

/-- The ranges and codes of a root record (R18). -/
def RootInRange (ws : List W32) : Prop :=
  let f : Nat → Nat → Nat → Nat := fun i => bits (wordAt ws i)
  wordAt ws 2 = 1 ∧ f 3 1 2 ≤ 2 ∧ f 9 0 8 ≤ 1 ∧ f 9 8 8 ≤ 2 ∧ 1 ≤ f 9 16 16 ∧ f 9 16 16 < rootEvSize ws ∧
    1 ≤ f 10 0 16 ∧ f 10 0 16 ≤ 1000 ∧ 1 ≤ f 10 16 8 ∧ f 10 16 8 ≤ 60 ∧ 1 ≤ f 12 0 8 ∧ f 12 0 8 ≤ 8 ∧
    1 ≤ f 12 8 8 ∧ f 12 8 8 ≤ 8 ∧ f 12 16 8 ≤ 16 ∧ 1 ≤ f 12 24 8 ∧ f 12 24 8 ≤ 4 ∧ 1 ≤ f 13 0 8 ∧ f 13 0 8 ≤ 8 ∧
    ∀ i < 19, 14 ≤ i → (wordAt ws i).toNat % 16 = 0

/-- The values of a root record (R183). -/
def rootValues (ws : List W32) : RootCfg :=
  let w := wordAt ws
  { lockAtLoad := (w 3).getLsbD 0
    threshold := if bits (w 3) 1 2 = 0 then .advise else if bits (w 3) 1 2 = 1 then .high else .over
    routing := (w 3).getLsbD 3
    frameBase := w 4, lineBase := w 5, cmdBase := w 6, eventBase := w 7, mapBase := w 8
    cmdSize := if bits (w 9) 0 8 = 0 then 16 else 64, evSize := rootEvSize ws, evThreshold := bits (w 9) 16 16
    coalesceMs := bits (w 10) 0 16, freshnessS := bits (w 10) 16 8, classMask := (w 11).extractLsb' 0 12
    passCount := bits (w 12) 0 8, scannerCount := bits (w 12) 8 8, viewCount := bits (w 12) 16 8
    curveCount := bits (w 12) 24 8, debounce := bits (w 13) 0 8
    passPtr := w 14, channelPtr := w 15, curvePtr := w 16, cellPtr := w 17, viewPtr := w 18 }

/-- The five table pointers of a root are multiples of 16 (R18). -/
theorem pointers_iff {ws : List W32} : (∀ i < 19, 14 ≤ i → (wordAt ws i).toNat % 16 = 0) ↔
    pointerOk (wordAt ws 14) = true ∧ pointerOk (wordAt ws 15) = true ∧ pointerOk (wordAt ws 16) = true ∧
      pointerOk (wordAt ws 17) = true ∧ pointerOk (wordAt ws 18) = true := by
  simp only [pointerOk, beq_iff_eq]
  constructor
  · exact fun h => ⟨h 14 (by decide) le_rfl, h 15 (by decide) (by decide), h 16 (by decide) (by decide),
      h 17 (by decide) (by decide), h 18 (by decide) (by decide)⟩
  · rintro ⟨h14, h15, h16, h17, h18⟩ i hi hlo
    obtain rfl | rfl | rfl | rfl | rfl : i = 14 ∨ i = 15 ∨ i = 16 ∨ i = 17 ∨ i = 18 := by omega
    all_goals assumption

/-- A root record passes its range checks exactly where its fields lie in their ranges, and gives its values (R18). -/
theorem parseRoot_eq_some {ws : List W32} {c : RootCfg} :
    parseRoot ws = some c ↔ RootInRange ws ∧ c = rootValues ws := by
  unfold RootInRange
  dsimp only
  rw [pointers_iff]
  constructor
  · intro h
    unfold parseRoot at h
    dsimp only at h
    split at h
    next threshold cmdSize evSize hth hcmd hev =>
      split_ifs at h with hok
      obtain ⟨hthr, rfl⟩ := Threshold.ofCode_eq_some.mp hth
      obtain ⟨hcmds, rfl⟩ := cmdSizeOfCode_eq_some.mp hcmd
      obtain ⟨hevs, rfl⟩ := evSizeOfCode_eq_some.mp hev
      simp only [Bool.and_eq_true, inRange_iff, decide_eq_true_eq] at hok
      obtain ⟨⟨⟨⟨⟨⟨⟨⟨⟨⟨⟨⟨⟨hver, ht⟩, hcoal⟩, hfresh⟩, hpass⟩, hscan⟩, hview⟩, hcurve⟩, hdeb⟩, hp⟩, hc⟩, hcu⟩, hce⟩, hv⟩ := hok
      refine ⟨⟨hver, hthr, hcmds, hevs, ht.1, ?_, hcoal.1, hcoal.2, hfresh.1, hfresh.2, hpass.1, hpass.2, hscan.1, hscan.2,
        hview.2, hcurve.1, hcurve.2, hdeb.1, hdeb.2, hp, hc, hcu, hce, hv⟩, ?_⟩
      · obtain ⟨ht, ht'⟩ := ht
        unfold rootEvSize
        omega
      · rw [← Option.some.inj h, rootValues]
        simp only [bit_eq_getLsbD, ofNat_bits_eq_extract, rootEvSize]
    next => cases h
  · rintro ⟨⟨hver, hth, hcmd, hev, ht, ht', hcoal, hcoal', hfresh, hfresh', hpass, hpass', hscan, hscan', hview, hcurve,
      hcurve', hdeb, hdeb', hp, hc, hcu, hce, hv⟩, rfl⟩
    unfold parseRoot
    dsimp only
    rw [Threshold.ofCode_eq_some.mpr ⟨hth, rfl⟩, cmdSizeOfCode_eq_some.mpr ⟨hcmd, rfl⟩, evSizeOfCode_eq_some.mpr ⟨hev, rfl⟩]
    dsimp only
    rw [if_pos]
    · simp only [bit_eq_getLsbD, ofNat_bits_eq_extract]
      rfl
    · unfold rootEvSize at ht'
      simp only [Bool.and_eq_true, inRange_iff, decide_eq_true_eq]
      exact ⟨⟨⟨⟨⟨⟨⟨⟨⟨⟨⟨⟨⟨hver, ht, by omega⟩, hcoal, hcoal'⟩, hfresh, hfresh'⟩, hpass, hpass'⟩, hscan, hscan'⟩,
        Nat.zero_le _, hview⟩, hcurve, hcurve'⟩, hdeb, hdeb'⟩, hp⟩, hc⟩, hcu⟩, hce⟩, hv⟩

/-! ### The root's windows (R3, R18) -/

/-- Two extents overlap exactly where some address lies in both. -/
theorem overlap_iff {b e b' e' : Nat} (he : 0 < e) (he' : 0 < e') :
    overlap b e b' e' = true ↔ ∃ a, b ≤ a ∧ a < b + e ∧ b' ≤ a ∧ a < b' + e' := by
  simp only [overlap, Bool.and_eq_true, decide_eq_true_eq]
  constructor
  · rintro ⟨h, h'⟩
    exact ⟨max b b', by omega, by omega, by omega, by omega⟩
  · rintro ⟨a, h⟩
    omega

theorem disjoint_iff {l : List (Nat × Nat)} :
    disjoint l = true ↔ l.Pairwise fun x y => ¬ overlap x.1 x.2 y.1 y.2 = true := by
  induction l with
  | nil => simp [disjoint]
  | cons x l ih => simp [disjoint, ih]

/-- No two extents of the list share an address, where none is empty (R3). -/
theorem disjoint_iff_shares {l : List (Nat × Nat)} (hpos : ∀ x ∈ l, 0 < x.2) : disjoint l = true ↔
    l.Pairwise fun x y => ∀ a, ¬(x.1 ≤ a ∧ a < x.1 + x.2 ∧ y.1 ≤ a ∧ a < y.1 + y.2) := by
  rw [disjoint_iff]
  refine List.Pairwise.iff_of_mem fun hx hy => ?_
  rw [overlap_iff (hpos _ hx) (hpos _ hy), not_exists]

theorem windowsOk_iff {root : Nat} {c : RootCfg} : windowsOk root c = true ↔
    (∀ b ∈ [c.frameBase, c.lineBase, c.cmdBase, c.eventBase, c.mapBase], b.toNat % 4096 = 0) ∧
      [(root, 80), (c.frameBase.toNat, 1024), (c.lineBase.toNat, 1024), (c.cmdBase.toNat, 4096),
        (c.eventBase.toNat, if c.evSize = 256 then 8192 else 4096), (c.mapBase.toNat, 16384)].Pairwise
          fun x y => ∀ a, ¬(x.1 ≤ a ∧ a < x.1 + x.2 ∧ y.1 ≤ a ∧ a < y.1 + y.2) := by
  rw [← disjoint_iff_shares, windowsOk, Bool.and_eq_true]
  · refine and_congr ?_ Iff.rfl
    simp [rootWindows]
  · simp only [List.forall_mem_cons]
    refine ⟨by decide, by decide, by decide, by decide, ?_, by decide, nofun⟩
    split <;> decide

/-! ### Pass records (R19) -/

/-- The ranges and the code of a pass record (R19). -/
def PassInRange (ws : List W32) : Prop :=
  let f : Nat → Nat → Nat → Nat := fun i => bits (wordAt ws i)
  1 ≤ f 0 0 8 ∧ f 0 0 8 ≤ 64 ∧ f 0 8 8 ≤ 3 ∧ f 0 16 8 ≤ 16 ∧ 2 ≤ f 0 24 8 ∧ f 0 24 8 ≤ 8 ∧
    250 ≤ f 1 0 16 ∧ f 1 0 16 ≤ 60000 ∧ 10 ≤ f 1 16 16 ∧ f 1 16 16 ≤ 600 ∧
    1 ≤ f 2 0 16 ∧ f 2 0 16 ≤ 2000 ∧ 1 ≤ f 2 16 16 ∧ f 2 16 16 ≤ 600 ∧
    f 3 0 16 ≤ 2000 ∧ 1 ≤ f 3 16 16 ∧ f 3 16 16 ≤ 3600 ∧
    f 4 0 16 ≤ 3000 ∧ f 4 16 16 ≤ f 4 0 16 ∧ f 5 0 16 ≤ 500 ∧ 1 ≤ f 5 16 8 ∧ f 5 16 8 ≤ 8 ∧ f 6 0 16 ≤ 15000

/-- The values of a pass record (R183). -/
def passValues (ws : List W32) : PassCfg :=
  let f : Nat → Nat → Nat → Nat := fun i => bits (wordAt ws i)
  { cellCount := f 0 0 8
    initialMode := if f 0 8 8 = 0 then .normal else if f 0 8 8 = 1 then .spall else if f 0 8 8 = 2 then .decoke else .oos
    weight := f 0 16 8, spanLimit := f 0 24 8, refreshMs := f 1 0 16, rateWindowS := f 1 16 16, rateLimit := f 2 0 16
    maxAgeS := f 2 16 16, disagreeLimit := f 3 0 16, holdS := f 3 16 16, advisory := f 4 0 16, high := f 4 16 16
    hysteresis := f 5 0 16, persistence := f 5 16 8, decokeLimit := f 6 0 16 }

/-- A pass record passes exactly where its fields lie in their ranges, and gives its values (R19). -/
theorem parsePass_eq_some {ws : List W32} {c : PassCfg} :
    parsePass ws = some c ↔ PassInRange ws ∧ c = passValues ws := by
  unfold PassInRange
  constructor
  · intro h
    unfold parsePass at h
    dsimp only at h
    split at h
    · cases h
    next mode hmode =>
      split_ifs at h with hok
      obtain ⟨hmd, rfl⟩ := Mode.ofCode_eq_some.mp hmode
      simp only [Bool.and_eq_true, inRange_iff] at hok
      obtain ⟨⟨⟨⟨⟨⟨⟨⟨⟨⟨⟨⟨⟨hn, hr⟩, hrw⟩, hrl⟩, hma⟩, hw⟩, hd⟩, hs⟩, hh⟩, ha⟩, hhi⟩, hy⟩, hp⟩, hdl⟩ := hok
      exact ⟨⟨hn.1, hn.2, hmd, hw.2, hs.1, hs.2, hr.1, hr.2, hrw.1, hrw.2, hrl.1, hrl.2, hma.1, hma.2, hd.2, hh.1, hh.2,
        ha.2, hhi.2, hy.2, hp.1, hp.2, hdl.2⟩, (Option.some.inj h).symm⟩
  · rintro ⟨⟨hn, hn', hmode, hw, hs, hs', hr, hr', hrw, hrw', hrl, hrl', hma, hma', hd, hh, hh', ha, hhi, hy, hp, hp', hdl⟩, rfl⟩
    unfold parsePass
    dsimp only
    rw [Mode.ofCode_eq_some.mpr ⟨hmode, rfl⟩]
    dsimp only
    rw [if_pos]
    · rfl
    · simp only [Bool.and_eq_true, inRange_iff]
      exact ⟨⟨⟨⟨⟨⟨⟨⟨⟨⟨⟨⟨⟨⟨hn, hn'⟩, hr, hr'⟩, hrw, hrw'⟩, hrl, hrl'⟩, hma, hma'⟩, Nat.zero_le _, hw⟩, Nat.zero_le _, hd⟩,
        hs, hs'⟩, hh, hh'⟩, Nat.zero_le _, ha⟩, Nat.zero_le _, hhi⟩, Nat.zero_le _, hy⟩, hp, hp'⟩, Nat.zero_le _, hdl⟩

/-! ### Channel records (R19) -/

section
variable {curves : Nat} {ws : List W32}

/-- The offset field of a channel record (R183). -/
def channelOffset (ws : List W32) : Int := signed16 (bits (wordAt ws 0) 16 16)

theorem parseChannel_unused (h : bit (wordAt ws 0) 0 = false) : parseChannel curves ws = .ok ⟨false, 0, 0, 0⟩ := by
  simp [parseChannel, h]

theorem parseChannel_range (h : bit (wordAt ws 0) 0 = true)
    (hr : ¬(-500 ≤ channelOffset ws ∧ channelOffset ws ≤ 500 ∧ bits (wordAt ws 1) 0 16 ≤ 5000)) :
    parseChannel curves ws = .bad .badFormat := by
  have hbad : (within (-500) 500 (channelOffset ws) && inRange 0 5000 (bits (wordAt ws 1) 0 16)) = false := by
    rw [← Bool.not_eq_true, Bool.and_eq_true, within_iff, inRange_iff]
    exact fun ⟨⟨hlo, hhi⟩, _, hs⟩ => hr ⟨hlo, hhi, hs⟩
  unfold channelOffset at hbad
  simp [parseChannel, h, hbad]

/-- A channel in use whose offset and spike limit lie in their ranges is checked for its curve (R19; log entry 9). -/
theorem parseChannel_inRange (h : bit (wordAt ws 0) 0 = true) (hlo : -500 ≤ channelOffset ws)
    (hhi : channelOffset ws ≤ 500) (hs : bits (wordAt ws 1) 0 16 ≤ 5000) :
    parseChannel curves ws = if curves ≤ bits (wordAt ws 0) 8 8 then .bad .badReference
      else .ok ⟨true, bits (wordAt ws 0) 8 8, channelOffset ws, bits (wordAt ws 1) 0 16⟩ := by
  have hok : (within (-500) 500 (channelOffset ws) && inRange 0 5000 (bits (wordAt ws 1) 0 16)) = true := by
    rw [Bool.and_eq_true, within_iff, inRange_iff]
    exact ⟨⟨hlo, hhi⟩, Nat.zero_le _, hs⟩
  unfold channelOffset at hok ⊢
  simp [parseChannel, h, hok]

end

/-! ### Curves (R19) -/

/-- The second breakpoint lies above the first in both values (R19). -/
def Breakpoint.Below (a b : Breakpoint) : Prop := a.emf < b.emf ∧ a.temp < b.temp

theorem increasing_iff {l : List Breakpoint} : increasing l = true ↔ l.IsChain Breakpoint.Below := by
  induction l with
  | nil => simp [increasing]
  | cons a l ih =>
    cases l with
    | nil => simp [increasing]
    | cons b l =>
      rw [increasing, Bool.and_eq_true, Bool.and_eq_true, decide_eq_true_eq, decide_eq_true_eq, ih, List.isChain_cons_cons]
      rfl

theorem increasing_map_range {n : Nat} {f : Nat → Breakpoint} :
    increasing ((List.range n).map f) = true ↔ ∀ k, k + 1 < n → (f k).Below (f (k + 1)) := by
  rw [increasing_iff, List.isChain_map, List.isChain_range]
  exact forall_congr' fun k => by rw [Nat.lt_sub_iff_add_lt]

/-- A breakpoint of a curve (R183). -/
def curvePoint (ws : List W32) (k : Nat) : Breakpoint :=
  ⟨(wordAt ws (2 + 2 * k)).toInt, ((wordAt ws (3 + 2 * k)).extractLsb' 0 16).toInt⟩

theorem curvePoints_eq (ws : List W32) : curvePoints ws = (List.range (curveLength ws)).map (curvePoint ws) := by
  simp only [curvePoints, signed16_bits_eq_extract, signed32]
  rfl

/-- A curve passes exactly with 2 to 32 breakpoints that increase strictly in both values (R19). -/
theorem parseCurve_eq (ws : List W32) [Decidable (2 ≤ curveLength ws ∧ curveLength ws ≤ 32 ∧
      ∀ k, k + 1 < curveLength ws → (curvePoint ws k).Below (curvePoint ws (k + 1)))] :
    parseCurve ws = if 2 ≤ curveLength ws ∧ curveLength ws ≤ 32 ∧
        ∀ k, k + 1 < curveLength ws → (curvePoint ws k).Below (curvePoint ws (k + 1))
      then .ok ((List.range (curveLength ws)).map (curvePoint ws)) else .bad .badCurve := by
  unfold parseCurve
  rw [curvePoints_eq]
  refine if_congr ?_ rfl rfl
  rw [Bool.and_eq_true, inRange_iff, increasing_map_range, and_assoc]

/-- Settles O17, record by record. -/
theorem rootPassChannelAndCurveChecks : Obligations.RootPassChannelAndCurveChecks := by
  classical
  refine ⟨fun ws => ⟨fun h => ?_, fun h => parseRoot_eq_some.mpr ⟨h, rfl⟩⟩, fun root c => windowsOk_iff,
    fun ws => ⟨fun h => ?_, fun h => parsePass_eq_some.mpr ⟨h, rfl⟩⟩, fun curves ws => ⟨fun h => ?_, fun h => ?_⟩,
    fun ws => ⟨fun h => ?_, fun h => ?_⟩⟩
  · exact Option.eq_none_iff_forall_ne_some.mpr fun c hc => h (parseRoot_eq_some.mp hc).1
  · exact Option.eq_none_iff_forall_ne_some.mpr fun c hc => h (parsePass_eq_some.mp hc).1
  · exact parseChannel_unused ((bit_eq_getLsbD _ _).trans h)
  · have hbit : bit (wordAt ws 0) 0 = true := (bit_eq_getLsbD _ _).trans h
    have hoff : channelOffset ws = ((ws.getD 0 0).extractLsb' 16 16).toInt := signed16_bits_eq_extract _ _
    rw [← hoff]
    refine ⟨fun hbad => parseChannel_range hbit ?_, fun hlo hhi hs hc => ?_, fun hlo hhi hs hc => ?_⟩
    · rintro ⟨hlo, hhi, hs⟩
      change _ ∨ _ ∨ 5000 < bits (wordAt ws 1) 0 16 at hbad
      omega
    · exact (parseChannel_inRange hbit hlo hhi hs).trans (if_pos hc)
    · exact (parseChannel_inRange hbit hlo hhi hs).trans (if_neg (not_le.mpr hc))
  · have hn : curveLength ws = (ws.getD 0 0).toNat % 256 := by simp [curveLength, bits, wordAt]
    rw [parseCurve_eq, hn]
    exact if_pos h
  · have hn : curveLength ws = (ws.getD 0 0).toNat % 256 := by simp [curveLength, bits, wordAt]
    rw [parseCurve_eq, hn]
    exact if_neg h

end Sys2Proof.Machine
end

section
/-! Where host writes are watched, and their hand-over beat by beat (O8). -/

namespace Sys2Proof.Machine

section
variable {s t u : State}

/-! ### Where a write is watched (R3 to R6) -/

theorem rootAddr_toNat (s : State) : (rootAddr s).toNat = s.life.rootStrap.toNat * 0x10000 := by
  have := s.life.rootStrap.isLt
  rw [rootAddr, BitVec.toNat_ofNat]
  omega

theorem startWatched_iff : startWatched s = true ↔
    s.life.phase = .idle ∨ s.life.phase = .run ∨ s.life.phase = .load ∨ s.life.phase = .halt := by
  unfold startWatched
  cases s.life.phase <;> simp

/-- With a window set in force the rings are watched, and the set is one whose root passed its checks (R4, R18). -/
theorem windows_in_force (hs : s.Phased) (hc : s.Configured) {w : Windows} (hw : s.path.windows = some w) :
    (s.life.phase = .run ∨ s.life.phase = .load ∨ s.life.phase = .halt) ∧ w = windowsOf s.life.params ∧
      windowsOk (rootAddr s).toNat s.life.params = true := by
  have hset : ¬(s.life.phase = .clear ∨ s.life.phase = .idle) := fun h => by
    have := hs.unset h
    simp [hw] at this
  have passed : s.passed s.life.params := by
    cases hp : s.life.phase
    case run => exact hc.inForce (.inl hp)
    case halt => exact hc.inForce (.inr hp)
    case load =>
      obtain ⟨j, hj⟩ := Option.isSome_iff_exists.mp (hs.load.mpr hp)
      cases hk : j.kind with
      | reload => exact hc.reloading j hj hk
      | first => have := hs.first j hj hk; simp [hw] at this
    case sample => exact absurd hp hs.notSample
    case clear => exact absurd (.inl hp) hset
    case idle => exact absurd (.inr hp) hset
  refine ⟨?_, hc.active w hw, passed.2⟩
  cases hp : s.life.phase
  case run | load | halt => simp
  case sample => exact absurd hp hs.notSample
  case clear => exact absurd (.inl hp) hset
  case idle => exact absurd (.inr hp) hset

/-- Two extents of which none overlaps the other lie one behind the other. -/
theorem not_overlap_iff {b e b' e' : Nat} : ¬ overlap b e b' e' = true ↔ b' + e' ≤ b ∨ b + e ≤ b' := by
  simp only [overlap, Bool.and_eq_true, decide_eq_true_eq]
  omega

/-- The windows of a root that passed its checks, and the root record, lie apart; the intake windows are aligned to
words (R3, R18). -/
theorem windowsOk_apart {root : Nat} {c : RootCfg} (h : windowsOk root c = true) :
    let ev := if c.evSize = 256 then 8192 else 4096
    (c.frameBase.toNat % 4096 = 0 ∧ c.lineBase.toNat % 4096 = 0) ∧
    ((c.frameBase.toNat + 1024 ≤ root ∨ root + 80 ≤ c.frameBase.toNat) ∧
      (c.lineBase.toNat + 1024 ≤ root ∨ root + 80 ≤ c.lineBase.toNat) ∧
      (c.cmdBase.toNat + 4096 ≤ root ∨ root + 80 ≤ c.cmdBase.toNat) ∧
      (c.eventBase.toNat + ev ≤ root ∨ root + 80 ≤ c.eventBase.toNat)) ∧
    ((c.lineBase.toNat + 1024 ≤ c.frameBase.toNat ∨ c.frameBase.toNat + 1024 ≤ c.lineBase.toNat) ∧
      (c.cmdBase.toNat + 4096 ≤ c.frameBase.toNat ∨ c.frameBase.toNat + 1024 ≤ c.cmdBase.toNat) ∧
      (c.eventBase.toNat + ev ≤ c.frameBase.toNat ∨ c.frameBase.toNat + 1024 ≤ c.eventBase.toNat)) ∧
    ((c.cmdBase.toNat + 4096 ≤ c.lineBase.toNat ∨ c.lineBase.toNat + 1024 ≤ c.cmdBase.toNat) ∧
      (c.eventBase.toNat + ev ≤ c.lineBase.toNat ∨ c.lineBase.toNat + 1024 ≤ c.eventBase.toNat)) ∧
    (c.eventBase.toNat + ev ≤ c.cmdBase.toNat ∨ c.cmdBase.toNat + 4096 ≤ c.eventBase.toNat) := by
  rw [windowsOk, Bool.and_eq_true, disjoint_iff] at h
  obtain ⟨hal, hap⟩ := h
  simp only [rootWindows, List.pairwise_cons, List.forall_mem_cons, not_overlap_iff] at hap
  obtain ⟨⟨hrf, hrl, hrc, hre, -⟩, ⟨hfl, hfc, hfe, -⟩, ⟨hlc, hle, -⟩, ⟨hce, -⟩, -⟩ := hap
  have hf : c.frameBase.toNat % 4096 = 0 ∧ c.lineBase.toNat % 4096 = 0 := by
    simp only [rootWindows, List.all_cons, Bool.and_eq_true, beq_iff_eq] at hal
    exact ⟨hal.1, hal.2.1⟩
  exact ⟨hf, ⟨hrf, hrl, hrc, hre⟩, ⟨hfl, hfc, hfe⟩, ⟨hlc, hle⟩, hce⟩

/-- The decode of a write with a window set in force (R5, R6). -/
theorem watchOf_eq {a : W32} {w : Windows} (hp : s.life.phase = .run ∨ s.life.phase = .load ∨ s.life.phase = .halt)
    (hw : s.path.windows = some w) : watchOf s a =
      if a.toNat / 4 * 4 = s.life.rootStrap.toNat * 0x10000 then .start
      else if s.life.phase = .run ∧ w.frame.toNat ≤ a.toNat ∧ a.toNat < w.frame.toNat + 1024 then
        .frame (BitVec.ofNat 10 (a.toNat - w.frame.toNat))
      else if s.life.phase = .run ∧ w.line.toNat ≤ a.toNat ∧ a.toNat < w.line.toNat + 1024 then
        .line (BitVec.ofNat 10 (a.toNat - w.line.toNat))
      else if a.toNat / 4 * 4 = w.cmd.toNat + 0xF00 then .tail
      else if a.toNat / 4 * 4 = w.cmd.toNat + 0xF08 then .urgent
      else if a.toNat / 4 * 4 = w.event.toNat + (if w.evSize = 256 then 0x1F04 else 0xF04) then .consumer
      else .none := by
  have hsw : startWatched s = true := startWatched_iff.mpr (.inr hp)
  have hring : ringWatch s a = if a.toNat / 4 * 4 = w.cmd.toNat + 0xF00 then .tail
      else if a.toNat / 4 * 4 = w.cmd.toNat + 0xF08 then .urgent
      else if a.toNat / 4 * 4 = w.event.toNat + (if w.evSize = 256 then 0x1F04 else 0xF04) then .consumer
      else .none := by
    rw [ringWatch, ringWindows_eq_some.mpr ⟨hp, hw⟩]
    rfl
  rw [watchOf, hsw, hring]
  simp only [Bool.true_and, decide_eq_true_eq, rootAddr_toNat, inWindow_iff]
  refine if_congr Iff.rfl rfl ?_
  obtain hp | hp | hp := hp <;> simp only [intakeWindows, hp]
  · simp only [hw, true_and]
    rfl
  · simp
  · simp

theorem frame_offset {base a : Nat} {off : BitVec 10} (ha : a < base + 1024) (hb : base ≤ a) :
    BitVec.ofNat 10 (a - base) = off ↔ off.toNat = a - base := by
  have : (BitVec.ofNat 10 (a - base)).toNat = a - base := by
    rw [BitVec.toNat_ofNat]
    omega
  constructor
  · rintro rfl
    exact this
  · intro h
    exact BitVec.eq_of_toNat_eq (this.trans h.symm)

/-- Where each word and window is watched with a window set in force: windows and root record lie apart, so no write
falls in two of them (R3, R5, R6). -/
theorem watchOf_iff (hs : s.Phased) (hc : s.Configured) {w : Windows} (hw : s.path.windows = some w) (a : W32) :
    (watchOf s a = .tail ↔ a.toNat / 4 * 4 = w.cmd.toNat + 0xF00) ∧
    (watchOf s a = .urgent ↔ a.toNat / 4 * 4 = w.cmd.toNat + 0xF08) ∧
    (watchOf s a = .consumer ↔ a.toNat / 4 * 4 = w.event.toNat + if w.evSize = 256 then 0x1F04 else 0xF04) ∧
    (∀ off : BitVec 10, watchOf s a = .frame off ↔ s.life.phase = .run ∧ w.frame.toNat ≤ a.toNat ∧
      a.toNat < w.frame.toNat + 1024 ∧ off.toNat = a.toNat - w.frame.toNat) ∧
    (∀ off : BitVec 10, watchOf s a = .line off ↔ s.life.phase = .run ∧ w.line.toNat ≤ a.toNat ∧
      a.toNat < w.line.toNat + 1024 ∧ off.toNat = a.toNat - w.line.toNat) := by
  obtain ⟨hp, hwin, hok⟩ := windows_in_force hs hc hw
  obtain ⟨⟨haf, hal⟩, ⟨hrf, hrl, hrc, hre⟩, ⟨hfl, hfc, hfe⟩, ⟨hlc, hle⟩, hce⟩ := windowsOk_apart hok
  have hframe : w.frame = s.life.params.frameBase := by rw [hwin]; rfl
  have hline : w.line = s.life.params.lineBase := by rw [hwin]; rfl
  have hcmd : w.cmd = s.life.params.cmdBase := by rw [hwin]; rfl
  have hevent : w.event = s.life.params.eventBase := by rw [hwin]; rfl
  have hsize : w.evSize = s.life.params.evSize := by rw [hwin]; rfl
  rw [rootAddr_toNat] at hrf hrl hrc hre
  rw [← hframe] at haf hrf hfl hfc hfe
  rw [← hline] at hal hrl hfl hlc hle
  rw [← hcmd] at hrc hfc hlc hce
  rw [← hevent, ← hsize] at hre hfe hle hce
  have hev : (if w.evSize = 256 then 0x1F04 else 0xF04) + 4 ≤ (if w.evSize = 256 then 8192 else 4096) := by
    split <;> decide
  rw [watchOf_eq hp hw]
  generalize (if w.evSize = 256 then 8192 else 4096) = ev at *
  generalize (if w.evSize = 256 then 0x1F04 else 0xF04) = consumer at *
  generalize s.life.rootStrap.toNat * 0x10000 = root at *
  refine ⟨⟨fun h => ?_, fun h => ?_⟩, ⟨fun h => ?_, fun h => ?_⟩, ⟨fun h => ?_, fun h => ?_⟩,
    fun off => ⟨fun h => ?_, fun ⟨hr, hlo, hhi, ho⟩ => ?_⟩, fun off => ⟨fun h => ?_, fun ⟨hr, hlo, hhi, ho⟩ => ?_⟩⟩
  · split_ifs at h with h1 h2 h3 h4 h5 h6
    exact h4
  · rw [if_neg (by omega), if_neg (by omega), if_neg (by omega), if_pos h]
  · split_ifs at h with h1 h2 h3 h4 h5 h6
    exact h5
  · rw [if_neg (by omega), if_neg (by omega), if_neg (by omega), if_neg (by omega), if_pos h]
  · split_ifs at h with h1 h2 h3 h4 h5 h6
    exact h6
  · rw [if_neg (by omega), if_neg (by omega), if_neg (by omega), if_neg (by omega), if_neg (by omega), if_pos h]
  · split_ifs at h with h1 h2
    exact ⟨h2.1, h2.2.1, h2.2.2, (frame_offset h2.2.2 h2.2.1).mp (Watch.frame.inj h)⟩
  · rw [if_neg (by omega), if_pos ⟨hr, hlo, hhi⟩, (frame_offset hhi hlo).mpr ho]
  · split_ifs at h with h1 h2 h3
    exact ⟨h3.1, h3.2.1, h3.2.2, (frame_offset h3.2.2 h3.2.1).mp (Watch.line.inj h)⟩
  · rw [if_neg (by omega), if_neg (by omega), if_pos ⟨hr, hlo, hhi⟩, (frame_offset hhi hlo).mpr ho]

/-- The start word is watched from the end of SAMPLE on, whatever windows are in force (R5, R15). -/
theorem watchOf_start_iff {a : W32} : watchOf s a = .start ↔
    (s.life.phase = .idle ∨ s.life.phase = .run ∨ s.life.phase = .load ∨ s.life.phase = .halt) ∧
      a.toNat / 4 * 4 = s.life.rootStrap.toNat * 0x10000 := by
  have hring : ringWatch s a ≠ .start := by
    unfold ringWatch
    split
    · split_ifs <;> simp
    · simp
  rw [← startWatched_iff, ← rootAddr_toNat]
  unfold watchOf
  split
  next h =>
    rw [Bool.and_eq_true, decide_eq_true_eq] at h
    exact iff_of_true rfl h
  next h =>
    rw [Bool.and_eq_true, decide_eq_true_eq] at h
    refine iff_of_false ?_ h
    split
    · split_ifs <;> simp [hring]
    · exact hring

/-- With no window set in force the start word alone is watched (R4). -/
theorem watchOf_no_windows (hw : s.path.windows = none) (a : W32) : watchOf s a = .start ∨ watchOf s a = .none := by
  have hr : ringWindows s = none := by
    unfold ringWindows
    cases s.life.phase <;> simp [hw]
  have hi : intakeWindows s = none := by
    unfold intakeWindows
    cases s.life.phase <;> simp [hw]
  rw [watchOf, hi, ringWatch, hr]
  split
  · exact .inl rfl
  · exact .inr rfl

/-! ### What stands along the hand-overs of one grant (R4, R5) -/

@[simp] theorem loadStart_windows (s : State) : (loadStart s).path.windows = s.path.windows := by
  unfold loadStart
  split
  · simp [beginLoad]
  · split <;> simp
  all_goals rfl

/-- A load that ends with another result than OK leaves the window set (R23). -/
theorem endLoad_windows {r : LoadResult} (hr : r ≠ .ok) (s : State) : (endLoad r s).path.windows = s.path.windows := by
  refine endLoad_keeps (P := fun t => t.path.windows = s.path.windows) rfl (fun j h => absurd h hr) (fun j _ => ?_)
    (fun j _ => ?_) <;> simp

@[simp] theorem loadStop_windows (s : State) : (loadStop s).path.windows = s.path.windows := by
  unfold loadStop
  split
  · rw [endLoad_windows (by decide), dropConfigFetch_windows]
  all_goals rfl

@[simp] theorem startValue_windows (v : W32) (s : State) : (startValue v s).path.windows = s.path.windows := by
  unfold startValue
  split_ifs <;> simp

/-- No hand-over moves the windows. -/
theorem handOver_windows (x : Watch × Beat) (s : State) : (handOver x s).path.windows = s.path.windows := by
  obtain ⟨w, b⟩ := x
  cases w <;> simp only [handOver]
  case tail | urgent | consumer | start => split <;> simp
  case frame | line => simp

theorem phaseAfter_watched (k : LoadKind) (r : LoadResult) :
    phaseAfter k r = .idle ∨ phaseAfter k r = .run ∨ phaseAfter k r = .load ∨ phaseAfter k r = .halt := by
  cases k <;> cases r <;> simp [phaseAfter]

/-- A load's start and its end leave the start word watched (R5, R16). -/
theorem startValue_watched (h : startWatched s = true) (v : W32) : startWatched (startValue v s) = true := by
  have ended (u : State) (hu : startWatched u = true) : startWatched (endLoad .stopped u) = true := by
    refine endLoad_keeps (P := fun t => startWatched t = true) hu (fun j h => absurd h (by decide)) (fun j _ => ?_)
      (fun j _ => ?_) <;> rw [startWatched_iff] <;> simpa using phaseAfter_watched j.kind .stopped
  unfold startValue
  split_ifs
  · unfold loadStart
    split
    · simp [startWatched_iff]
    · split
      · exact h
      · simp [startWatched_iff]
    all_goals exact h
  · unfold loadStop
    split
    · exact ended _ (by simpa [startWatched_iff] using startWatched_iff.mp h)
    all_goals exact h
  · exact h

/-- No hand-over ends the watch on the start word. -/
theorem handOver_watched (h : startWatched s = true) (x : Watch × Beat) : startWatched (handOver x s) = true := by
  have same {u : State} (hl : u.life = s.life) : startWatched u = true := by
    rw [startWatched_iff, hl]
    exact startWatched_iff.mp h
  obtain ⟨w, b⟩ := x
  cases w <;> simp only [handOver]
  case tail | urgent | consumer => split <;> exact same (by simp)
  case start =>
    split
    · exact startValue_watched h _
    · exact h
  case frame | line => exact same (by simp)
  case none => exact h

/-- The condition under which the row of a watched beat carries it out (R4, R5, R6). -/
def Watch.Active (s : State) : Watch → Prop
  | .tail | .urgent | .consumer => (ringWindows s).isSome = true
  | .start => startWatched s = true
  | .frame _ | .line _ => (intakeWindows s).isSome = true
  | .none => True

theorem intakeWindows_isSome : (intakeWindows s).isSome = true ↔ s.life.phase = .run ∧ s.path.windows.isSome = true := by
  unfold intakeWindows
  cases s.life.phase <;> simp

/-- In a state of a run the rings are watched exactly with a window set in force (R4). -/
theorem ringWindows_isSome (hs : s.Phased) : (ringWindows s).isSome = true ↔ s.path.windows.isSome = true := by
  have hu := hs.unset
  have hn := hs.notSample
  unfold ringWindows
  cases hp : s.life.phase <;> simp_all

theorem ringWatch_active (s : State) (a : W32) : (ringWatch s a).Active s := by
  unfold ringWatch
  cases hw : ringWindows s
  · trivial
  · dsimp only
    split_ifs <;> simp [Watch.Active, hw]

/-- What a write is watched as is active (R4). -/
theorem watchOf_active (s : State) (a : W32) : (watchOf s a).Active s := by
  unfold watchOf
  split
  next h => exact (Bool.and_eq_true _ _ ▸ h).1
  next h =>
    split
    next w hw =>
      split_ifs
      · simp [Watch.Active, hw]
      · simp [Watch.Active, hw]
      · exact ringWatch_active s a
    next => exact ringWatch_active s a

/-- What is active at the grant stays active along the hand-overs before it (R4). -/
theorem Watch.Active.handOver {w : Watch} (h : w.Active s) {x : Watch × Beat} (hs : s.Phased)
    (ht : (handOver x s).Phased) : w.Active (handOver x s) := by
  have rings (hr : (ringWindows s).isSome = true) : (ringWindows (Machine.handOver x s)).isSome = true := by
    rw [ringWindows_isSome ht, handOver_windows]
    exact (ringWindows_isSome hs).mp hr
  have intake (hr : (intakeWindows s).isSome = true) : (intakeWindows (Machine.handOver x s)).isSome = true := by
    obtain ⟨hp, hw⟩ := intakeWindows_isSome.mp hr
    exact intakeWindows_isSome.mpr ⟨handOver_run hp, (handOver_windows x s).symm ▸ hw⟩
  cases w
  case tail | urgent | consumer => exact rings h
  case start => exact handOver_watched h x
  case frame | line => exact intake h
  case none => trivial

/-- An active beat handed over leaves a state of a run. -/
theorem State.Phased.handOver (hs : s.Phased) {x : Watch × Beat} (h : x.1.Active s) : (handOver x s).Phased := by
  refine Moves.keeps (fun _ _ hm hu => hm.phased hu) (handOver_moves fun hi => ?_) hs
  obtain ⟨w, b⟩ := x
  cases w
  case frame | line => exact (intakeWindows_isSome.mp h).1
  all_goals exact Bool.noConfusion hi

/-! ### Each hand-over is its row (R5, R6) -/

theorem whileRings_of {act : State → State} (h : (ringWindows s).isSome = true) : whileRings act s = .next (act s) := by
  obtain ⟨w, hw⟩ := Option.isSome_iff_exists.mp h
  simp only [whileRings, hw]

/-- A value written to the urgent word is carried out as its row (R164). -/
theorem exec_urgentRow (h : (ringWindows s).isSome = true) (v : W32) : exec (urgentRow v) s = .next (urgentValue v s) := by
  unfold urgentRow urgentValue
  split_ifs with h0 h1 h2 h3
  · exact whileRings_of h
  · exact whileRings_of h
  · exact whileRings_of h
  · exact whileRings_of h
  · have hv : ¬ v.toNat < 4 := by bv_omega
    simp only [exec, execUrgentUnknown, if_neg hv]
    exact whileRings_of h

theorem carriedOut_single {c : Instr} (h : exec c s = .next t) : carriedOut [c] s t := ⟨t, h, rfl⟩

theorem carriedOut_append {cs ds : List Instr} (hc : carriedOut cs s t) (hd : carriedOut ds t u) :
    carriedOut (cs ++ ds) s u := by
  induction cs generalizing s with
  | nil => obtain rfl := hc; exact hd
  | cons c cs ih =>
    obtain ⟨v, hv, hrest⟩ := hc
    exact ⟨v, hv, ih hrest⟩

/-- One active beat: the row it is handed over as does what the hand-over does (R5, R6, R16). -/
theorem handedAs_carriedOut {w : Watch} (h : w.Active s) (b : Beat) :
    carriedOut (handedAs w b) s (handOver (w, b) s) := by
  have full : (fullBeat b = true) = (b.be = 0xF#4) := by rw [fullBeat, beq_iff_eq]
  cases w <;> simp only [handedAs, handOver, full]
  case tail =>
    split
    · exact carriedOut_single (whileRings_of h)
    · rfl
  case urgent =>
    split
    · exact carriedOut_single (exec_urgentRow h _)
    · rfl
  case consumer =>
    split
    · obtain ⟨w, hw⟩ := Option.isSome_iff_exists.mp h
      exact carriedOut_single (by simp only [exec, execConsumerWordWrite, hw])
    · rfl
  case start =>
    split
    · have hw : startWatched s = true := h
      unfold startValue
      split_ifs
      · exact carriedOut_single (by simp only [exec, execLoadStartValue, hw, if_true])
      · exact carriedOut_single (by simp only [exec, execLoadStopValue, hw, if_true])
      · rfl
    · rfl
  case frame off =>
    obtain ⟨w, hw⟩ := Option.isSome_iff_exists.mp h
    exact carriedOut_single (by simp only [exec, execFrameSlotWrite, hw])
  case line off =>
    obtain ⟨w, hw⟩ := Option.isSome_iff_exists.mp h
    exact carriedOut_single (by simp only [exec, execLineSlotWrite, hw])
  case none => rfl

/-- Beats active at the grant are carried out as their rows, one after another. -/
theorem handOvers_carriedOut {l : List (Watch × Beat)} (hs : s.Phased) (h : ∀ x ∈ l, x.1.Active s) :
    carriedOut (l.flatMap fun x => handedAs x.1 x.2) s (l.foldl (fun t x => handOver x t) s) := by
  induction l generalizing s with
  | nil => rfl
  | cons x l ih =>
    have hx := h x (by simp)
    have ht := hs.handOver hx
    exact carriedOut_append (handedAs_carriedOut hx x.2)
      (ih ht fun y hy => (h y (by simp [hy])).handOver hs ht)

/-- The grant of a host write: driven as received, then handed over beat by beat under the decode at the grant. -/
theorem exec_grant_write {a : HostAccess} (hs : s.Phased) (hp : s.path.memPort = none) (hu : s.path.upstream = some a)
    (hm : mapHit s a.addr = false) (hw : a.write = true)
    (hg : s.path.fairness < 8 ∨ (s.path.evOut = [] ∧ s.path.cmdOut = [] ∧ s.path.expOut = [])) :
    answers .memoryPortGrant s
      (carriedOut ((handOvers s a).flatMap fun x => handedAs x.1 x.2) (hostGranted a s)) := by
  refine ⟨_, exec_grant_host hp hu hm hg, ?_⟩
  rw [handOverAll, if_pos hw]
  refine handOvers_carriedOut (hs.congr rfl rfl rfl rfl) fun x hx => ?_
  obtain ⟨y, -, rfl⟩ := List.mem_map.mp hx
  exact watchOf_active (hostGranted a s) y.1

theorem handOvers_single (addr : W32) (b : Beat) (s : State) :
    handOvers s ⟨true, .single addr b⟩ = [(watchOf s addr, b)] := by
  change [(watchOf s (addr + 0#32), b)] = _
  rw [BitVec.add_zero]

theorem handOvers_burst (block : BitVec 28) (b0 b1 b2 b3 : Beat) (s : State) :
    handOvers s ⟨true, .burst block b0 b1 b2 b3⟩ = [(watchOf s (block ++ 0#4), b0), (watchOf s ((block ++ 0#4) + 4), b1),
      (watchOf s ((block ++ 0#4) + 8), b2), (watchOf s ((block ++ 0#4) + 12), b3)] := by
  change [(watchOf s ((block ++ 0#4) + 0#32), b0), _, _, _] = _
  rw [BitVec.add_zero]
  rfl

/-- Settles O8: the decode, and the hand-over of a single beat and of a burst. -/
theorem grantedWritesAreHandedOver : Obligations.GrantedWritesAreHandedOver := by
  refine ⟨fun a s hs hc => ⟨watchOf_start_iff, fun hw => watchOf_no_windows hw a, fun w hw => ?_⟩,
    fun addr block b b0 b1 b2 b3 s hs hp hg => ⟨fun hu hm => ?_, fun hu hm => ?_⟩⟩
  · obtain ⟨ht, hur, hco, hf, hl⟩ := watchOf_iff hs hc hw a
    have rings := (windows_in_force hs hc hw).1
    exact ⟨ht.trans (and_iff_right rings).symm, hur.trans (and_iff_right rings).symm,
      hco.trans (and_iff_right rings).symm, hf, hl⟩
  · simpa [handOvers_single] using exec_grant_write hs hp hu hm rfl hg
  · simpa [handOvers_burst] using exec_grant_write hs hp hu hm rfl hg

end

end Sys2Proof.Machine
end

section
/-! What an accepted urgent code does, written out (R116, R165, R177). -/

namespace Sys2Proof.Machine

/-- Tables that read alike are alike. -/
theorem Table.ext_get {α : Type} [Inhabited α] {n : Nat} {t u : Table α n} (h : ∀ i < n, t.get i = u.get i) : t = u := by
  refine Table.ext_data (List.ext_getElem (t.size_eq.trans u.size_eq.symm) fun i hi hi' => ?_)
  have hg := h i (t.size_eq ▸ hi)
  simpa [Table.get, Table.getD, List.getD, hi, hi'] using hg

/-- The numbers below `n` among those below a larger bound. -/
theorem filter_range_lt {n m : Nat} (h : n ≤ m) (f : Nat → Bool) :
    ((List.range m).filter fun p => decide (p < n) && f p) = (List.range n).filter f := by
  obtain ⟨k, rfl⟩ := Nat.exists_eq_add_of_le h
  rw [List.range_add, List.filter_append]
  have low : ((List.range n).filter fun p => decide (p < n) && f p) = (List.range n).filter f :=
    List.filter_congr fun p hp => by simp [List.mem_range.mp hp]
  have high : ((List.range k).map (n + ·)).filter (fun p => decide (p < n) && f p) = [] := by
    simp [List.filter_eq_nil_iff]
  rw [low, high, List.append_nil]

section
variable {s t : State} {m : MapEngine}

/-- The refresh queue and the workspace as freezes and thaws find them (R95, R113). -/
def MapEngine.Scheduled (m : MapEngine) : Prop :=
  m.queue.Nodup ∧ (∀ p ∈ m.queue, (m.passes.get p).frozen = false) ∧
    ∀ w, m.work = some w → (m.passes.get w.pass).frozen = true → w.discard = true

/-- FREEZE ALL of the passes below `n`: each frozen, out of the queue, its recompute in flight marked (R113, R116). -/
def MapEngine.frozenBelow (n : Nat) (m : MapEngine) : MapEngine :=
  { m with
    passes := m.passes.mapIdx fun p x => { x with frozen := x.frozen || decide (p < n) }
    queue := m.queue.filter fun p => !decide (p < n)
    work := m.work.map fun w => { w with discard := w.discard || decide (w.pass < n) } }

/-- THAW ALL of the passes below `n`: each thawed, and appended where it was frozen and is in service (R114, R116). -/
def MapEngine.thawedBelow (n : Nat) (m : MapEngine) : MapEngine :=
  { m with
    passes := m.passes.mapIdx fun p x => { x with frozen := x.frozen && !decide (p < n) }
    queue := m.queue ++ (List.range n).filter fun p => (m.passes.get p).frozen && decide ((m.passes.get p).mode ≠ .oos) }

theorem frozenBelow_zero (m : MapEngine) : m.frozenBelow 0 = m := by
  have hp : (m.passes.mapIdx fun p x => { x with frozen := x.frozen || decide (p < 0) }) = m.passes :=
    Table.ext_get fun i hi => by simp [Table.get_mapIdx _ _ hi]
  unfold MapEngine.frozenBelow
  rw [hp]
  cases hw : m.work <;> simp [← hw]

theorem thawedBelow_zero (m : MapEngine) : m.thawedBelow 0 = m := by
  have hp : (m.passes.mapIdx fun p x => { x with frozen := x.frozen && !decide (p < 0) }) = m.passes :=
    Table.ext_get fun i hi => by simp [Table.get_mapIdx _ _ hi]
  unfold MapEngine.thawedBelow
  rw [hp]
  simp

/-- A frozen pass is left as it is by its freeze (R113). -/
theorem frozenBelow_succ_frozen {n : Nat} (h : m.Scheduled) (hf : (m.passes.get n).frozen = true) :
    m.frozenBelow (n + 1) = m.frozenBelow n := by
  obtain ⟨-, hq, hw⟩ := h
  unfold MapEngine.frozenBelow
  congr 1
  · refine Table.ext_get fun i hi => ?_
    rw [Table.get_mapIdx _ _ hi, Table.get_mapIdx _ _ hi]
    by_cases hin : i = n
    · subst hin; simp [hf]
    · have : i < n + 1 ↔ i < n := by omega
      simp [this]
  · refine List.filter_congr fun p hp => ?_
    have hne : p ≠ n := fun he => by
      have := hq p hp
      simp [he, hf] at this
    have : p < n + 1 ↔ p < n := by omega
    simp [this]
  · cases hwork : m.work with
    | none => rfl
    | some w =>
      by_cases hin : w.pass = n
      · simp [hw w hwork (hin ▸ hf)]
      · have : w.pass ≤ n ↔ w.pass < n := by omega
        simp [this]

/-- The freeze of a pass that was not frozen (R113). -/
theorem frozenBelow_succ {n : Nat} (h : m.Scheduled) (hn : n < 8) (hf : (m.passes.get n).frozen = false) :
    m.frozenBelow (n + 1) =
      { m.frozenBelow n with
        passes := (m.frozenBelow n).passes.set n { (m.frozenBelow n).passes.get n with frozen := true }
        queue := (m.frozenBelow n).queue.erase n
        work := (m.frozenBelow n).work.map fun w => if w.pass = n then { w with discard := true } else w } := by
  obtain ⟨hnd, -, -⟩ := h
  unfold MapEngine.frozenBelow
  congr 1
  · refine Table.ext_get fun i hi => ?_
    rw [Table.get_mapIdx _ _ hi, Table.get_set, Table.get_mapIdx _ _ hn]
    by_cases hin : i = n
    · subst hin; simp [hn]
    · have : i < n + 1 ↔ i < n := by omega
      rw [Table.get_mapIdx _ _ hi]
      simp [this, hin]
  · rw [List.Nodup.erase_eq_filter (hnd.filter _), List.filter_filter]
    refine List.filter_congr fun p _ => ?_
    by_cases hin : p = n
    · simp [hin]
    · have : p < n + 1 ↔ p < n := by omega
      simp [this, hin]
  · cases m.work with
    | none => rfl
    | some w =>
      by_cases hin : w.pass = n
      · simp [hin]
      · have : w.pass ≤ n ↔ w.pass < n := by omega
        simp [this, hin]

theorem frozenBelow_frozen {n : Nat} (hn : n < 8) (m : MapEngine) :
    ((m.frozenBelow n).passes.get n).frozen = (m.passes.get n).frozen := by
  simp [MapEngine.frozenBelow, Table.get_mapIdx _ _ hn]

/-- FREEZE of each pass below `n` in turn (R113, R116). -/
theorem freezePasses_range {n : Nat} (hn : n ≤ 8) (h : s.map.Scheduled) :
    freezePasses (List.range n) s = { s with map := s.map.frozenBelow n } := by
  induction n with
  | zero => rw [frozenBelow_zero]; rfl
  | succ n ih =>
    have step : freezePasses (List.range (n + 1)) s = freezePass n { s with map := s.map.frozenBelow n } := by
      rw [← ih (by omega)]
      simp [freezePasses, List.range_succ]
    have frozen : (passAt { s with map := s.map.frozenBelow n } n).frozen = (s.map.passes.get n).frozen :=
      frozenBelow_frozen (by omega) _
    rw [step, freezePass, frozen]
    cases hf : (s.map.passes.get n).frozen with
    | true => rw [if_pos rfl, frozenBelow_succ_frozen h hf]
    | false =>
      rw [if_neg (by decide), frozenBelow_succ h (by omega) hf]
      dsimp only
      split
      next w hw =>
        rw [hw, Option.map_some]
        split
        · rfl
        · rw [← hw]; rfl
      next hw => rw [hw, Option.map_none, ← hw]; rfl

theorem thawed_passes_succ {n : Nat} (hn : n < 8) (m : MapEngine) : (m.thawedBelow (n + 1)).passes =
    (m.thawedBelow n).passes.set n { m.passes.get n with frozen := false } := by
  refine Table.ext_get fun i hi => ?_
  simp only [MapEngine.thawedBelow]
  rw [Table.get_mapIdx _ _ hi, Table.get_set]
  by_cases hin : i = n
  · subst hin; simp [hn]
  · have : i < n + 1 ↔ i < n := by omega
    rw [Table.get_mapIdx _ _ hi]
    simp [this, hin]

theorem thawedBelow_get {n : Nat} (hn : n < 8) (m : MapEngine) :
    (m.thawedBelow n).passes.get n = m.passes.get n := by
  simp [MapEngine.thawedBelow, Table.get_mapIdx _ _ hn]

/-- A pass that is not frozen is left as it is by its thaw (R114). -/
theorem thawedBelow_succ_kept {n : Nat} (hn : n < 8) (hf : (m.passes.get n).frozen = false) :
    m.thawedBelow (n + 1) = m.thawedBelow n := by
  have hp : (m.thawedBelow (n + 1)).passes = (m.thawedBelow n).passes := by
    rw [thawed_passes_succ hn]
    refine Table.ext_get fun i _ => ?_
    rw [Table.get_set]
    split
    next h => rw [h.1, thawedBelow_get hn, ← hf]
    next => rfl
  have hq : (m.thawedBelow (n + 1)).queue = (m.thawedBelow n).queue := by
    simp [MapEngine.thawedBelow, List.range_succ, hf]
  unfold MapEngine.thawedBelow at hp hq ⊢
  congr 1

/-- The thaw of a frozen pass (R114). -/
theorem thawedBelow_succ {n : Nat} (hn : n < 8) (hf : (m.passes.get n).frozen = true) :
    m.thawedBelow (n + 1) =
      { m.thawedBelow n with
        passes := (m.thawedBelow n).passes.set n { m.passes.get n with frozen := false }
        queue := if (m.passes.get n).mode = .oos then (m.thawedBelow n).queue else (m.thawedBelow n).queue ++ [n] } := by
  rw [← thawed_passes_succ hn]
  unfold MapEngine.thawedBelow
  congr 1
  dsimp only
  split
  next hm => simp [List.range_succ, hm]
  next hm => simp [List.range_succ, hm, hf]

/-- THAW of each pass below `n` in turn (R114, R116). -/
theorem thawPasses_range {n : Nat} (hn : n ≤ 8) (h : s.map.Scheduled) :
    thawPasses (List.range n) s = { s with map := s.map.thawedBelow n } := by
  induction n with
  | zero => rw [thawedBelow_zero]; rfl
  | succ n ih =>
    obtain ⟨-, hq, -⟩ := h
    have hlt : n < 8 := by omega
    have step : thawPasses (List.range (n + 1)) s = thawPass n { s with map := s.map.thawedBelow n } := by
      rw [← ih (by omega)]
      simp [thawPasses, List.range_succ]
    have same : passAt { s with map := s.map.thawedBelow n } n = s.map.passes.get n := thawedBelow_get hlt _
    rw [step, thawPass, same]
    cases hf : (s.map.passes.get n).frozen with
    | false => rw [if_neg (by decide), thawedBelow_succ_kept hlt hf]
    | true =>
      rw [if_pos rfl, thawedBelow_succ hlt hf]
      have hnew : n ∉ (s.map.thawedBelow n).queue := by
        simp only [MapEngine.thawedBelow, List.mem_append, List.mem_filter, List.mem_range, lt_self_iff_false, false_and,
          or_false]
        exact fun hmem => by simp [hq n hmem] at hf
      have hget : passAt (setPass n { s.map.passes.get n with frozen := false } { s with map := s.map.thawedBelow n }) n =
          { s.map.passes.get n with frozen := false } := Table.get_set_self hlt
      have hqueued : passQueued (setPass n { s.map.passes.get n with frozen := false }
          { s with map := s.map.thawedBelow n }) n = false := by
        simpa [passQueued, setPass] using hnew
      rw [appendPass, hqueued, hget]
      simp only [Bool.false_eq_true, if_false]
      split <;> rfl

/-! ### An accepted code (R165) -/

theorem State.Scheduled.map (h : s.Scheduled) : s.map.Scheduled := ⟨h.once, fun p hp => (h.runnable p hp).1, h.marked⟩

/-- What a pending code needs of a state for its acceptance to do what R116, R165 and R177 say. -/
def State.Accepts (s : State) : Prop :=
  (s.life.phase = .run ∨ s.life.phase = .halt) ∧ s.EightPasses ∧ s.map.Scheduled

theorem accepts_of (hp : s.life.phase = .run ∨ s.life.phase = .halt) (hc : s.Configured) (hs : s.Scheduled) : s.Accepts :=
  ⟨hp, eightPasses_of (s.configured_iff.mp hc).1, hs.map⟩

theorem State.Accepts.congr (h : s.Accepts) (hl : t.life = s.life) (hm : t.map = s.map) : t.Accepts := by
  unfold State.Accepts State.EightPasses
  rw [hl, hm]
  exact h

/-- The state in which a code is carried out: the register empty and the note clear (R165). -/
def codeLifted (s : State) : State := withCmd { s.cmd with urgent := none, note := false } s

theorem codeAccepted_freezeAll (hp : s.life.phase = .run) (he : s.life.params.passCount ≤ 8) (hm : s.map.Scheduled) :
    post (clearWrite (carryOutUrgent .freezeAll (codeLifted s))) (carryOutUrgent .freezeAll (codeLifted s)) =
      codeAccepted .freezeAll s := by
  have carried : carryOutUrgent .freezeAll (codeLifted s) =
      { codeLifted s with map := s.map.frozenBelow s.life.params.passCount } := by
    simp only [carryOutUrgent, codeLifted, withCmd, hp]
    exact freezePasses_range he hm
  rw [carried, codeAccepted, if_pos hp]
  rfl

theorem codeAccepted_thawAll (hp : s.life.phase = .run) (he : s.life.params.passCount ≤ 8) (hm : s.map.Scheduled) :
    post (clearWrite (carryOutUrgent .thawAll (codeLifted s))) (carryOutUrgent .thawAll (codeLifted s)) =
      codeAccepted .thawAll s := by
  have carried : carryOutUrgent .thawAll (codeLifted s) =
      { codeLifted s with map := s.map.thawedBelow s.life.params.passCount } := by
    simp only [carryOutUrgent, codeLifted, withCmd, hp]
    exact thawPasses_range he hm
  have below := filter_range_lt he fun p => (s.map.passes.get p).frozen && decide ((s.map.passes.get p).mode ≠ .oos)
  simp only [← Bool.and_assoc] at below
  rw [carried, codeAccepted, if_pos hp]
  dsimp only
  rw [below]
  rfl

theorem codeAccepted_abortExport (hp : s.life.phase = .run) :
    post (clearWrite (carryOutUrgent .abortExport (codeLifted s))) (carryOutUrgent .abortExport (codeLifted s)) =
      codeAccepted .abortExport s := by
  have carried : carryOutUrgent .abortExport (codeLifted s) = endExport .aborted (codeLifted s) := by
    simp only [carryOutUrgent, codeLifted, withCmd, hp]
    rfl
  have hj : (codeLifted s).exp.job = s.exp.job := rfl
  rw [carried, codeAccepted, if_pos hp, endExport, hj]
  dsimp only
  cases s.exp.job <;> rfl

/-- A pending code accepted does what R116, R165 and R177 say; in HALT it is taken and does nothing. -/
theorem acceptUrgent_eq (h : s.Accepts) {u : Urgent} (hu : s.cmd.urgent = some u) : acceptUrgent s = codeAccepted u s := by
  obtain ⟨hp | hp, he, hm⟩ := h
  · have lifted : acceptUrgent s = post (clearWrite (carryOutUrgent u (codeLifted s))) (carryOutUrgent u (codeLifted s)) := by
      simp only [acceptUrgent, hp, hu]
      rfl
    rw [lifted]
    cases u
    · exact codeAccepted_freezeAll hp (he hp) hm
    · exact codeAccepted_thawAll hp (he hp) hm
    · exact codeAccepted_abortExport hp
  · exact acceptUrgent_halt hu hp

end

end Sys2Proof.Machine
end

section
/-! The Command Engine: tail writes, failed fetches and the ends of its writes (O40); urgent writes and the acceptance of
a pending code (O47). -/

namespace Sys2Proof.Machine

section
variable {s : State} {u : Urgent}

/-! ### What is outstanding (R12) -/

theorem outstanding_engine_iff : outstanding s .commandEngine = true ↔
    s.path.cmdOut ≠ [] ∨ (onPort s .commandEngine).isSome = true := by
  rw [outstanding, Bool.or_eq_true]
  simp [requests]

theorem outstanding_engine_of_free (hp : s.path.memPort = none) : outstanding s .commandEngine = true ↔ s.path.cmdOut ≠ [] := by
  rw [outstanding_engine_iff]
  simp [onPort, hp]

/-- A clearing write stands on the memory port (R165). -/
theorem onPortKind_urgentClear_iff : onPortKind s .urgentClear ↔
    ∃ r, onPort s .commandEngine = some r ∧ r.kind = .urgentClear := by
  unfold onPortKind onPort
  constructor
  · rintro ⟨r, hk, hr⟩
    exact ⟨r, by simp [hr, hk, ReqKind.owner], hk⟩
  · rintro ⟨r, hr, hk⟩
    split at hr
    next hp =>
      split_ifs at hr
      cases hr
      exact ⟨r, hk, hp⟩
    all_goals cases hr

/-- With no clearing write waiting, one is outstanding exactly on the port (R165). -/
theorem clearOutstanding_iff (hw : ∀ r ∈ s.path.cmdOut, r.kind ≠ .urgentClear) :
    clearOutstanding s = true ↔ onPortKind s .urgentClear := by
  have none_waits : s.path.cmdOut.any (fun r => decide (r.kind = .urgentClear)) = false := by
    simpa [List.any_eq_false] using hw
  rw [onPortKind_urgentClear_iff, clearOutstanding, none_waits, Bool.false_or]
  cases onPort s .commandEngine <;> simp

theorem outstanding_of_clear (h : onPortKind s .urgentClear) : outstanding s .commandEngine = true := by
  obtain ⟨r, hr, -⟩ := onPortKind_urgentClear_iff.mp h
  exact outstanding_engine_iff.mpr (.inr (by simp [hr]))

/-! ### The end of an engine write, case by case (R161, R165) -/

/-- The engine in a state, the rest as it was (R159). -/
def engineIn (e : Engine) (s : State) : State := { s with cmd := { s.cmd with engine := e } }

theorem engineIn_self {e : Engine} (h : s.cmd.engine = e) : engineIn e s = s := by
  subst h
  rfl

/-- In READY the next entry is taken, or none is there to take (R161). -/
theorem fetchIfDue_ready (he : s.cmd.engine = .ready) (hu : s.cmd.urgent = none)
    (ho : outstanding s .commandEngine = false) :
    fetchIfDue s = if s.cmd.head = s.cmd.tail then s else headFetched s := by
  split
  next h => exact fetchIfDue_idle (.inr (.inl h))
  next h => exact fetchIfDue_due he h hu ho

theorem fetchIfDue_not_ready (h : s.cmd.engine ≠ .ready) : fetchIfDue s = s := fetchIfDue_idle (.inl h)

theorem leaveBusy_of_ne (h : s.cmd.engine ≠ .busy) : leaveBusy s = s := if_neg h

theorem leaveBusy_busy (h : s.cmd.engine = .busy) :
    leaveBusy s = engineIn (if s.life.phase = .load then .waitLoad else .ready) s := if_pos h

/-- A write posted after it follows (R161). -/
theorem cmdWriteEnded_waits (h : outstanding s .commandEngine = true) : cmdWriteEnded s = s := if_pos h

/-- With no write outstanding and no code taken, the engine leaves BUSY and may fetch (R161). -/
theorem cmdWriteEnded_goes_on (ho : outstanding s .commandEngine = false)
    (h : s.cmd.urgent = none ∨ s.life.phase = .load ∨ s.cmd.engine = .waitLoad) :
    cmdWriteEnded s = fetchIfDue (leaveBusy s) := by
  rw [cmdWriteEnded, if_neg (by simp [ho]), if_neg]
  rintro ⟨hu, hl, he⟩
  obtain h | h | h := h
  · simp [h] at hu
  · exact hl h
  · exact he h

/-- WAIT_LOAD is not left (R166). -/
theorem cmdWriteEnded_waitLoad (he : s.cmd.engine = .waitLoad) : cmdWriteEnded s = s := by
  cases ho : outstanding s .commandEngine with
  | true => exact cmdWriteEnded_waits ho
  | false =>
    rw [cmdWriteEnded_goes_on ho (.inr (.inr he)), leaveBusy_of_ne (by simp [he]), fetchIfDue_not_ready (by simp [he])]

/-- In LOAD the engine leaves BUSY for WAIT_LOAD, a code staying pending (R164, R166). -/
theorem cmdWriteEnded_load (ho : outstanding s .commandEngine = false) (he : s.cmd.engine = .busy)
    (hl : s.life.phase = .load) : cmdWriteEnded s = engineIn .waitLoad s := by
  rw [cmdWriteEnded_goes_on ho (.inr (.inl hl)), leaveBusy_busy he, if_pos hl]
  exact fetchIfDue_not_ready (by simp [engineIn])

/-- STALLED is not left (R162). -/
theorem cmdWriteEnded_stalled (hu : s.cmd.urgent = none) (he : s.cmd.engine = .stalled) : cmdWriteEnded s = s := by
  cases ho : outstanding s .commandEngine with
  | true => exact cmdWriteEnded_waits ho
  | false =>
    rw [cmdWriteEnded_goes_on ho (.inl hu), leaveBusy_of_ne (by simp [he]), fetchIfDue_not_ready (by simp [he])]

/-- BUSY and READY take the next entry, or are READY where there is none (R161). -/
theorem cmdWriteEnded_next (ho : outstanding s .commandEngine = false) (hu : s.cmd.urgent = none)
    (he : s.cmd.engine = .busy ∧ s.life.phase ≠ .load ∨ s.cmd.engine = .ready) :
    cmdWriteEnded s = if s.cmd.head = s.cmd.tail then engineIn .ready s else headFetched (engineIn .ready s) := by
  have left : leaveBusy s = engineIn .ready s := by
    obtain ⟨he, hl⟩ | he := he
    · rw [leaveBusy_busy he, if_neg hl]
    · rw [leaveBusy_of_ne (by simp [he]), engineIn_self he]
  rw [cmdWriteEnded_goes_on ho (.inl hu), left]
  exact fetchIfDue_ready rfl hu ho

/-- A pending code is accepted (R165). -/
theorem cmdWriteEnded_accepts (ho : outstanding s .commandEngine = false) (ha : s.Accepts) (hu : s.cmd.urgent = some u)
    (he : s.cmd.engine ≠ .waitLoad) : cmdWriteEnded s = codeAccepted u s := by
  have hl : s.life.phase ≠ .load := by
    obtain ⟨hp | hp, -⟩ := ha <;> simp [hp]
  rw [cmdWriteEnded, if_neg (by simp [ho]), if_pos ⟨by simp [hu], hl, he⟩, acceptUrgent_eq ha hu]

/-! ### The acceptance at once (R164) -/

theorem acceptAtOnce_none (hu : s.cmd.urgent = none) : acceptAtOnce s = s := by
  unfold acceptAtOnce
  split
  · exact acceptUrgent_none hu
  · rfl

theorem acceptAtOnce_of_clear (h : clearOutstanding s = true) : acceptAtOnce s = s := by
  rw [acceptAtOnce, h, Bool.not_true, Bool.and_false]
  rfl

theorem acceptAtOnce_of_engine (h : ¬(s.cmd.engine = .ready ∨ s.cmd.engine = .stalled)) : acceptAtOnce s = s := by
  have : s.cmd.engine.atOnce = false := by
    cases he : s.cmd.engine <;> simp_all [Engine.atOnce]
  rw [acceptAtOnce, this, Bool.false_and]
  rfl

theorem acceptAtOnce_accepts (he : s.cmd.engine = .ready ∨ s.cmd.engine = .stalled) (hc : clearOutstanding s = false)
    (ha : s.Accepts) (hu : s.cmd.urgent = some u) : acceptAtOnce s = codeAccepted u s := by
  have : s.cmd.engine.atOnce = true := by
    obtain he | he := he <;> rw [he] <;> rfl
  rw [acceptAtOnce, this, hc, Bool.not_false, Bool.and_true, if_pos rfl, acceptUrgent_eq ha hu]

/-! ### Tail writes (O40) -/

/-- The tail moved, the engine in a state (R160). -/
def tailMoved (v : W32) (e : Engine) (s : State) : State :=
  { s with cmd := { s.cmd with tail := v.toNat % s.life.params.cmdSize, engine := e } }

theorem tailWrite_busy (v : W32) (h : s.cmd.engine = .busy ∨ s.cmd.engine = .waitLoad) :
    tailWrite v s = tailMoved v s.cmd.engine s := by
  unfold tailWrite
  obtain h | h := h <;> simp only [h] <;> rw [← h] <;> rfl

theorem tailWrite_idle (v : W32) (h : s.cmd.engine = .ready ∨ s.cmd.engine = .stalled) :
    tailWrite v s = fetchIfDue (tailMoved v .ready s) := by
  obtain h | h := h
  · have moved : tailMoved v .ready s = withCmd { s.cmd with tail := v.toNat % cmdSize s } s := by rw [← h]; rfl
    have fetched : tailWrite v s = fetchIfDue (withCmd { s.cmd with tail := v.toNat % cmdSize s } s) := by
      simp only [tailWrite, h]
    rw [fetched, moved]
  · simp only [tailWrite, h]
    rfl

theorem exec_tailWordWrite (h : (ringWindows s).isSome = true) (v : W32) :
    exec (.tailWordWrite v) s = .next (tailWrite v s) := whileRings_of h

/-! ### Failed fetches (O40) -/

/-- The engine after a failed fetch (R162). -/
def fetchFailedIn (e : Engine) (s : State) : State :=
  { s with
    cmd := { s.cmd with engine := e }
    path := { s.path with memPort := none }
    ev := s.ev.take ⟨.commandFetchError, BitVec.ofNat 16 s.cmd.head, s.life.clock, 0, 0⟩ }

theorem exec_ringFetchError (h : onPortKind s .ringFetch) : exec .ringFetchError s =
    .next (if s.life.phase = .load then fetchFailedIn .waitLoad s else acceptAtOnce (fetchFailedIn .stalled s)) := by
  obtain ⟨r, hk, hp⟩ := h
  have ended : exec .ringFetchError s = .next (ringFetchFailed (freePort s)) :=
    congrArg Host.Outcome.next (complete_of hp (by simp [isKind, hk]))
  rw [ended]
  rfl

/-- An engine write completes, with an error or without (R161, R165). -/
theorem exec_write_complete {c : Instr} (h : ∃ error, c = .headWordWriteComplete error ∧ onPortKind s .headWord ∨
    c = .urgentClearWriteComplete error ∧ onPortKind s .urgentClear) :
    exec c s = .next (cmdWriteEnded (freePort s)) := by
  obtain ⟨error, ⟨rfl, r, hk, hp⟩ | ⟨rfl, r, hk, hp⟩⟩ := h
  all_goals
    cases error <;> exact congrArg Host.Outcome.next (complete_of hp (by simp [isKind, hk]))

/-- Settles O40. -/
theorem theRingIsFetchedFromHeadToTail : Obligations.TheRingIsFetchedFromHeadToTail := by
  refine ⟨fun v s hr => ⟨fun he => ?_, fun he => ⟨fun hidle => ?_, fun hne hu ho => ?_⟩⟩,
    fun s hp => ⟨fun hl hu => ?_, fun u hu ho hph hc hsch => ?_, fun hl => ?_⟩, fun c s hc => ⟨fun h => ?_, fun ho =>
      ⟨fun he hl => ?_, fun hu he => ?_, fun hu he => ?_, fun u hu he hph hconf hsch => ?_⟩⟩⟩
  · rw [exec_tailWordWrite hr, tailWrite_busy v he]; rfl
  · rw [exec_tailWordWrite hr, tailWrite_idle v he]
    exact congrArg _ (fetchIfDue_idle (.inr hidle))
  · rw [exec_tailWordWrite hr, tailWrite_idle v he]
    exact congrArg _ (fetchIfDue_due rfl hne hu ho)
  · rw [exec_ringFetchError hp, if_neg hl]
    exact congrArg _ (acceptAtOnce_none hu)
  · have hl : s.life.phase ≠ .load := by
      obtain hph | hph := hph <;> simp [hph]
    have clear : clearOutstanding (fetchFailedIn .stalled s) = false := by
      simp [clearOutstanding, fetchFailedIn, onPort, ho]
    rw [exec_ringFetchError hp, if_neg hl,
      acceptAtOnce_accepts (.inr rfl) clear ((accepts_of hph hc hsch).congr rfl rfl) hu]
    rfl
  · rw [exec_ringFetchError hp, if_pos hl]
    rfl
  · rw [exec_write_complete hc]
    obtain h | h := h
    · exact congrArg _ (cmdWriteEnded_waits ((outstanding_engine_of_free rfl).mpr h))
    · exact congrArg _ (cmdWriteEnded_waitLoad h)
  all_goals
    have idle : outstanding (freePort s) .commandEngine = false := by
      rw [← Bool.not_eq_true, outstanding_engine_of_free rfl, not_not]
      exact ho
    rw [exec_write_complete hc]
  · exact congrArg _ (cmdWriteEnded_load idle he hl)
  · rw [cmdWriteEnded_stalled (s := freePort s) hu he, ← he]
    rfl
  · exact congrArg _ (cmdWriteEnded_next idle hu he.symm.symm)
  · refine congrArg _ (cmdWriteEnded_accepts idle ((accepts_of hph hconf hsch).congr rfl rfl) hu ?_)
    obtain he | he | he := he <;> simp [he]

/-! ### Urgent writes (O47) -/

/-- The state that an urgent write leaves before the engine acts on it: the register and the note, the clearing write not
granted yet withdrawn, and the refusal handed over where there is one (R164, R165). -/
def urgentSet (reg : Option Urgent) (ev : EventWriter) (s : State) : State :=
  { s with
    cmd := { s.cmd with urgent := reg, note := true }
    path := { s.path with cmdOut := s.path.cmdOut.filter fun r => decide (r.kind ≠ .urgentClear) }
    ev := ev }

theorem urgentWrite_eq (reg : Option Urgent) (s : State) : urgentWrite reg s =
    if s.cmd.engine = .busy then cmdWriteEnded (urgentSet reg s.ev s)
      else fetchIfDue (acceptAtOnce (urgentSet reg s.ev s)) := rfl

theorem urgentRefused_eq (v : W32) (s : State) : urgentRefused v s = cmdWriteEnded (urgentSet s.cmd.urgent
    (s.ev.take ⟨.commandRefused, 0x8000, s.life.clock, v, 1⟩) s) := rfl

/-- The row is the host's write of a value that R164 names: the register takes its code. -/
def Writes (c : Instr) (reg : Option Urgent) : Prop :=
  (c, reg) ∈ ([(.urgentCancel, none), (.freezeAll, some .freezeAll), (.thawAll, some .thawAll),
    (.abortExport, some .abortExport)] : List (Instr × Option Urgent))

/-- The row is the host's write of a value that R164 does not name: the register stays, and the write is refused. -/
def Refuses (c : Instr) (reg : Option Urgent) (ev : EventWriter) (s : State) : Prop :=
  ∃ v : W32, c = .urgentUnknown v ∧ 4 ≤ v.toNat ∧ reg = s.cmd.urgent ∧
    ev = s.ev.take ⟨.commandRefused, 0x8000, s.life.clock, v, 1⟩

theorem not_refuses_of_writes {c : Instr} {reg : Option Urgent} {ev : EventWriter} (h : Writes c reg) :
    ¬ Refuses c reg ev s := by
  rintro ⟨v, rfl, -⟩
  simp [Writes] at h

theorem exec_writes {c : Instr} {reg : Option Urgent} (hr : (ringWindows s).isSome = true) (h : Writes c reg) :
    exec c s = .next (urgentWrite reg s) := by
  simp only [Writes, List.mem_cons, Prod.mk.injEq, List.not_mem_nil, or_false] at h
  obtain ⟨rfl, rfl⟩ | ⟨rfl, rfl⟩ | ⟨rfl, rfl⟩ | ⟨rfl, rfl⟩ := h <;> exact whileRings_of hr

/-- What an urgent write does once register, note and clearing write are set: a refused value, or any value in BUSY, acts
as a write that has ended; a code in another state is accepted at once where the engine takes it (R164). -/
theorem exec_urgent {c : Instr} {reg : Option Urgent} {ev : EventWriter} (hr : (ringWindows s).isSome = true)
    (h : Writes c reg ∧ ev = s.ev ∨ Refuses c reg ev s) :
    (s.cmd.engine = .busy ∨ Refuses c reg ev s) ∧ exec c s = .next (cmdWriteEnded (urgentSet reg ev s)) ∨
    (s.cmd.engine ≠ .busy ∧ ¬ Refuses c reg ev s) ∧
      exec c s = .next (fetchIfDue (acceptAtOnce (urgentSet reg ev s))) := by
  obtain ⟨hw, rfl⟩ | href := h
  · rw [exec_writes hr hw, urgentWrite_eq]
    by_cases hb : s.cmd.engine = .busy
    · exact .inl ⟨.inl hb, by rw [if_pos hb]⟩
    · exact .inr ⟨⟨hb, not_refuses_of_writes hw⟩, by rw [if_neg hb]⟩
  · refine .inl ⟨.inr href, ?_⟩
    obtain ⟨v, rfl, hv, rfl, rfl⟩ := href
    simp only [exec, execUrgentUnknown, if_neg (not_lt.mpr hv), whileRings_of hr, urgentRefused_eq]

/-- After a code is accepted its clearing write is outstanding (R165). -/
theorem outstanding_codeTaken (s : State) : outstanding (codeTaken s) .commandEngine = true :=
  outstanding_engine_iff.mpr (.inl (by simp [codeTaken]))

theorem codeAccepted_out (u : Urgent) (s : State) :
    requests (codeAccepted u s) .commandEngine = requests (codeTaken s) .commandEngine ∧
      onPort (codeAccepted u s) .commandEngine = onPort (codeTaken s) .commandEngine := by
  unfold codeAccepted
  dsimp only
  split
  · cases u
    · exact ⟨rfl, rfl⟩
    · exact ⟨rfl, rfl⟩
    · cases s.exp.job <;> exact ⟨rfl, rfl⟩
  · exact ⟨rfl, rfl⟩

/-- No entry is fetched behind an accepted code before its clearing write has ended (R165). -/
theorem fetchIfDue_codeAccepted (u : Urgent) (s : State) : fetchIfDue (codeAccepted u s) = codeAccepted u s := by
  obtain ⟨hr, hp⟩ := codeAccepted_out u s
  refine fetchIfDue_idle (.inr (.inr (.inr ?_)))
  rw [outstanding, hr, hp]
  exact outstanding_codeTaken s

/-- With no code pending, READY and STALLED stay where there is nothing to fetch or something is outstanding (R161,
R162). -/
theorem engine_stays (hu : s.cmd.urgent = none) (he : s.cmd.engine = .ready ∨ s.cmd.engine = .stalled)
    (h : s.cmd.engine = .stalled ∨ s.cmd.head = s.cmd.tail ∨ outstanding s .commandEngine = true) :
    cmdWriteEnded s = s ∧ fetchIfDue (acceptAtOnce s) = s := by
  rw [acceptAtOnce_none hu]
  cases ho : outstanding s .commandEngine with
  | true => exact ⟨cmdWriteEnded_waits ho, fetchIfDue_idle (.inr (.inr (.inr ho)))⟩
  | false =>
    obtain he | he := he
    · have hh : s.cmd.head = s.cmd.tail := by simpa [he, ho] using h
      refine ⟨?_, fetchIfDue_idle (.inr (.inl hh))⟩
      rw [cmdWriteEnded_next ho hu (.inr he), if_pos hh, engineIn_self he]
    · exact ⟨cmdWriteEnded_stalled hu he, fetchIfDue_not_ready (by simp [he])⟩

/-- With no code pending and nothing outstanding, READY takes the next entry (R161). -/
theorem engine_fetches (hu : s.cmd.urgent = none) (he : s.cmd.engine = .ready) (hne : s.cmd.head ≠ s.cmd.tail)
    (ho : outstanding s .commandEngine = false) :
    cmdWriteEnded s = headFetched s ∧ fetchIfDue (acceptAtOnce s) = headFetched s := by
  rw [acceptAtOnce_none hu, cmdWriteEnded_next ho hu (.inr he), if_neg hne, engineIn_self he]
  exact ⟨rfl, fetchIfDue_due he hne hu ho⟩

/-- With nothing of the engine's outstanding no clearing write is (R165). -/
theorem clearOutstanding_of_idle (ho : outstanding s .commandEngine = false) : clearOutstanding s = false := by
  have hout : s.path.cmdOut = [] := by
    by_contra hne
    simp [outstanding_engine_iff.mpr (.inl hne)] at ho
  rw [← Bool.not_eq_true, clearOutstanding_iff (by simp [hout])]
  exact fun hk => by simp [outstanding_of_clear hk] at ho

section
variable {reg : Option Urgent} {ev : EventWriter}

theorem urgentSet_outstanding : outstanding (urgentSet reg ev s) .commandEngine = true ↔
    (s.path.cmdOut.filter fun r => decide (r.kind ≠ .urgentClear)) ≠ [] ∨ (onPort s .commandEngine).isSome = true :=
  outstanding_engine_iff

theorem urgentSet_clear : clearOutstanding (urgentSet reg ev s) = true ↔ onPortKind s .urgentClear :=
  clearOutstanding_iff (s := urgentSet reg ev s) fun r hr => by simpa using (List.mem_filter.mp hr).2

end

/-- Settles O47: each claim is one case of the end of a write, or of the acceptance at once. -/
theorem urgentCodesAreHeldOrCarriedOut : Obligations.UrgentCodesAreHeldOrCarriedOut := by
  refine ⟨fun c reg ev s hr => ?_, fun s => ⟨fun h => ?_, fun u hu ho he hp hc hs => ?_⟩⟩
  · intro refuses hrow left own accepts written
    have act := exec_urgent hr hrow
    have waits : own → outstanding (urgentSet reg ev s) .commandEngine = true := urgentSet_outstanding.mpr
    have idle (h : ¬own) : outstanding (urgentSet reg ev s) .commandEngine = false := by
      rw [← Bool.not_eq_true, urgentSet_outstanding]
      exact h
    have ready (h : accepts) : (urgentSet reg ev s).Accepts := (accepts_of h.1 h.2.1 h.2.2).congr rfl rfl
    have busy (hb : s.cmd.engine = .busy) : exec c s = .next (cmdWriteEnded (urgentSet reg ev s)) := by
      obtain ⟨-, hx⟩ | ⟨⟨hne, -⟩, -⟩ := act
      · exact hx
      · exact absurd hb hne
    refine ⟨fun h => ?_, fun hb hown _ => ⟨fun hl => ?_, fun hl hreg => ?_, fun u hreg ha => ?_⟩,
      fun he => ⟨fun hreg => ⟨fun h => ?_, fun hrdy hne hown => ?_⟩, fun u hreg => ⟨fun h => ?_, fun ha h => ?_⟩⟩⟩
    · obtain hw | ⟨hb, hown⟩ := h
      · obtain ⟨-, hx⟩ | ⟨-, hx⟩ := act <;> rw [hx]
        · exact congrArg _ (cmdWriteEnded_waitLoad (s := urgentSet reg ev s) hw)
        · rw [acceptAtOnce_of_engine (by simp [urgentSet, hw])]
          exact congrArg _ (fetchIfDue_not_ready (s := urgentSet reg ev s) (by simp [urgentSet, hw]))
      · rw [busy hb]
        exact congrArg _ (cmdWriteEnded_waits (waits hown))
    · rw [busy hb]
      exact congrArg _ (cmdWriteEnded_load (idle hown) hb hl)
    · rw [busy hb]
      exact congrArg _ (cmdWriteEnded_next (s := urgentSet reg ev s) (idle hown) hreg (.inl ⟨hb, hl⟩))
    · rw [busy hb, cmdWriteEnded_accepts (idle hown) (ready ha) hreg (by simp [urgentSet, hb])]
      simp only [written, ← hb]
      rfl
    · have still := engine_stays (s := urgentSet reg ev s) hreg he (h.imp_right (Or.imp_right waits))
      obtain ⟨-, hx⟩ | ⟨-, hx⟩ := act <;> rw [hx]
      · exact congrArg _ still.1
      · exact congrArg _ still.2
    · have next := engine_fetches (s := urgentSet reg ev s) hreg hrdy hne (idle hown)
      have fetched : written .ready = urgentSet reg ev s := by
        simp only [written, ← hrdy]
        rfl
      obtain ⟨-, hx⟩ | ⟨-, hx⟩ := act <;> rw [hx, fetched]
      · exact congrArg _ next.1
      · exact congrArg _ next.2
    · obtain ⟨hb | href, hx⟩ | ⟨⟨-, hnr⟩, hx⟩ := act
      · simp [hb] at he
      · have hout : outstanding (urgentSet reg ev s) .commandEngine = true := by
          obtain hport | ⟨-, hown⟩ := h
          · exact outstanding_of_clear (s := urgentSet reg ev s) hport
          · exact waits hown
        rw [hx]
        exact congrArg _ (cmdWriteEnded_waits hout)
      · have hport : onPortKind s .urgentClear := h.resolve_right fun h => hnr h.1
        rw [hx, acceptAtOnce_of_clear (urgentSet_clear.mpr hport)]
        exact congrArg _ (fetchIfDue_idle (s := urgentSet reg ev s) (.inr (.inr (.inl (by simp [urgentSet, hreg])))))
    · obtain ⟨hb | href, hx⟩ | ⟨⟨-, hnr⟩, hx⟩ := act
      · simp [hb] at he
      · have hown : ¬own := h.resolve_left fun h => h.1 href
        rw [hx]
        refine congrArg _ (cmdWriteEnded_accepts (idle hown) (ready ha) hreg ?_)
        obtain he | he := he <;> simp [urgentSet, he]
      · have hclear : clearOutstanding (urgentSet reg ev s) = false := by
          rw [← Bool.not_eq_true, urgentSet_clear]
          obtain ⟨-, hport⟩ | hown := h
          · exact hport
          · exact fun hport => hown (outstanding_engine_iff.mp (outstanding_of_clear (s := urgentSet reg ev s) hport))
        rw [hx, acceptAtOnce_accepts (s := urgentSet reg ev s) he hclear (ready ha) hreg]
        exact congrArg _ (fetchIfDue_codeAccepted u _)
  · have still : acceptAtOnce s = s ∨ outstanding s .commandEngine = true := by
      obtain hu | ho | he := h
      · exact .inl (acceptAtOnce_none hu)
      · exact .inr ho
      · exact .inl (acceptAtOnce_of_engine he)
    simp only [exec, execUrgentAcceptance]
    split
    · rfl
    next ho => rw [still.resolve_right ho]
  · simp only [exec, execUrgentAcceptance, ho, Bool.false_eq_true, if_false]
    rw [acceptAtOnce_accepts he (clearOutstanding_of_idle ho) (accepts_of hp hc hs) hu]

end

end Sys2Proof.Machine
end

section
/-! The burst that ends a load with OK: which records it has written, and in which state the end begins (R17, R22; for
O20). -/

namespace Sys2Proof.Machine

section
variable {c : RootCfg} {j₀ j j' : LoadJob} {s s' t u u' : State} {ws rest : List W32}

/-! ### Records within one burst -/

/-- A record is at least one word (R183). -/
theorem recordWordsOf_pos {st : Stage} {n : Nat} (h : recordWordsOf st ws = some n) : 1 ≤ n := by
  cases st <;> simp only [recordWordsOf] at h
  case curve =>
    split at h <;> cases h
    unfold curveWords
    omega
  case view =>
    split at h <;> cases h
    unfold viewWords
    omega
  all_goals cases h; decide

/-- `takeRecords_induct`, with the words that each record takes. -/
theorem takeRecords_induct_words {I : LoadJob → State → Prop} {P : State → Prop}
    (taken : ∀ n j j' j'' s s', I j s → 1 ≤ n → n ≤ j.words.length → RecordTaken (j.words.take n) j s j' s' →
      afterRecord (j.words.drop n) j' s' = some j'' → I j'' s')
    (goesOn : ∀ j s, I j s → P (continueLoad j s))
    (fails : ∀ ws j s r, I j s → takeRecord ws j s = .failed r → P (endLoad r s))
    (ends : ∀ n j j' s s', I j s → 1 ≤ n → n ≤ j.words.length → RecordTaken (j.words.take n) j s j' s' →
      afterRecord (j.words.drop n) j' s' = none → P (endLoad .ok s'))
    (fuel : Nat) {j : LoadJob} {s : State} (h : I j s) : P (takeRecords fuel j s) := by
  induction fuel generalizing j s with
  | zero => exact goesOn j s h
  | succ fuel ih =>
    unfold takeRecords
    split
    · exact goesOn j s h
    next n hn =>
      have pos := recordWordsOf_pos hn
      split
      · exact goesOn j s h
      next hlen =>
        split
        next r hr => exact fails _ j s r h hr
        next j' s' ht =>
          split
          next j'' ha => exact ih (taken n j j' j'' s s' h pos (by omega) (takeRecord_written ht) ha)
          next ha => exact ends n j j' s s' h pos (by omega) (takeRecord_written ht) ha

/-- After a record comes the next of its table, or another table with no words of this burst (R17). -/
theorem afterRecord_some (h : afterRecord rest j s = some j') :
    (j.index + 1 < stageRecords (s.life.pendingCfg.getD default) s j.stage ∧
      j' = { j with index := j.index + 1, words := rest }) ∨ j'.words = [] := by
  unfold afterRecord at h
  dsimp only at h
  split_ifs at h with hi
  · cases h
    exact .inl ⟨hi, rfl⟩
  · obtain ⟨n, -, rfl⟩ := Option.map_eq_some_iff.mp h
    exact .inr rfl

/-- A load ends OK in the cell table or in the view table (R17). -/
theorem afterRecord_none (h : afterRecord rest j s = none) : j.stage = .cell ∨ j.stage = .view := by
  unfold afterRecord at h
  dsimp only at h
  split_ifs at h
  rw [Option.map_eq_none_iff] at h
  cases hst : j.stage <;> simp [hst, nextStage] at h ⊢

/-- A record keeps the load in progress. -/
theorem RecordTaken.load (h : RecordTaken ws j u j' u') : u'.life.load = u.life.load := by
  obtain ⟨-, c, -, -, hl⟩ | ⟨-, hl⟩ := h.life <;> rw [hl]

/-- What the records of the cell or view table before `k`, from the burst's first on, have written: configuration parts of
cells, or corrections and spans of views, and nothing else (R22). -/
structure Written (c : RootCfg) (j₀ : LoadJob) (k : Nat) (s u : State) : Prop where
  only : u = { s with map := { s.map with cells := u.map.cells }, view := { s.view with views := u.view.views } }
  parts : ∀ i, u.map.cells.get i = { s.map.cells.get i with cfg := (u.map.cells.get i).cfg }
  cells : j₀.stage = .view → u.map.cells = s.map.cells
  views : ∀ v, j₀.stage = .cell ∨ v < j₀.index → u.view.views.get v = s.view.views.get v
  named : j₀.stage = .cell → j₀.index < (configuredCells c s).length →
    ∀ i, i ∉ ((configuredCells c s).drop j₀.index).take (k - j₀.index) → u.map.cells.get i = s.map.cells.get i

theorem Written.start (c : RootCfg) (j₀ : LoadJob) (k : Nat) (s : State) : Written c j₀ k s s :=
  ⟨rfl, fun _ => rfl, fun _ => rfl, fun _ _ => rfl, fun _ _ _ _ => rfl⟩

theorem Written.life {k : Nat} (h : Written c j₀ k s u) : u.life = s.life := by rw [h.only]

theorem Written.configured {k : Nat} (h : Written c j₀ k s u) : configuredCells c u = configuredCells c s := by
  rw [h.only]
  rfl

/-- The entry of a list among those from `a` to `k`. -/
theorem getElem_mem_drop_take {α : Type} {l : List α} {a k : Nat} (ha : a ≤ k) (hk : k < l.length) :
    l[k] ∈ (l.drop a).take (k + 1 - a) := by
  rw [List.mem_take_iff_getElem]
  refine ⟨k - a, by simp; omega, ?_⟩
  rw [List.getElem_drop]
  congr 1
  omega

/-- One more record of the cell or view table (R20, R21, R22). -/
theorem Written.step (h : Written c j₀ j.index s u) (ht : RecordTaken ws j u j' u') (hp : s.life.pendingCfg = some c)
    (hstage : j.stage = j₀.stage) (htable : j₀.stage = .cell ∨ j₀.stage = .view) (hindex : j₀.index ≤ j.index)
    (hin : j₀.stage = .cell → j₀.index < (configuredCells c s).length → j.index < (configuredCells c s).length) :
    Written c j₀ (j.index + 1) s u' := by
  have hc : u.life.pendingCfg.getD default = c := by rw [h.life, hp]; rfl
  have table : j.stage = .cell ∨ j.stage = .view := by rw [hstage]; exact htable
  cases ht
  case cell x hj hx =>
    have hcell : j₀.stage = .cell := hstage ▸ hj
    rw [hc, h.configured]
    refine ⟨?_, fun i => ?_, fun hv => ?_, fun v hv => h.views v hv, fun _ hlt i hi => ?_⟩
    · have only := h.only
      generalize u.view.views = views at only
      rw [only]
      rfl
    · simp only [withCells_map_cells, Table.get_modify]
      split
      next he => rw [he.1, h.parts]
      next => exact h.parts i
    · simp [hcell] at hv
    · have hk := hin hcell hlt
      have written : ((configuredCells c s).getD j.index 0) ∈
          ((configuredCells c s).drop j₀.index).take (j.index + 1 - j₀.index) := by
        rw [List.getD_eq_getElem _ _ hk]
        exact getElem_mem_drop_take hindex hk
      have hne : i ≠ (configuredCells c s).getD j.index 0 := fun he => hi (he ▸ written)
      simp only [withCells_map_cells, Table.get_modify, hne, false_and, if_false]
      refine h.named hcell hlt i fun hmem => hi ?_
      exact List.take_subset_take_left _ (by omega) hmem
  case view x hj hx =>
    have hview : j₀.stage = .view := hstage ▸ hj
    refine ⟨?_, h.parts, h.cells, fun v hv => ?_, fun hc => ?_⟩
    · have only := h.only
      generalize u.map.cells = cells at only
      rw [only]
      rfl
    · have hlt : v < j₀.index := hv.resolve_left (by simp [hview])
      have hne : v ≠ j.index := by omega
      simp only [withViews_view_views, Table.get_modify, hne, false_and, if_false]
      exact h.views v hv
    · simp [hview] at hc
  case root _ hj _ _ => simp [hj] at table
  case pass _ hj _ => simp [hj] at table
  case channel _ hj _ => simp [hj] at table
  case curve _ hj _ => simp [hj] at table

/-- How far a burst has come: within its table, or past it with no words left. -/
def InBurst (c : RootCfg) (j₀ : LoadJob) (words : Nat) (s : State) (j : LoadJob) (u : State) : Prop :=
  u.life.load = s.life.load ∧
    (j.words = [] ∨
      (j.stage = j₀.stage ∧ j₀.index ≤ j.index ∧ j.index + j.words.length ≤ j₀.index + words ∧
        (j₀.stage = .cell → j₀.index < (configuredCells c s).length → j.index < (configuredCells c s).length) ∧
        (j₀.stage = .cell ∨ j₀.stage = .view → Written c j₀ j.index s u)))

/-- A record of the burst taken, the load going on. -/
theorem InBurst.step {words n : Nat} {j'' : LoadJob} (h : InBurst c j₀ words s j u) (hp : s.life.pendingCfg = some c)
    (hn : 1 ≤ n) (hlen : n ≤ j.words.length) (ht : RecordTaken (j.words.take n) j u j' u')
    (ha : afterRecord (j.words.drop n) j' u' = some j'') : InBurst c j₀ words s j'' u' := by
  obtain ⟨hload, hw | ⟨hstage, hindex, hcount, hin, hwr⟩⟩ := h
  · simp [hw] at hlen
    omega
  · refine ⟨ht.load.trans hload, ?_⟩
    obtain ⟨-, hstage', hindex'⟩ := ht.job
    obtain ⟨hi, rfl⟩ | hw := afterRecord_some ha
    · have written (htable : j₀.stage = .cell ∨ j₀.stage = .view) : Written c j₀ (j.index + 1) s u' :=
        (hwr htable).step ht hp hstage htable hindex hin
      refine .inr ⟨hstage'.trans hstage, ?_, ?_, fun hcell _ => ?_, fun htable => ?_⟩
      · dsimp only
        omega
      · simp only [List.length_drop]
        omega
      · have hwritten := written (.inl hcell)
        have hc : u'.life.pendingCfg.getD default = c := by rw [hwritten.life, hp]; rfl
        rw [hstage', hstage, hcell, hc] at hi
        simpa [stageRecords, hwritten.configured] using hi
      · rw [hindex']
        exact written htable
    · exact .inl hw

theorem endLoad_lastResult {r : LoadResult} (hl : u.life.load = some j) : (endLoad r u).life.lastResult = r := by
  by_cases hr : r = .ok
  · subst hr
    simp [endLoad_ok hl]
  · cases hk : j.kind with
    | reload => simp [endLoad_reload hr hl hk]
    | first => simp [endLoad_first hr hl hk]

/-- What a burst that ended the load with OK has written (R17, R22, R23). -/
theorem configFetched_ok {reply : FetchReply} (hl : s.life.load = some j₀) (hp : s.life.pendingCfg = some c)
    (hload : (configFetched reply s).life.load = none) (hok : (configFetched reply s).life.lastResult = .ok) :
    ∃ u k, (j₀.stage = .cell ∨ j₀.stage = .view) ∧ Written c j₀ k s u ∧
      (j₀.words = [] → k ≤ j₀.index + 4) ∧
      configFetched reply s = adoptConfig j₀.kind c (loadEntered .ok j₀ u) := by
  cases reply with
  | error =>
    have he : configFetched .error s = endLoad .fetchError s := by simp [configFetched, hl]
    rw [he, endLoad_lastResult hl] at hok
    cases hok
  | words w0 w1 w2 w3 =>
    have he : configFetched (.words w0 w1 w2 w3) s =
        takeRecords ((j₀.words ++ [w0, w1, w2, w3]).length + 1) { j₀ with words := j₀.words ++ [w0, w1, w2, w3] } s := by
      simp [configFetched, hl]
    rw [he] at hload hok ⊢
    revert hload hok
    refine takeRecords_induct_words (I := InBurst c j₀ (j₀.words.length + 4) s)
      (P := fun t => t.life.load = none → t.life.lastResult = .ok → ∃ u k, (j₀.stage = .cell ∨ j₀.stage = .view) ∧
        Written c j₀ k s u ∧ (j₀.words = [] → k ≤ j₀.index + 4) ∧ t = adoptConfig j₀.kind c (loadEntered .ok j₀ u))
      (fun n j j' j'' u u' hi hn hlen ht ha => hi.step hp hn hlen ht ha) (fun j u _ hload => ?_)
      (fun ws j u r hi hr _ hok => ?_) (fun n j j' u u' hi hn hlen ht ha _ _ => ?_) _ ?_
    · simp at hload
    · rw [endLoad_lastResult (hi.1.trans hl)] at hok
      exact absurd hok (takeRecord_failed hr)
    · obtain ⟨hload, hw | ⟨hstage, hindex, hcount, hin, hwr⟩⟩ := hi
      · simp [hw] at hlen
        omega
      · obtain ⟨-, hstage', -⟩ := ht.job
        have htable : j₀.stage = .cell ∨ j₀.stage = .view := by
          rw [← hstage, ← hstage']
          exact afterRecord_none ha
        have written := (hwr htable).step ht hp hstage htable hindex hin
        refine ⟨u', j.index + 1, htable, written, fun hw => ?_, ?_⟩
        · simp only [hw, List.length_nil] at hcount
          omega
        · rw [endLoad_ok (j := j₀) (by rw [written.life, hl]), written.life, hp]
          rfl
    · exact ⟨rfl, .inr ⟨rfl, le_rfl, by simp, fun _ h => h, fun _ => .start c j₀ _ s⟩⟩

end

end Sys2Proof.Machine
end

section
/-! The Command Engine, the Event Writer and the hot list at the end of a load with OK (R153, R166, R172; for O20). -/

namespace Sys2Proof.Machine

section
variable {s t : State} {u : Urgent}

/-! ### The Command Engine (R166) -/

theorem outstanding_congr (h : t.path = s.path) (who : Requester) : outstanding t who = outstanding s who := by
  unfold outstanding requests onPort
  rw [h]

/-- With the Export Engine idle a code carried out hands no event over and leaves the path (R116, R177). -/
theorem carryOutUrgent_quiet (hj : s.exp.job = none) (u : Urgent) :
    (carryOutUrgent u s).ev = s.ev ∧ (carryOutUrgent u s).path = s.path := by
  have abort : abortExportJob s = s := by simp [abortExportJob, endExport, hj]
  unfold carryOutUrgent
  split
  · cases u <;> simp [abort]
  all_goals exact ⟨rfl, rfl⟩

/-- With the Export Engine idle a code accepted touches no requests but the engine's own (R165). -/
theorem acceptUrgent_quiet (hj : s.exp.job = none) : (acceptUrgent s).ev = s.ev ∧
    (acceptUrgent s).path.evOut = s.path.evOut ∧ (acceptUrgent s).path.lifeOut = s.path.lifeOut := by
  unfold acceptUrgent
  split
  · exact ⟨rfl, rfl, rfl⟩
  · split
    · exact ⟨rfl, rfl, rfl⟩
    next u _ =>
      obtain ⟨hev, hpath⟩ := carryOutUrgent_quiet (s := withCmd { s.cmd with urgent := none, note := false } s) hj u
      obtain ⟨-, hevOut, -, hlifeOut⟩ := post_other_out (clearWrite (carryOutUrgent u (codeLifted s)))
        (carryOutUrgent u (codeLifted s))
      exact ⟨(post_ev _ _).trans hev, (hevOut nofun).trans (by rw [codeLifted, hpath]; rfl),
        (hlifeOut nofun).trans (by rw [codeLifted, hpath]; rfl)⟩

@[simp] theorem fetchIfDue_out (s : State) :
    (fetchIfDue s).path.evOut = s.path.evOut ∧ (fetchIfDue s).path.lifeOut = s.path.lifeOut := by
  unfold fetchIfDue
  split <;> exact ⟨rfl, rfl⟩

theorem cmdResume_quiet (hj : s.exp.job = none) : (cmdResume s).ev = s.ev ∧
    (cmdResume s).path.evOut = s.path.evOut ∧ (cmdResume s).path.lifeOut = s.path.lifeOut := by
  have hj' : (cmdWake s).exp.job = none := by simpa using hj
  have accepted := acceptUrgent_quiet hj'
  have atOnce : (acceptAtOnce (cmdWake s)).ev = s.ev ∧ (acceptAtOnce (cmdWake s)).path.evOut = s.path.evOut ∧
      (acceptAtOnce (cmdWake s)).path.lifeOut = s.path.lifeOut := by
    unfold acceptAtOnce
    split
    · simpa using accepted
    · simp
  unfold cmdResume
  dsimp only
  split
  · simp
  · simpa using atOnce

theorem cmdLoadOk_quiet (hj : s.exp.job = none) (same : Bool) : (cmdLoadOk same s).ev = s.ev ∧
    (cmdLoadOk same s).path.evOut = s.path.evOut ∧ (cmdLoadOk same s).path.lifeOut = s.path.lifeOut := by
  unfold cmdLoadOk
  split
  · exact cmdResume_quiet hj
  · obtain ⟨hev, hevOut, hlifeOut⟩ := cmdResume_quiet (s := post (headWrite (withCmd { s.cmd with head := 0, tail := 0 } s))
      (withCmd { s.cmd with head := 0, tail := 0 } s)) (by simpa using hj)
    exact ⟨hev, hevOut, hlifeOut⟩

/-- With no code pending the engine's part of a load's end leaves the Map Engine (R166). -/
theorem cmdLoadOk_map (hu : s.cmd.urgent = none) (same : Bool) : (cmdLoadOk same s).map = s.map := by
  have woken (v : State) : (cmdWake v).cmd.urgent = v.cmd.urgent := by
    unfold cmdWake
    split <;> rfl
  have resumed (v : State) (hv : v.cmd.urgent = none) : (cmdResume v).map = v.map := by
    unfold cmdResume
    dsimp only
    rw [acceptAtOnce_none ((woken v).trans hv)]
    simp
  unfold cmdLoadOk
  split
  · exact resumed s hu
  · exact (resumed _ (by simpa [withCmd] using hu)).trans (by simp)

/-- A recompute does not come into flight by a code accepted. -/
theorem freezePass_no_work (hw : s.map.work = none) (p : Nat) : (freezePass p s).map.work = none := by
  unfold freezePass
  dsimp only
  split
  · exact hw
  · simp [hw, removeQueued, setPass]

theorem carryOutUrgent_no_work (hw : s.map.work = none) (u : Urgent) : (carryOutUrgent u s).map.work = none := by
  have frozen (ps : List Nat) : (freezePasses ps s).map.work = none :=
    foldl_keeps (Q := fun v : State => v.map.work = none) (fun _ p hv => freezePass_no_work hv p) ps hw
  unfold carryOutUrgent
  split
  · cases u
    · exact frozen _
    · simpa using hw
    · simpa using hw
  all_goals exact hw

theorem acceptAtOnce_no_work (hw : s.map.work = none) : (acceptAtOnce s).map.work = none := by
  unfold acceptAtOnce acceptUrgent
  split
  · split
    · exact hw
    · split
      · exact hw
      next u _ =>
        dsimp only
        rw [post_map]
        exact carryOutUrgent_no_work (s := withCmd { s.cmd with urgent := none, note := false } s) hw u
  · exact hw

theorem cmdLoadOk_no_work (hw : s.map.work = none) (same : Bool) : (cmdLoadOk same s).map.work = none := by
  have resumed (v : State) (hv : v.map.work = none) : (cmdResume v).map.work = none := by
    have hv' : (cmdWake v).map.work = none := by simpa using hv
    unfold cmdResume
    dsimp only
    split
    · simpa using hv'
    · simpa using acceptAtOnce_no_work hv'
  unfold cmdLoadOk
  split
  · exact resumed s hw
  · exact resumed _ (by simpa using hw)

theorem cmdWake_eq (h : s.cmd.engine ≠ .busy) : cmdWake s = engineIn .ready s := by
  unfold cmdWake
  cases he : s.cmd.engine <;> dsimp only
  case busy => exact absurd he h
  case ready => exact (engineIn_self he).symm
  all_goals rfl

/-- With the ring unchanged and nothing to take the engine is READY (R166). -/
theorem cmdLoadOk_idle (he : s.cmd.engine = .waitLoad) (hu : s.cmd.urgent = none) (hh : s.cmd.head = s.cmd.tail) :
    (cmdLoadOk true s).cmd = { s.cmd with engine := .ready } := by
  have woken : cmdWake s = engineIn .ready s := cmdWake_eq (by simp [he])
  have still : acceptAtOnce (engineIn .ready s) = engineIn .ready s := acceptAtOnce_none hu
  simp only [cmdLoadOk, if_true, cmdResume, woken, still, ite_self]
  rw [fetchIfDue_idle (s := engineIn .ready s) (.inr (.inl hh))]
  rfl

/-- With the ring unchanged a code left pending is taken at once (R166). -/
theorem cmdLoadOk_code (he : s.cmd.engine = .waitLoad) (hu : s.cmd.urgent = some u) (hj : s.exp.job = none)
    (ho : outstanding s .commandEngine = false) (hp : s.life.phase = .run) :
    (cmdLoadOk true s).cmd.urgent = none ∧
      (cmdLoadOk true s).path.cmdOut = [⟨.urgentClear, s.life.params.cmdBase + 0xF08, [0]⟩] := by
  have woken : cmdWake s = engineIn .ready s := cmdWake_eq (by simp [he])
  have ho' : outstanding (engineIn .ready s) .commandEngine = false := ho
  have hout : s.path.cmdOut = [] := by
    by_contra hne
    simp [outstanding_engine_iff.mpr (.inl hne)] at ho
  have accepted : acceptAtOnce (engineIn .ready s) = acceptUrgent (engineIn .ready s) := by
    rw [acceptAtOnce, clearOutstanding_of_idle ho']
    rfl
  have taken : acceptUrgent (engineIn .ready s) =
      post (clearWrite (carryOutUrgent u (codeLifted (engineIn .ready s))))
        (carryOutUrgent u (codeLifted (engineIn .ready s))) := by
    have hu' : (engineIn .ready s).cmd.urgent = some u := hu
    have hp' : (engineIn .ready s).life.phase = .run := hp
    simp only [acceptUrgent, hp', hu']
    rfl
  obtain ⟨-, hpath⟩ := carryOutUrgent_quiet (s := codeLifted (engineIn .ready s)) hj u
  have out : (acceptUrgent (engineIn .ready s)).path.cmdOut = [⟨.urgentClear, s.life.params.cmdBase + 0xF08, [0]⟩] := by
    rw [taken, post_cmdOut _ _ rfl, hpath]
    simp only [codeLifted, engineIn, withCmd, hout, List.nil_append, clearWrite, cmdBase, carryOutUrgent_frame]
    rfl
  have last : fetchIfDue (acceptUrgent (engineIn .ready s)) = acceptUrgent (engineIn .ready s) :=
    fetchIfDue_idle (.inr (.inr (.inr (outstanding_engine_iff.mpr (.inl (by simp [out]))))))
  have whole : cmdLoadOk true s = acceptUrgent (engineIn .ready s) := by
    simp only [cmdLoadOk, if_true, cmdResume, woken, ho', Bool.false_eq_true, if_false, accepted, last]
  refine ⟨?_, by rw [whole, out]⟩
  rw [whole, taken]
  simp [codeLifted]

/-- With the ring changed 0 is written to the head word, and the engine waits for it (R166). -/
theorem cmdLoadOk_zeroed (s : State) : cmdLoadOk false s =
    cmdWake { s with
      cmd := { s.cmd with head := 0, tail := 0 }
      path := { s.path with cmdOut := s.path.cmdOut ++ [⟨.headWord, s.life.params.cmdBase + 0xF04, [0]⟩] } } := by
  have waits (v : State) (hv : outstanding v .commandEngine = true) : cmdResume v = cmdWake v := by
    have hv' : outstanding (cmdWake v) .commandEngine = true := by
      rw [outstanding_congr (cmdWake_frame v).2.1, hv]
    simp only [cmdResume, hv', if_true]
    exact fetchIfDue_idle (.inr (.inr (.inr hv')))
  refine waits _ (outstanding_engine_iff.mpr (.inl ?_))
  rw [post_cmdOut _ _ rfl]
  simp

/-! ### Events handed over (R167) -/

theorem takes_append (es fs : List Event) (w : EventWriter) : takes (es ++ fs) w = takes fs (takes es w) := by
  simp [takes]

/-- Events handed over touch the pending list and the lost count alone (R167). -/
theorem takes_frame (es : List Event) (w : EventWriter) : (takes es w).ring = w.ring ∧ (takes es w).adopt = w.adopt ∧
    (takes es w).producer = w.producer ∧ (takes es w).consumer = w.consumer ∧ (takes es w).expired = w.expired ∧
    (takes es w).evt = w.evt := by
  unfold takes
  refine foldl_keeps (Q := fun v : EventWriter => v.ring = w.ring ∧ v.adopt = w.adopt ∧ v.producer = w.producer ∧
    v.consumer = w.consumer ∧ v.expired = w.expired ∧ v.evt = w.evt) (fun v e hv => ?_) es ⟨rfl, rfl, rfl, rfl, rfl, rfl⟩
  simpa using hv

/-- EVT# plays no part in what an event does. -/
theorem takes_evt (es : List Event) (w : EventWriter) (b : Bool) :
    takes es { w with evt := b } = { takes es w with evt := b } := by
  have one (v : EventWriter) (e : Event) : ({ v with evt := b } : EventWriter).take e = { v.take e with evt := b } := by
    unfold EventWriter.take
    dsimp only
    split
    · rfl
    · split_ifs <;> rfl
  induction es generalizing w with
  | nil => rfl
  | cons e es ih =>
    change takes es (({ w with evt := b } : EventWriter).take e) = { takes es (w.take e) with evt := b }
    rw [one, ih]

/-- The leader event of a rebuild, as it is handed over (R155). -/
theorem leaderEvent_ev (before : Hot) (s : State) :
    (leaderEvent before s).ev = takes (leaderEvents before s.hot s.life.clock) s.ev := by
  unfold leaderEvent leaderEvents leader
  dsimp only
  cases hb : before.list.head? <;> cases hn : s.hot.list.head? <;> simp only [Option.map_none, Option.map_some]
  · rfl
  · simp; rfl
  · simp; rfl
  · simp only [Option.some.injEq]
    split_ifs <;> rfl

/-! ### The Event Writer (R172) -/

theorem unconsumed_congr {w v : EventWriter} (hr : v.ring = w.ring) (hp : v.producer = w.producer)
    (hc : v.consumer = w.consumer) : unconsumed v = unconsumed w := by
  unfold unconsumed
  rw [hr, hp, hc]

/-- EVT# as it stands with a ring in force (R171). -/
theorem evtCondition_of {w : EventWriter} {r : EvRing} (h : w.ring = some r) :
    evtCondition w = (decide (r.threshold ≤ unconsumed w) || w.expired) := by
  simp only [evtCondition, h]

/-- The Event Writer at the end of a load with OK, no write in progress, the ring's base and size unchanged (R172). -/
theorem eventLoadOk_kept {r : EvRing} (ho : outstanding s .eventWriter = false)
    (hk : ∃ o, s.ev.ring = some o ∧ o.base = r.base ∧ o.size = r.size) :
    eventLoadOk r s = evalEvt (withEv { s.ev with ring := some r, adopt := none } s) := by
  rw [eventLoadOk, ho, ← adoptRing_kept hk]
  rfl

/-- The Event Writer at the end of a load with OK, no write in progress, with another ring (R172). -/
theorem eventLoadOk_new {r : EvRing} (ho : outstanding s .eventWriter = false)
    (hk : ¬∃ o, s.ev.ring = some o ∧ o.base = r.base ∧ o.size = r.size) :
    eventLoadOk r s = evalEvt (post (producerWrite r false 0) (withEv { s.ev with
      ring := some r, adopt := none, producer := 0, consumer := 0, coalesce := none, expired := false } s)) := by
  rw [eventLoadOk, ho, ← adoptRing_new hk]
  rfl

/-- The Event Writer at the end of a load with OK, a write in progress (R172). -/
theorem eventLoadOk_waits {r : EvRing} (ho : outstanding s .eventWriter = true) :
    eventLoadOk r s = evalEvt (withEv { s.ev with adopt := some r } s) := by
  rw [eventLoadOk, ho]
  rfl

/-! ### ALM# and the hot list (R138, R148) -/

/-- The condition of ALM# is that one of the 512 cells holds it asserted (R138). -/
theorem almCondition_iff : almCondition s = true ↔ ∃ c < 512, callsAlm s c := by
  have holds (r : AlarmRec) : r.holdsAlm s.life.params.threshold s.life.params.routing = true ↔
      (r.levelUnack = true ∧ s.life.params.threshold.level.code ≤ r.peak.code) ∨
        (r.rateUnack = true ∧ s.life.params.routing = true) := by
    simp [AlarmRec.holdsAlm]
  rw [almCondition, List.any_eq_true]
  constructor
  · rintro ⟨r, hr, hh⟩
    obtain ⟨i, hi, rfl⟩ := List.mem_iff_getElem.mp hr
    refine ⟨i, s.alarm.recs.size_eq ▸ hi, ?_⟩
    have hget : s.alarm.recs.get i = s.alarm.recs.data[i] := by simp [Table.get, Table.getD, List.getD, hi]
    rw [callsAlm, hget]
    exact (holds _).mp hh
  · rintro ⟨i, hi, hh⟩
    exact ⟨_, Table.get_mem _ hi, (holds _).mpr hh⟩

/-- With no live cell the hot list is empty (R149). -/
theorem hotOf_empty (h : ∀ c < 512, (s.map.cells.get c).source.live = false) : hotOf s = ⟨[], 0⟩ := by
  have none_eligible : eligibleEntries s = [] := by
    rw [eligibleEntries, List.filterMap_eq_nil_iff]
    intro c hc
    simp [hotEntry, h c (List.mem_range.mp hc)]
  rw [hotOf, none_eligible]
  rfl

end

end Sys2Proof.Machine
end

section
/-! What a configuration adopted leaves in each block (R23, R44, R70, R90, R118, R145, R153, R172; for O20). -/

namespace Sys2Proof.Machine

section
variable {c : RootCfg} {s : State}

/-! ### The stages of an adoption (R23) -/

/-- The configuration in force, windows and extent taken (R4, R25). -/
def adoptInForce (c : RootCfg) (s : State) : State :=
  pathLoadOk c (withLife { s.life with params := c, lock := s.life.lock || c.lockAtLoad } s)

/-- Intake, channels, views, passes and cells loaded (R44, R70, R90, R118). -/
def adoptLoaded (c : RootCfg) (s : State) : State :=
  mapLoadOk (viewLoadOk (convLoadOk (intakeLoadOk (adoptInForce c s))))

/-- The passes in service appended (R96). -/
def adoptScheduled (c : RootCfg) (s : State) : State :=
  appendPasses (passesInService (adoptLoaded c s)) (adoptLoaded c s)

/-- Alarm records and hot list follow (R145, R153). -/
def adoptListed (c : RootCfg) (s : State) : State := rebuildList (alarmLoadOk (adoptScheduled c s))

/-- The ring adopted and the events handed over (R23, R172). -/
def adoptTold (c : RootCfg) (s : State) : State :=
  leaderEvent s.hot (loadEndEvent .ok .run (eventLoadOk (evRingOf c) (adoptListed c s)))

theorem adoptConfig_eq (k : LoadKind) (c : RootCfg) (s : State) :
    adoptConfig k c s = cmdLoadOk (sameCmdRing k s.life.params c) (adoptTold c s) := rfl

@[simp] theorem adoptInForce_frame (c : RootCfg) (s : State) :
    (adoptInForce c s).life = { s.life with params := c, lock := s.life.lock || c.lockAtLoad } ∧
      (adoptInForce c s).intake = s.intake ∧ (adoptInForce c s).conv = s.conv ∧ (adoptInForce c s).view = s.view ∧
      (adoptInForce c s).map = s.map ∧ (adoptInForce c s).alarm = s.alarm ∧ (adoptInForce c s).hot = s.hot ∧
      (adoptInForce c s).cmd = s.cmd ∧ (adoptInForce c s).ev = s.ev ∧ (adoptInForce c s).exp = s.exp := by
  simp [adoptInForce]

@[simp] theorem adoptLoaded_frame (c : RootCfg) (s : State) :
    (adoptLoaded c s).life = { s.life with params := c, lock := s.life.lock || c.lockAtLoad } ∧
      (adoptLoaded c s).path = (adoptInForce c s).path ∧ (adoptLoaded c s).alarm = s.alarm ∧
      (adoptLoaded c s).hot = s.hot ∧ (adoptLoaded c s).cmd = s.cmd ∧ (adoptLoaded c s).ev = s.ev ∧
      (adoptLoaded c s).exp = s.exp := by
  simp [adoptLoaded]

@[simp] theorem adoptScheduled_frame (c : RootCfg) (s : State) :
    (adoptScheduled c s).life = { s.life with params := c, lock := s.life.lock || c.lockAtLoad } ∧
      (adoptScheduled c s).path = (adoptInForce c s).path ∧ (adoptScheduled c s).intake = (adoptLoaded c s).intake ∧
      (adoptScheduled c s).conv = (adoptLoaded c s).conv ∧ (adoptScheduled c s).view = (adoptLoaded c s).view ∧
      (adoptScheduled c s).map.cells = (adoptLoaded c s).map.cells ∧
      (adoptScheduled c s).map.passes = (adoptLoaded c s).map.passes ∧
      (adoptScheduled c s).map.work = (adoptLoaded c s).map.work ∧ (adoptScheduled c s).alarm = s.alarm ∧
      (adoptScheduled c s).hot = s.hot ∧ (adoptScheduled c s).cmd = s.cmd ∧ (adoptScheduled c s).ev = s.ev ∧
      (adoptScheduled c s).exp = s.exp := by
  simp [adoptScheduled]

@[simp] theorem adoptListed_frame (c : RootCfg) (s : State) :
    (adoptListed c s).life = { s.life with params := c, lock := s.life.lock || c.lockAtLoad } ∧
      (adoptListed c s).path = (adoptInForce c s).path ∧ (adoptListed c s).intake = (adoptLoaded c s).intake ∧
      (adoptListed c s).conv = (adoptLoaded c s).conv ∧ (adoptListed c s).view = (adoptLoaded c s).view ∧
      (adoptListed c s).map = (adoptScheduled c s).map ∧ (adoptListed c s).cmd = s.cmd ∧
      (adoptListed c s).ev = s.ev ∧ (adoptListed c s).exp = s.exp := by
  simp [adoptListed]

@[simp] theorem adoptTold_frame (c : RootCfg) (s : State) :
    (adoptTold c s).life = { s.life with params := c, lock := s.life.lock || c.lockAtLoad } ∧
      (adoptTold c s).intake = (adoptLoaded c s).intake ∧ (adoptTold c s).conv = (adoptLoaded c s).conv ∧
      (adoptTold c s).view = (adoptLoaded c s).view ∧ (adoptTold c s).map = (adoptScheduled c s).map ∧
      (adoptTold c s).alarm = (adoptListed c s).alarm ∧ (adoptTold c s).hot = (adoptListed c s).hot ∧
      (adoptTold c s).cmd = s.cmd ∧ (adoptTold c s).exp = s.exp ∧
      (adoptTold c s).path = (eventLoadOk (evRingOf c) (adoptListed c s)).path := by
  simp [adoptTold]

theorem adoptTold_map (c : RootCfg) (s : State) : (adoptTold c s).map = (adoptScheduled c s).map := by simp

theorem adoptTold_cmd (c : RootCfg) (s : State) : (adoptTold c s).cmd = s.cmd := by simp

theorem adoptTold_path (c : RootCfg) (s : State) :
    (adoptTold c s).path = (eventLoadOk (evRingOf c) (adoptListed c s)).path := by simp

theorem adoptScheduled_passes (c : RootCfg) (s : State) :
    (adoptScheduled c s).map.passes = (adoptLoaded c s).map.passes := by simp

theorem adoptListed_ev (c : RootCfg) (s : State) : (adoptListed c s).ev = s.ev := by simp

theorem adoptListed_path (c : RootCfg) (s : State) : (adoptListed c s).path = (adoptInForce c s).path := by simp

/-! ### Block by block -/

/-- Intake begins afresh (R44). -/
theorem adoptConfig_intake (k : LoadKind) (c : RootCfg) (s : State) : (adoptConfig k c s).intake = { s.intake with
    scanners := Table.build 8 fun i =>
      ⟨none, if i < c.scannerCount then some ⟨s.life.clock, c.freshnessS * 1000⟩ else none, false⟩
    takeOk := true } := by
  rw [adoptConfig_eq]
  simp only [cmdLoadOk_frame, adoptTold_frame, adoptLoaded, mapLoadOk_frame, viewLoadOk_frame, convLoadOk_frame, intakeLoadOk,
    adoptInForce_frame, scannerCount, freshnessTimer, startTimer, now]

/-- The channels are fresh (R70). -/
theorem adoptConfig_conv (k : LoadKind) (c : RootCfg) (s : State) : (adoptConfig k c s).conv = { s.conv with
    channels := s.conv.channels.mapIdx fun i ch => freshChannel (decide (i / 16 < c.scannerCount)) ch } := by
  rw [adoptConfig_eq]
  simp only [cmdLoadOk_frame, adoptTold_frame, adoptLoaded, mapLoadOk_frame, viewLoadOk_frame, convLoadOk, withChannels,
    intakeLoadOk_frame, adoptInForce_frame]

/-- The views are fresh, spots and pairings gone (R90). -/
theorem adoptConfig_view (k : LoadKind) (c : RootCfg) (s : State) : (adoptConfig k c s).view = { s.view with
    views := s.view.views.mapIdx fun i v => freshView (decide (i < c.viewCount)) v
    spots := Table.fill 512 none, pairings := Table.fill 512 none } := by
  rw [adoptConfig_eq]
  simp only [cmdLoadOk_frame, adoptTold_frame, adoptLoaded, mapLoadOk_frame, viewLoadOk, viewCount, convLoadOk_frame,
    intakeLoadOk_frame, adoptInForce_frame]

/-- A pass as an adoption leaves it (R118). -/
def adoptedPass (c : RootCfg) (clock : W32) (p : Nat) (x : Pass) : Pass :=
  if p < c.passCount then
    { x with mode := x.cfg.initialMode, frozen := false, gen := x.gen + 1, timer := some ⟨clock, x.cfg.refreshMs⟩ }
  else { x with mode := .normal, timer := none }

theorem adoptLoaded_map (c : RootCfg) (s : State) : (adoptLoaded c s).map = { s.map with
    passes := s.map.passes.mapIdx (adoptedPass c s.life.clock)
    cells := s.map.cells.mapIdx fun i cell => loadCell (adoptInForce c s)
      ((s.map.passes.mapIdx (adoptedPass c s.life.clock)).get (passOf i)) i cell
    work := none } := by
  have same (p : Nat) (x : Pass) :
      loadPass (viewLoadOk (convLoadOk (intakeLoadOk (adoptInForce c s)))) p x = adoptedPass c s.life.clock p x := by
    simp only [loadPass, passCount, refreshTimer, startTimer, now, viewLoadOk_frame, convLoadOk_frame, intakeLoadOk_frame,
      adoptInForce_frame, adoptedPass]
  have cells (x : Pass) (i : Nat) (cell : Cell) :
      loadCell (viewLoadOk (convLoadOk (intakeLoadOk (adoptInForce c s)))) x i cell =
        loadCell (adoptInForce c s) x i cell := by
    simp only [loadCell, passCount, now, viewLoadOk_frame, convLoadOk_frame, intakeLoadOk_frame]
    rfl
  unfold adoptLoaded mapLoadOk
  simp only [funext₂ same, cells]
  simp only [withWork, withCells, withPasses, viewLoadOk_frame, convLoadOk_frame, intakeLoadOk_frame, adoptInForce_frame]

theorem adoptLoaded_pass {p : Nat} (hp : p < 8) :
    (adoptLoaded c s).map.passes.get p = adoptedPass c s.life.clock p (s.map.passes.get p) := by
  rw [adoptLoaded_map]
  exact Table.get_mapIdx _ _ hp

/-- A pass at the end of an adoption, but for the freeze that a code left pending may set (R118). -/
theorem adoptConfig_pass (k : LoadKind) {p : Nat} (hp : p < 8) : ((adoptConfig k c s).map.passes.get p).thawed =
    (adoptedPass c s.life.clock p (s.map.passes.get p)).thawed := by
  rw [adoptConfig_eq, cmdLoadOk_thawed, adoptTold_map, adoptScheduled_passes,
    adoptLoaded_pass hp]

theorem adoptConfig_work (k : LoadKind) (c : RootCfg) (s : State) : (adoptConfig k c s).map.work = none := by
  rw [adoptConfig_eq]
  exact cmdLoadOk_no_work (by simp [adoptLoaded_map]) _

/-- A cell at the end of an adoption (R118). -/
theorem adoptConfig_cell (k : LoadKind) {i : Nat} (hi : i < 512) : (adoptConfig k c s).map.cells.get i =
    loadCell (adoptInForce c s) (adoptedPass c s.life.clock (i / 64) (s.map.passes.get (i / 64))) i
      (s.map.cells.get i) := by
  have hp : i / 64 < 8 := by omega
  have cells : (adoptConfig k c s).map.cells = (adoptLoaded c s).map.cells := by
    rw [adoptConfig_eq]
    simp
  rw [cells, adoptLoaded_map]
  dsimp only
  rw [Table.get_mapIdx _ _ hi, passOf, Table.get_mapIdx _ _ hp]

/-- Passes that may be appended join the queue in their order (R95, R96). -/
theorem appendPasses_fresh {ps : List Nat} (hn : ps.Nodup) (hq : ∀ p ∈ ps, p ∉ s.map.queue)
    (hf : ∀ p ∈ ps, (passAt s p).frozen = false ∧ (passAt s p).mode ≠ .oos) :
    (appendPasses ps s).map.queue = s.map.queue ++ ps := by
  induction ps generalizing s with
  | nil => simp [appendPasses]
  | cons p ps ih =>
    obtain ⟨hp, hn⟩ := List.nodup_cons.mp hn
    obtain ⟨hfrozen, hmode⟩ := hf p (by simp)
    have one : appendPass p s = withQueue (s.map.queue ++ [p]) s := by
      have : passQueued s p = false := by simpa [passQueued] using hq p (by simp)
      simp [appendPass, this, hfrozen, hmode]
    have rest := ih (s := appendPass p s) hn
      (fun q hqs => by
        rw [one]
        simp only [withQueue_map_queue, List.mem_append, List.mem_singleton, not_or]
        exact ⟨hq q (by simp [hqs]), fun he => hp (he ▸ hqs)⟩)
      (fun q hqs => by rw [one]; exact hf q (by simp [hqs]))
    change (appendPasses ps (appendPass p s)).map.queue = _
    rw [rest, one]
    simp

/-- With an empty queue the passes in service are queued (R96, R118). -/
theorem adoptScheduled_queue (hc : c.passCount ≤ 8) (hq : s.map.queue = []) : (adoptScheduled c s).map.queue =
    (List.range c.passCount).filter fun p => decide ((s.map.passes.get p).cfg.initialMode ≠ .oos) := by
  have mode {p : Nat} (hp : p < c.passCount) : passAt (adoptLoaded c s) p =
      adoptedPass c s.life.clock p (s.map.passes.get p) := adoptLoaded_pass (hp.trans_le hc)
  have service : passesInService (adoptLoaded c s) =
      (List.range c.passCount).filter fun p => decide ((s.map.passes.get p).cfg.initialMode ≠ .oos) := by
    rw [passesInService, passCount, (adoptLoaded_frame c s).1]
    refine List.filter_congr fun p hp => ?_
    rw [mode (List.mem_range.mp hp), adoptedPass, if_pos (List.mem_range.mp hp)]
  have empty : (adoptLoaded c s).map.queue = [] := by rw [adoptLoaded_map]; exact hq
  rw [adoptScheduled, service, appendPasses_fresh (List.nodup_range.filter _) (by simp [empty]), empty, List.nil_append]
  intro p hp
  obtain ⟨hlt, hm⟩ := List.mem_filter.mp hp
  rw [mode (List.mem_range.mp hlt), adoptedPass, if_pos (List.mem_range.mp hlt)]
  exact ⟨rfl, by simpa using hm⟩

/-- No cell is live after an adoption (R118). -/
theorem loadCell_not_live (u : State) (x : Pass) (i : Nat) (cell : Cell) : (loadCell u x i cell).source.live = false := by
  unfold loadCell
  split_ifs <;> rfl

/-- The hot list is empty (R153). -/
theorem adoptConfig_hot (k : LoadKind) (c : RootCfg) (s : State) : (adoptConfig k c s).hot = ⟨[], 0⟩ := by
  have listed : (adoptConfig k c s).hot = hotOf (alarmLoadOk (adoptScheduled c s)) := by
    simp [adoptConfig_eq, adoptListed, rebuildList]
  rw [listed]
  refine hotOf_empty fun i hi => ?_
  have cell := adoptConfig_cell (c := c) (s := s) .first hi
  rw [adoptConfig_eq] at cell
  simp only [cmdLoadOk_frame, adoptTold_frame] at cell
  rw [show (alarmLoadOk (adoptScheduled c s)).map = (adoptScheduled c s).map by simp, cell]
  exact loadCell_not_live _ _ _ _

end

end Sys2Proof.Machine
end

section
/-! Alarm records, events, requests and the command ring at the end of an adoption (R124, R145, R166, R172; for O20). -/

namespace Sys2Proof.Machine

section
variable {c : RootCfg} {s t : State} {k : LoadKind}

/-! ### Alarm records (R124, R145) -/

/-- The alarm block of an adoption is the one of its load. -/
theorem adoptConfig_alarm (k : LoadKind) (c : RootCfg) (s : State) :
    (adoptConfig k c s).alarm = (alarmLoadOk (adoptScheduled c s)).alarm := by
  simp [adoptConfig_eq, adoptListed]

/-- The margin of a load, with the limit in force spelled out (R121, R145). -/
theorem loadMargin_eq (x : Pass) (cell : Cell) : loadMargin x cell =
    if cell.source = .held then
      cell.temp.map fun temp => (if x.mode = .decoke then x.cfg.decokeLimit else cell.cfg.limit) - temp
    else none := by
  unfold loadMargin effectiveLimit
  cases x.mode <;> simp

/-- A freeze plays no part in a margin. -/
theorem loadMargin_thawed (x : Pass) (cell : Cell) : loadMargin x.thawed cell = loadMargin x cell := rfl

/-- Rate references and persistence counts are gone, margins measured anew (R124, R145). -/
theorem adoptConfig_rec (k : LoadKind) {i : Nat} (hi : i < 512) : (adoptConfig k c s).alarm.recs.get i =
    { s.alarm.recs.get i with
      ref := none, persist := 0
      margin := loadMargin ((adoptConfig k c s).map.passes.get (i / 64)) ((adoptConfig k c s).map.cells.get i) } := by
  have hp : i / 64 < 8 := by omega
  have pass : ((adoptConfig k c s).map.passes.get (i / 64)).thawed =
      ((adoptScheduled c s).map.passes.get (i / 64)).thawed := by
    rw [adoptConfig_pass k hp, adoptScheduled_passes, adoptLoaded_pass hp]
  have cell : (adoptConfig k c s).map.cells = (adoptScheduled c s).map.cells := by
    rw [adoptConfig_eq]
    simp
  have margin : loadMargin ((adoptConfig k c s).map.passes.get (i / 64)) ((adoptConfig k c s).map.cells.get i) =
      loadMargin ((adoptScheduled c s).map.passes.get (i / 64)) ((adoptScheduled c s).map.cells.get i) := by
    rw [cell, ← loadMargin_thawed, pass, loadMargin_thawed]
  rw [margin, adoptConfig_alarm]
  exact (Table.get_mapIdx _ _ hi).trans (by simp [passOf])

/-- ALM# agrees with the records (R138). -/
theorem adoptConfig_almTrue (k : LoadKind) (c : RootCfg) (s : State) : (adoptConfig k c s).AlmTrue := by
  have same : almCondition (adoptConfig k c s) = almCondition (alarmLoadOk (adoptScheduled c s)) := by
    simp only [almCondition, adoptConfig_alarm, adoptConfig_life, alarmLoadOk_frame, adoptScheduled_frame]
  rw [State.AlmTrue, ← almCondition_iff, same, adoptConfig_alarm]
  rfl

/-! ### Windows, extent and requests (R4, R23) -/

theorem adoptConfig_latch (k : LoadKind) (c : RootCfg) (s : State) : (adoptConfig k c s).path.latch = none := by
  simp [adoptConfig_eq, adoptInForce, pathLoadOk]

/-- The record extent is that of the pass records written (R7). -/
theorem adoptConfig_extent (k : LoadKind) (hc : c.passCount ≤ 8) : (adoptConfig k c s).path.extent =
    ⟨c.passCount, (List.range c.passCount).map fun p => ((adoptConfig k c s).map.passes.get p).cfg.cellCount,
      c.scannerCount, c.viewCount⟩ := by
  have extent : (adoptConfig k c s).path.extent = extentOf c s := by
    simp [adoptConfig_eq, adoptInForce, pathLoadOk, extentOf, passAt]
  have count : (List.range c.passCount).map (fun p => (passAt s p).cfg.cellCount) =
      (List.range c.passCount).map fun p => ((adoptConfig k c s).map.passes.get p).cfg.cellCount := by
    refine List.map_congr_left fun p hp => ?_
    have thawed := adoptConfig_pass (c := c) (s := s) k ((List.mem_range.mp hp).trans_le hc)
    rw [adoptedPass, if_pos (List.mem_range.mp hp)] at thawed
    exact (congrArg (fun x : Pass => x.cfg.cellCount) thawed).symm
  rw [extent, extentOf, count]

/-- The adoption of a ring touches the Event Writer's own requests alone. -/
theorem eventLoadOk_out (r : EvRing) (s : State) : (eventLoadOk r s).path.lifeOut = s.path.lifeOut ∧
    (eventLoadOk r s).path.cmdOut = s.path.cmdOut := by
  have new (v : State) : (post (producerWrite r false 0) v).path.lifeOut = v.path.lifeOut ∧
      (post (producerWrite r false 0) v).path.cmdOut = v.path.cmdOut := by
    obtain ⟨cmdOut, -, -, lifeOut⟩ := post_other_out (producerWrite r false 0) v
    exact ⟨lifeOut nofun, cmdOut nofun⟩
  cases ho : outstanding s .eventWriter with
  | true =>
    rw [eventLoadOk_waits ho]
    exact ⟨rfl, rfl⟩
  | false =>
    by_cases hk : ∃ o, s.ev.ring = some o ∧ o.base = r.base ∧ o.size = r.size
    · rw [eventLoadOk_kept ho hk]
      exact ⟨rfl, rfl⟩
    · rw [eventLoadOk_new ho hk]
      exact new _

theorem adoptTold_out (c : RootCfg) (s : State) :
    (adoptTold c s).path.lifeOut = s.path.lifeOut ∧ (adoptTold c s).path.cmdOut = s.path.cmdOut := by
  rw [adoptTold_path, (eventLoadOk_out _ _).1, (eventLoadOk_out _ _).2, adoptListed_path]
  exact ⟨rfl, rfl⟩

theorem adoptConfig_lifeOut (k : LoadKind) (c : RootCfg) (hj : s.exp.job = none) :
    (adoptConfig k c s).path.lifeOut = s.path.lifeOut := by
  rw [adoptConfig_eq, (cmdLoadOk_quiet (by simpa using hj) _).2.2, (adoptTold_out c s).1]

/-! ### The event ring (R172) -/

/-- The events that an adoption hands over, in their order (R23, R155). -/
def adoptionEvents (before after : Hot) (clock : W32) : List Event :=
  ⟨.lifeLoadEnd, 0x8000, clock, 1, 4⟩ :: leaderEvents before after clock

/-- The Event Writer adopts the ring, then takes the events. -/
theorem adoptConfig_ev (k : LoadKind) (c : RootCfg) (hj : s.exp.job = none) : (adoptConfig k c s).ev =
    takes (adoptionEvents s.hot (adoptConfig k c s).hot s.life.clock) (eventLoadOk (evRingOf c) (adoptListed c s)).ev := by
  have hot : (adoptConfig k c s).hot = (adoptListed c s).hot := by simp [adoptConfig_eq]
  rw [hot, adoptConfig_eq, (cmdLoadOk_quiet (by simpa using hj) _).1, adoptTold, leaderEvent_ev]
  have loadEnd (v : State) : (loadEndEvent .ok .run v).ev = v.ev.take ⟨.lifeLoadEnd, 0x8000, v.life.clock, 1, 4⟩ := rfl
  rw [loadEnd]
  simp only [loadEndEvent_frame, eventLoadOk_frame, adoptListed_frame]
  rfl

theorem adoptConfig_evOut (k : LoadKind) (c : RootCfg) (hj : s.exp.job = none) :
    (adoptConfig k c s).path.evOut = (eventLoadOk (evRingOf c) (adoptListed c s)).path.evOut := by
  rw [adoptConfig_eq, (cmdLoadOk_quiet (by simpa using hj) _).2.1, adoptTold_path]

theorem adoptListed_outstanding (c : RootCfg) (s : State) (who : Requester) :
    outstanding (adoptListed c s) who = outstanding s who := by
  rw [outstanding_congr (adoptListed_path c s)]
  cases who <;> rfl

/-- EVT# plays no part in the events, and their hand-over keeps it apart. -/
theorem takes_of_evt (es : List Event) (w : EventWriter) (b : Bool) :
    takes es { w with evt := b } = { takes es w with evt := (takes es { w with evt := b }).evt } := by
  rw [takes_evt]

/-- The events leave the adopted ring's condition of EVT# (R171). -/
theorem takes_evt_of_ring {w : EventWriter} {r : EvRing} (es : List Event) (hr : w.ring = some r) :
    (takes es { w with evt := evtCondition w }).evt =
      (decide (r.threshold ≤ unconsumed (takes es { w with evt := evtCondition w })) ||
        (takes es { w with evt := evtCondition w }).expired) := by
  obtain ⟨ring, -, producer, consumer, expired, evt⟩ := takes_frame es { w with evt := evtCondition w }
  rw [evt, expired, unconsumed_congr ring producer consumer, evtCondition_of hr]
  rfl

/-- The ring unchanged in base and size: its indices are kept (R172). -/
theorem adoptConfig_ev_kept (k : LoadKind) (hj : s.exp.job = none) (ho : outstanding s .eventWriter = false)
    (hk : ∃ o, s.ev.ring = some o ∧ o.base = (evRingOf c).base ∧ o.size = (evRingOf c).size) :
    let w : EventWriter := { s.ev with ring := some (evRingOf c), adopt := none }
    (adoptConfig k c s).ev = takes (adoptionEvents s.hot (adoptConfig k c s).hot s.life.clock)
        { w with evt := evtCondition w } ∧
      (adoptConfig k c s).path.evOut = [] := by
  have ev := adoptListed_ev c s
  have adopted := eventLoadOk_kept (r := evRingOf c) (s := adoptListed c s)
    ((adoptListed_outstanding c s _).trans ho) (by rw [ev]; exact hk)
  have empty : s.path.evOut = [] := by
    simp only [outstanding, Bool.or_eq_false_iff, Bool.not_eq_false', List.isEmpty_iff] at ho
    exact ho.1
  refine ⟨?_, ?_⟩
  · rw [adoptConfig_ev k c hj, adopted, ev]
    rfl
  · rw [adoptConfig_evOut k c hj, adopted]
    change (adoptListed c s).path.evOut = []
    rw [(adoptListed_path c s)]
    exact empty

/-- Another ring: its indices are 0 and 0 is written to the producer word (R172). -/
theorem adoptConfig_ev_new (k : LoadKind) (hj : s.exp.job = none) (ho : outstanding s .eventWriter = false)
    (hk : ¬∃ o, s.ev.ring = some o ∧ o.base = (evRingOf c).base ∧ o.size = (evRingOf c).size) :
    let w : EventWriter := { s.ev with
      ring := some (evRingOf c), adopt := none, producer := 0, consumer := 0, coalesce := none, expired := false }
    (adoptConfig k c s).ev = takes (adoptionEvents s.hot (adoptConfig k c s).hot s.life.clock)
        { w with evt := evtCondition w } ∧
      (adoptConfig k c s).path.evOut = [producerWrite (evRingOf c) false 0] := by
  have ev := adoptListed_ev c s
  have adopted := eventLoadOk_new (r := evRingOf c) (s := adoptListed c s)
    ((adoptListed_outstanding c s _).trans ho) (by rw [ev]; exact hk)
  have empty : s.path.evOut = [] := by
    simp only [outstanding, Bool.or_eq_false_iff, Bool.not_eq_false', List.isEmpty_iff] at ho
    exact ho.1
  refine ⟨?_, ?_⟩
  · rw [adoptConfig_ev k c hj, adopted, ev]
    simp [evalEvt]
  · rw [adoptConfig_evOut k c hj, adopted, evalEvt_path, post_evOut _ _ rfl]
    change (adoptListed c s).path.evOut ++ _ = _
    rw [(adoptListed_path c s)]
    change s.path.evOut ++ _ = _
    rw [empty, List.nil_append]

/-- A write in progress: the ring waits for its end (R172). -/
theorem adoptConfig_ev_waits (k : LoadKind) (hj : s.exp.job = none) (ho : outstanding s .eventWriter = true) :
    (adoptConfig k c s).ev.adopt = some (evRingOf c) ∧ (adoptConfig k c s).ev.ring = s.ev.ring ∧
      (adoptConfig k c s).ev.producer = s.ev.producer ∧ (adoptConfig k c s).ev.consumer = s.ev.consumer := by
  have ev := adoptListed_ev c s
  have adopted := eventLoadOk_waits (r := evRingOf c) (s := adoptListed c s) ((adoptListed_outstanding c s _).trans ho)
  rw [adoptConfig_ev k c hj, adopted, ev]
  obtain ⟨ring, adopt, producer, consumer, -, -⟩ := takes_frame
    (adoptionEvents s.hot (adoptConfig k c s).hot s.life.clock) (evalEvt (withEv { s.ev with adopt := some (evRingOf c) }
      (adoptListed c s))).ev
  exact ⟨adopt, ring, producer, consumer⟩

/-! ### The command ring (R166) -/

theorem sameCmdRing_iff {old new : RootCfg} : sameCmdRing k old new = true ↔
    k = .reload ∧ old.cmdBase = new.cmdBase ∧ old.cmdSize = new.cmdSize := by
  simp [sameCmdRing, and_assoc]

theorem adoptTold_outstanding (c : RootCfg) (s : State) :
    outstanding (adoptTold c s) .commandEngine = outstanding s .commandEngine := by
  have port : (adoptTold c s).path.memPort = s.path.memPort := by simp [adoptInForce, pathLoadOk]
  simp only [outstanding, requests, onPort, (adoptTold_out c s).2, port]

/-- The ring unchanged, nothing to take: READY (R166). -/
theorem adoptConfig_cmd_idle (hs : sameCmdRing k s.life.params c = true) (he : s.cmd.engine = .waitLoad)
    (hu : s.cmd.urgent = none) (hh : s.cmd.head = s.cmd.tail) :
    (adoptConfig k c s).cmd = { s.cmd with engine := .ready } := by
  have cmd := adoptTold_cmd c s
  rw [adoptConfig_eq, hs, cmdLoadOk_idle (by rw [cmd, he]) (by rw [cmd, hu]) (by rw [cmd, hh]), cmd]

/-- The ring unchanged, a code pending: it is taken (R166). -/
theorem adoptConfig_cmd_code {u : Urgent} (hs : sameCmdRing k s.life.params c = true) (he : s.cmd.engine = .waitLoad)
    (hu : s.cmd.urgent = some u) (hj : s.exp.job = none) (ho : outstanding s .commandEngine = false)
    (hp : s.life.phase = .run) : (adoptConfig k c s).cmd.urgent = none ∧
      (adoptConfig k c s).path.cmdOut = [⟨.urgentClear, c.cmdBase + 0xF08, [0]⟩] := by
  have cmd := adoptTold_cmd c s
  have life : (adoptTold c s).life = { s.life with params := c, lock := s.life.lock || c.lockAtLoad } := by simp
  have taken := cmdLoadOk_code (s := adoptTold c s) (by rw [cmd, he]) (by rw [cmd, hu]) (by simpa using hj)
    ((adoptTold_outstanding c s).trans ho) (by rw [life]; exact hp)
  rw [adoptConfig_eq, hs]
  rwa [life] at taken

/-- Another ring: 0 is written to its head word, and an engine that is not BUSY is READY with its code kept (R166). -/
theorem adoptConfig_cmd_new (hs : sameCmdRing k s.life.params c = false) :
    (adoptConfig k c s).cmd.head = 0 ∧ (adoptConfig k c s).cmd.tail = 0 ∧
      (adoptConfig k c s).path.cmdOut = s.path.cmdOut ++ [⟨.headWord, c.cmdBase + 0xF04, [0]⟩] ∧
      (s.cmd.engine ≠ .busy →
        (adoptConfig k c s).cmd.engine = .ready ∧ (adoptConfig k c s).cmd.urgent = s.cmd.urgent) := by
  have cmd := adoptTold_cmd c s
  have life : (adoptTold c s).life = { s.life with params := c, lock := s.life.lock || c.lockAtLoad } := by simp
  have zeroed := cmdLoadOk_zeroed (adoptTold c s)
  rw [cmd, life, (adoptTold_out c s).2] at zeroed
  obtain ⟨head, tail⟩ := adoptConfig_indices k c s
  rw [hs] at head tail
  refine ⟨head, tail, ?_, fun he => ?_⟩
  · rw [adoptConfig_eq, hs, zeroed, (cmdWake_frame _).2.1]
  · rw [adoptConfig_eq, hs, zeroed, cmdWake_eq]
    · exact ⟨rfl, rfl⟩
    · exact he

end

end Sys2Proof.Machine
end

section
/-! A load's end with OK adopts the configuration (O20). -/

namespace Sys2Proof.Machine

section
variable {c : RootCfg} {j : LoadJob} {k : Nat} {s e t u : State} {reply : FetchReply}

/-- The state from which an OK end adopts the configuration: RUN entered, the result word posted, and in the blocks what
the records of the last burst have written (R22, R23). -/
structure LoadEnding (c : RootCfg) (j : LoadJob) (k : Nat) (s e : State) : Prop where
  life : e.life = { s.life with phase := .run, lastResult := .ok, load := none, pendingCfg := none }
  intake : e.intake = s.intake
  conv : e.conv = s.conv
  view : e.view = { s.view with views := e.view.views }
  passes : e.map.passes = s.map.passes
  queue : e.map.queue = s.map.queue
  alarm : e.alarm = s.alarm
  hot : e.hot = s.hot
  cmd : e.cmd = s.cmd
  ev : e.ev = s.ev
  exp : e.exp = s.exp
  parts : ∀ i, e.map.cells.get i = { s.map.cells.get i with cfg := (e.map.cells.get i).cfg }
  cells : j.stage = .view → e.map.cells = s.map.cells
  views : ∀ v, j.stage = .cell ∨ v < j.index → e.view.views.get v = s.view.views.get v
  named : j.stage = .cell → j.index < (configuredCells c s).length →
    ∀ i, i ∉ ((configuredCells c s).drop j.index).take (k - j.index) → e.map.cells.get i = s.map.cells.get i
  cmdOut : e.path.cmdOut = s.path.cmdOut
  evOut : e.path.evOut = s.path.evOut
  lifeOut : e.path.lifeOut = s.path.lifeOut ++
    [⟨.resultWord, BitVec.ofNat 32 (s.life.rootStrap.toNat * 0x10000) + 4, [0x00000401]⟩]
  port : e.path.memPort = none

/-- What the records of a burst leave. -/
theorem Written.blocks (h : Written c j k s u) : u.path = s.path ∧ u.intake = s.intake ∧ u.conv = s.conv ∧
    u.view = { s.view with views := u.view.views } ∧ u.map.passes = s.map.passes ∧ u.map.queue = s.map.queue ∧
    u.alarm = s.alarm ∧ u.hot = s.hot ∧ u.cmd = s.cmd ∧ u.ev = s.ev ∧ u.exp = s.exp := by
  have only := h.only
  generalize u.map.cells = cells at only
  generalize u.view.views = views at only
  rw [only]
  exact ⟨rfl, rfl, rfl, rfl, rfl, rfl, rfl, rfl, rfl, rfl, rfl⟩

/-- The requests posted where an OK end begins: the result word alone (R23). -/
theorem loadEntered_out (j : LoadJob) (s : State) :
    (loadEntered .ok j s).path.cmdOut = s.path.cmdOut ∧ (loadEntered .ok j s).path.evOut = s.path.evOut ∧
      (loadEntered .ok j s).path.memPort = s.path.memPort ∧
      (loadEntered .ok j s).path.lifeOut = s.path.lifeOut ++
        [⟨.resultWord, BitVec.ofNat 32 (s.life.rootStrap.toNat * 0x10000) + 4, [0x00000401]⟩] := by
  have word : resultWord .ok .run = 0x00000401 := by decide
  obtain ⟨cmdOut, evOut, -, -⟩ := post_other_out ⟨.resultWord, resultAddr s, [resultWord .ok (phaseAfter j.kind .ok)]⟩
    (withLife { s.life with phase := phaseAfter j.kind .ok, lastResult := .ok, load := none, pendingCfg := none } s)
  refine ⟨cmdOut nofun, evOut nofun, by simp [loadEntered], ?_⟩
  rw [loadEntered, post_lifeOut _ _ rfl, phaseAfter_ok, word, resultAddr, rootAddr]
  rfl

theorem Written.ending (h : Written c j k (freePort s) u) : LoadEnding c j k s (loadEntered .ok j u) := by
  obtain ⟨path, intake, conv, view, passes, queue, alarm, hot, cmd, ev, exp⟩ := h.blocks
  obtain ⟨cmdOut, evOut, port, lifeOut⟩ := loadEntered_out j u
  rw [h.life, path] at lifeOut
  rw [path] at cmdOut evOut port
  obtain ⟨fintake, fconv, fview, fmap, falarm, fhot, fcmd, fev, fexp, -⟩ := loadEntered_frame .ok j u
  exact {
    life := by rw [loadEntered_life, phaseAfter_ok, h.life]; rfl
    intake := fintake.trans intake
    conv := fconv.trans conv
    view := by rw [fview]; exact view
    passes := by rw [fmap]; exact passes
    queue := by rw [fmap]; exact queue
    alarm := falarm.trans alarm
    hot := fhot.trans hot
    cmd := fcmd.trans cmd
    ev := fev.trans ev
    exp := fexp.trans exp
    parts := by rw [fmap]; exact h.parts
    cells := by rw [fmap]; exact h.cells
    views := by rw [fview]; exact h.views
    named := by rw [fmap]; exact h.named
    cmdOut := cmdOut
    evOut := evOut
    lifeOut := lifeOut
    port := port }

/-- With the configuration fetch on the port no other requester has an access there. -/
theorem LoadEnding.same_outstanding (h : LoadEnding c j k s e) (hp : onPortKind s .configFetch) {who : Requester}
    (hw : who = .commandEngine ∨ who = .eventWriter) : outstanding e who = outstanding s who := by
  obtain ⟨r, hr, hp⟩ := hp
  have owner : r.kind.owner = .lifeController := by rw [hr]; rfl
  have requests : requests e who = requests s who := by
    obtain rfl | rfl := hw
    · exact h.cmdOut
    · exact h.evOut
  have port : onPort e who = onPort s who := by
    have hne : ¬(Requester.lifeController = who) := by obtain rfl | rfl := hw <;> nofun
    simp [onPort, h.port, hp, owner, hne]
  simp only [outstanding, requests, port]

/-- A fetch that ends the load with OK adopts the pending configuration from a `LoadEnding`. -/
theorem exec_configFetch_ok (hp : onPortKind s .configFetch) (hl : s.life.load = some j) (hc : s.life.pendingCfg = some c)
    (hx : exec (.configFetchComplete reply) s = .next t) (hload : t.life.load = none) (hok : t.life.lastResult = .ok) :
    ∃ k e, (j.words = [] → k ≤ j.index + 4) ∧ LoadEnding c j k s e ∧ t = adoptConfig j.kind c e := by
  obtain ⟨r, hr, hp⟩ := hp
  have fetched : exec (.configFetchComplete reply) s = .next (configFetched reply (freePort s)) :=
    congrArg Host.Outcome.next (complete_of hp (by simp [isKind, hr]))
  rw [fetched] at hx
  obtain rfl : configFetched reply (freePort s) = t := Host.Outcome.next.inj hx
  obtain ⟨u, k, -, written, hk, ht⟩ := configFetched_ok (s := freePort s) hl hc hload hok
  exact ⟨k, loadEntered .ok j u, hk, written.ending, ht⟩

/-! ### The clauses, block by block -/

/-- Path Unit and Life Controller (R4, R23, R25). -/
theorem LoadEnding.adopt_path (h : LoadEnding c j k s e) (hc : c.passCount ≤ 8) (hj : e.exp.job = none) (kind : LoadKind) :
    let t := adoptConfig kind c e
    t.life = { s.life with
        phase := .run, lastResult := .ok, load := none, pendingCfg := none, params := c
        lock := s.life.lock || c.lockAtLoad } ∧
      t.path.windows = some ⟨c.frameBase, c.lineBase, c.cmdBase, c.eventBase, c.mapBase, c.evSize⟩ ∧
      t.path.latch = none ∧
      t.path.extent = ⟨c.passCount, (List.range c.passCount).map fun p => (t.map.passes.get p).cfg.cellCount,
        c.scannerCount, c.viewCount⟩ ∧
      t.path.lifeOut = s.path.lifeOut ++
        [⟨.resultWord, BitVec.ofNat 32 (s.life.rootStrap.toNat * 0x10000) + 4, [0x00000401]⟩] := by
  refine ⟨?_, adoptConfig_windows _ _ _, adoptConfig_latch _ _ _, adoptConfig_extent kind hc,
    (adoptConfig_lifeOut kind c hj).trans h.lifeOut⟩
  rw [adoptConfig_life, h.life]

/-- Intake (R44). -/
theorem LoadEnding.adopt_intake (h : LoadEnding c j k s e) (kind : LoadKind) :
    let t := adoptConfig kind c e
    t.intake = { s.intake with takeOk := true, scanners := t.intake.scanners } ∧
      ∀ i < 8, t.intake.scanners.get i =
        ⟨none, if i < c.scannerCount then some ⟨s.life.clock, c.freshnessS * 1000⟩ else none, false⟩ := by
  dsimp only
  rw [adoptConfig_intake, h.intake, h.life]
  exact ⟨rfl, fun i hi => Table.get_build _ hi⟩

/-- Channels (R70). -/
theorem LoadEnding.adopt_conv (h : LoadEnding c j k s e) (kind : LoadKind) :
    let t := adoptConfig kind c e
    t.conv = { s.conv with channels := t.conv.channels } ∧ ∀ i < 128,
      let cfg := if i / 16 < c.scannerCount then (s.conv.channels.get i).cfg else ⟨false, 0, 0, 0⟩
      t.conv.channels.get i = ⟨cfg, if cfg.inUse = true then .nodata else .unused,
        none, none, 0, 0, [], ⟨false, false, false, false, false, false, false, false⟩, false, none⟩ := by
  dsimp only
  rw [adoptConfig_conv, h.conv]
  refine ⟨rfl, fun i hi => (Table.get_mapIdx _ _ hi).trans ?_⟩
  by_cases hs : i / 16 < c.scannerCount <;> simp [freshChannel, hs, FaultSet.none]

/-- Views, spots and pairings (R90). -/
theorem LoadEnding.adopt_view (h : LoadEnding c j k s e) (kind : LoadKind) :
    let t := adoptConfig kind c e
    t.view = { s.view with views := t.view.views, spots := t.view.spots, pairings := t.view.pairings } ∧
      (∀ v < 16, (t.view.views.get v).remembered = none ∧ (t.view.views.get v).accepted = 0 ∧
        (c.viewCount ≤ v → (t.view.views.get v).spans = [] ∧ (t.view.views.get v).correction = 0)) ∧
      ∀ i < 512, t.view.spots.get i = none ∧ t.view.pairings.get i = none := by
  dsimp only
  rw [adoptConfig_view]
  refine ⟨by rw [h.view], fun v hv => ?_, fun i hi => ⟨Table.get_fill _ hi, Table.get_fill _ hi⟩⟩
  rw [Table.get_mapIdx _ _ hv]
  refine ⟨rfl, rfl, fun hc => ?_⟩
  simp [freshView, Nat.not_lt.mpr hc]

/-- A configured view keeps what is written of it (R90). -/
theorem adoptConfig_view_kept (kind : LoadKind) {v : Nat} (hv : v < 16) (hc : v < c.viewCount) :
    ((adoptConfig kind c e).view.views.get v).correction = (e.view.views.get v).correction ∧
      ((adoptConfig kind c e).view.views.get v).spans = (e.view.views.get v).spans := by
  rw [adoptConfig_view]
  dsimp only
  rw [Table.get_mapIdx _ _ hv]
  simp [freshView, hc]

/-- An adoption leaves the configuration parts of the passes. -/
theorem adoptConfig_pass_cfg (kind : LoadKind) {p : Nat} (hp : p < 8) :
    ((adoptConfig kind c e).map.passes.get p).cfg = (e.map.passes.get p).cfg := by
  refine (congrArg Pass.cfg (adoptConfig_pass kind hp)).trans ?_
  unfold adoptedPass
  split <;> rfl

/-- An adoption leaves the configuration parts of the cells. -/
theorem loadCell_cfg (v : State) (x : Pass) (i : Nat) (cell : Cell) : (loadCell v x i cell).cfg = cell.cfg := by
  unfold loadCell
  split_ifs <;> rfl

theorem adoptConfig_cell_cfg (kind : LoadKind) {i : Nat} (hi : i < 512) :
    ((adoptConfig kind c e).map.cells.get i).cfg = (e.map.cells.get i).cfg := by
  rw [adoptConfig_cell kind hi, loadCell_cfg]

/-- The configuration parts are those before the last burst but for its records (R22). -/
theorem LoadEnding.adopt_parts (h : LoadEnding c j k s e) (hk : j.words = [] → k ≤ j.index + 4) (kind : LoadKind) :
    let t := adoptConfig kind c e
    (∀ v < 16, v < c.viewCount → j.stage = .cell ∨ v < j.index →
        (t.view.views.get v).correction = (s.view.views.get v).correction ∧
          (t.view.views.get v).spans = (s.view.views.get v).spans) ∧
      (∀ p < 8, (t.map.passes.get p).cfg = (s.map.passes.get p).cfg) ∧
      (j.stage = .view → ∀ i < 512, (t.map.cells.get i).cfg = (s.map.cells.get i).cfg) ∧
      (j.stage = .cell → j.words = [] → j.index < (configuredCells c s).length →
        ∀ i < 512, i ∉ ((configuredCells c s).drop j.index).take 4 →
          (t.map.cells.get i).cfg = (s.map.cells.get i).cfg) := by
  refine ⟨fun v hv hc hw => ?_, fun p hp => ?_, fun hs i hi => ?_, fun hs hw hlt i hi hnot => ?_⟩
  · obtain ⟨correction, spans⟩ := adoptConfig_view_kept (e := e) kind hv hc
    rw [correction, spans, h.views v hw]
    exact ⟨rfl, rfl⟩
  · rw [adoptConfig_pass_cfg kind hp, h.passes]
  · rw [adoptConfig_cell_cfg kind hi, h.cells hs]
  · have := hk hw
    rw [adoptConfig_cell_cfg kind hi, h.named hs hlt i fun hm => hnot (List.take_subset_take_left _ (by omega) hm)]

/-- Passes (R118). -/
theorem LoadEnding.adopt_passes (h : LoadEnding c j k s e) (kind : LoadKind) :
    let t := adoptConfig kind c e
    t.map.work = none ∧ ∀ p < 8,
      (p < c.passCount → (t.map.passes.get p).mode = (t.map.passes.get p).cfg.initialMode ∧
        (t.map.passes.get p).gen = (s.map.passes.get p).gen + 1 ∧
        (t.map.passes.get p).timer = some ⟨s.life.clock, (t.map.passes.get p).cfg.refreshMs⟩) ∧
      (c.passCount ≤ p → (t.map.passes.get p).mode = .normal ∧
        (t.map.passes.get p).gen = (s.map.passes.get p).gen ∧ (t.map.passes.get p).timer = none) ∧
      (t.map.passes.get p).lastCommit = (s.map.passes.get p).lastCommit ∧
      (t.map.passes.get p).commitAge = (s.map.passes.get p).commitAge := by
  refine ⟨adoptConfig_work kind c e, fun p hp => ?_⟩
  have pass := adoptConfig_pass (c := c) (s := e) kind hp
  have cfg := adoptConfig_pass_cfg (c := c) (e := e) kind hp
  have mode := congrArg Pass.mode pass
  have gen := congrArg Pass.gen pass
  have timer := congrArg Pass.timer pass
  have lastCommit := congrArg Pass.lastCommit pass
  have commitAge := congrArg Pass.commitAge pass
  simp only [Pass.thawed, adoptedPass, h.passes, h.life] at mode gen timer lastCommit commitAge
  rw [cfg, mode, gen, timer, lastCommit, commitAge, h.passes]
  by_cases hc : p < c.passCount
  · simp [hc]
  · simp [hc, Nat.not_lt.mp hc]

/-- Cells (R118). -/
theorem LoadEnding.adopt_cells (h : LoadEnding c j k s e) (kind : LoadKind) :
    let t := adoptConfig kind c e
    ∀ i < 512,
      let cfg := (t.map.cells.get i).cfg
      let x := t.map.passes.get (i / 64)
      t.map.cells.get i =
        if i / 64 < c.passCount ∧ i % 64 < x.cfg.cellCount then
          if x.cfg.initialMode = .oos then ⟨cfg, none, .oos, false, false, none, none, none⟩
          else if (s.map.cells.get i).temp.isSome = true then
            ⟨cfg, (s.map.cells.get i).temp, .held, false, (s.map.cells.get i).clamped, some s.life.clock, none, none⟩
          else ⟨cfg, none, .void, false, false, none, none, none⟩
        else ⟨cfg, none, .void, false, false, none, none, none⟩ := by
  intro t i hi
  have hp : i / 64 < 8 := by omega
  have clock : now (adoptInForce c e) = s.life.clock := by
    rw [now, (adoptInForce_frame c e).1, h.life]
  have count : passCount (adoptInForce c e) = c.passCount := by rw [passCount, (adoptInForce_frame c e).1]
  dsimp only [t]
  rw [adoptConfig_cell_cfg kind hi, adoptConfig_pass_cfg kind hp, adoptConfig_cell kind hi, loadCell, clock, count, passOf,
    posOf]
  have old := h.parts i
  generalize (e.map.cells.get i).cfg = cfg at old
  rw [old]
  by_cases hc : i / 64 < c.passCount
  · simp only [adoptedPass, hc, true_and, if_true]
    rfl
  · simp only [hc, false_and, if_false]
    rfl

/-- Alarm records and hot list (R124, R138, R145, R153). -/
theorem LoadEnding.adopt_alarm (h : LoadEnding c j k s e) (kind : LoadKind) :
    let t := adoptConfig kind c e
    (∀ i < 512, t.alarm.recs.get i =
        { s.alarm.recs.get i with
          ref := none, persist := 0
          margin := if (t.map.cells.get i).source = .held then
              (t.map.cells.get i).temp.map fun x =>
                (if (t.map.passes.get (i / 64)).mode = .decoke then (t.map.passes.get (i / 64)).cfg.decokeLimit
                  else (t.map.cells.get i).cfg.limit) - x
            else none }) ∧
      t.AlmTrue ∧ t.hot.list = [] ∧ t.hot.eligible = 0 := by
  refine ⟨fun i hi => ?_, adoptConfig_almTrue _ _ _, by rw [adoptConfig_hot], by rw [adoptConfig_hot]⟩
  rw [adoptConfig_rec kind hi, loadMargin_eq, h.alarm]

/-- Where no code was left pending every pass is thawed and those in service are queued (R96, R118). -/
theorem LoadEnding.adopt_queue (h : LoadEnding c j k s e) (hc : c.passCount ≤ 8) (hq : s.map.queue = [])
    (hu : s.cmd.urgent = none) (kind : LoadKind) :
    let t := adoptConfig kind c e
    (∀ p < c.passCount, (t.map.passes.get p).frozen = false) ∧
      t.map.queue = (List.range c.passCount).filter fun p => decide ((t.map.passes.get p).cfg.initialMode ≠ .oos) := by
  have urgent : (adoptTold c e).cmd.urgent = none := by rw [adoptTold_cmd, h.cmd, hu]
  have map : (adoptConfig kind c e).map = (adoptScheduled c e).map := by
    rw [adoptConfig_eq, cmdLoadOk_map urgent, adoptTold_map]
  refine ⟨fun p hp => ?_, ?_⟩
  · rw [map, adoptScheduled_passes, adoptLoaded_pass (hp.trans_le hc), adoptedPass, if_pos hp]
  · rw [show (adoptConfig kind c e).map.queue = (adoptScheduled c e).map.queue from congrArg _ map,
      adoptScheduled_queue hc (h.queue.trans hq)]
    refine List.filter_congr fun p hp => ?_
    rw [adoptConfig_pass_cfg kind ((List.mem_range.mp hp).trans_le hc)]

/-- The Command Engine (R166). -/
theorem LoadEnding.adopt_cmd (h : LoadEnding c j k s e) (hp : onPortKind s .configFetch) (hj : e.exp.job = none) :
    let t := adoptConfig j.kind c e
    (j.kind = .reload ∧ s.life.params.cmdBase = c.cmdBase ∧ s.life.params.cmdSize = c.cmdSize →
        t.cmd.head = s.cmd.head ∧ t.cmd.tail = s.cmd.tail ∧
          (outstanding s .commandEngine = false → s.cmd.engine = .waitLoad → s.cmd.urgent = none →
            s.cmd.head = s.cmd.tail → t.cmd = { s.cmd with engine := .ready }) ∧
          (∀ u, outstanding s .commandEngine = false → s.cmd.engine = .waitLoad → s.cmd.urgent = some u →
            t.cmd.urgent = none ∧ t.path.cmdOut = [⟨.urgentClear, c.cmdBase + 0xF08, [0]⟩])) ∧
      (¬(j.kind = .reload ∧ s.life.params.cmdBase = c.cmdBase ∧ s.life.params.cmdSize = c.cmdSize) →
        t.cmd.head = 0 ∧ t.cmd.tail = 0 ∧
          t.path.cmdOut = s.path.cmdOut ++ [⟨.headWord, c.cmdBase + 0xF04, [0]⟩] ∧
          (s.cmd.engine ≠ .busy → t.cmd.engine = .ready ∧ t.cmd.urgent = s.cmd.urgent)) := by
  have params : e.life.params = s.life.params := by rw [h.life]
  have phase : e.life.phase = .run := by rw [h.life]
  refine ⟨fun same => ?_, fun new => ?_⟩
  · have hs : sameCmdRing j.kind e.life.params c = true := by rw [params]; exact sameCmdRing_iff.mpr same
    obtain ⟨head, tail⟩ := adoptConfig_indices j.kind c e
    simp only [hs, if_true, h.cmd] at head tail
    refine ⟨head, tail, fun _ he hu hh => ?_, fun u ho he hu => ?_⟩
    · rw [adoptConfig_cmd_idle hs (by rw [h.cmd, he]) (by rw [h.cmd, hu]) (by rw [h.cmd, hh]), h.cmd]
    · exact adoptConfig_cmd_code hs (by rw [h.cmd, he]) (by rw [h.cmd, hu]) hj ((h.same_outstanding hp (.inl rfl)).trans ho)
        phase
  · have hs : sameCmdRing j.kind e.life.params c = false := by
      rw [params]
      exact Bool.eq_false_iff.mpr fun hs => new (sameCmdRing_iff.mp hs)
    obtain ⟨head, tail, out, woken⟩ := adoptConfig_cmd_new hs
    rw [h.cmdOut] at out
    rw [h.cmd] at woken
    exact ⟨head, tail, out, woken⟩

/-- The Event Writer with no write in progress (R171, R172). -/
theorem LoadEnding.adopt_ev (h : LoadEnding c j k s e) (hj : e.exp.job = none) (ho : outstanding e .eventWriter = false)
    (kind : LoadKind) :
    let t := adoptConfig kind c e
    let r : EvRing := ⟨c.eventBase, c.evSize, c.evThreshold, c.coalesceMs, c.classMask⟩
    let kept := ∃ o, s.ev.ring = some o ∧ o.base = r.base ∧ o.size = r.size
    let told := takes (⟨.lifeLoadEnd, 0x8000, s.life.clock, 1, 4⟩ :: leaderEvents s.hot t.hot s.life.clock)
    (kept → t.ev = { told { s.ev with ring := some r, adopt := none } with evt := t.ev.evt } ∧ t.path.evOut = []) ∧
      (¬kept → t.ev = { told { s.ev with
            ring := some r, adopt := none, producer := 0, consumer := 0, coalesce := none, expired := false } with
          evt := t.ev.evt } ∧
        t.path.evOut =
          [⟨.producerWord false, r.base + BitVec.ofNat 32 (if r.size = 256 then 0x1F00 else 0xF00), [0]⟩]) ∧
      t.ev.evt = (decide (r.threshold ≤ unconsumed t.ev) || t.ev.expired) := by
  intro t r kept told
  have clock : e.life.clock = s.life.clock := by rw [h.life]
  by_cases hk : kept
  · obtain ⟨ev, out⟩ := adoptConfig_ev_kept (c := c) kind hj ho (by rw [h.ev]; exact hk)
    rw [h.ev, h.hot, clock] at ev
    refine ⟨fun _ => ⟨?_, out⟩, fun hn => absurd hk hn, ?_⟩
    · dsimp only [t]
      rw [ev]
      exact takes_of_evt _ _ _
    · dsimp only [t]
      rw [ev]
      exact takes_evt_of_ring _ rfl
  · obtain ⟨ev, out⟩ := adoptConfig_ev_new (c := c) kind hj ho (by rw [h.ev]; exact hk)
    rw [h.ev, h.hot, clock] at ev
    refine ⟨fun hy => absurd hy hk, fun _ => ⟨?_, out⟩, ?_⟩
    · dsimp only [t]
      rw [ev]
      exact takes_of_evt _ _ _
    · dsimp only [t]
      rw [ev]
      exact takes_evt_of_ring _ rfl

end

/-- Settles O20: the fetch adopts the pending configuration from a `LoadEnding`, and each block's clause is a lemma about
that. -/
theorem loadEndAdoptsTheConfiguration : Obligations.LoadEndAdoptsTheConfiguration := by
  intro reply j c s t hphased hconf hpaused hport hl hc hx hload hok
  obtain ⟨k, e, hk, h, rfl⟩ := exec_configFetch_ok hport hl hc hx hload hok
  have hphase : s.life.phase ≠ .run := by
    rw [hphased.load.mp (by simp [hl])]
    nofun
  have hpasses : c.passCount ≤ 8 := (hconf.pending c hc).1.passes.2
  have hj : e.exp.job = none := by rw [h.exp]; exact hpaused.exporting hphase
  have writer := h.same_outstanding hport (.inr rfl)
  refine ⟨h.adopt_path hpasses hj j.kind, h.adopt_intake j.kind, h.adopt_conv j.kind, h.adopt_view j.kind,
    h.adopt_parts hk j.kind, h.adopt_passes j.kind, h.adopt_cells j.kind, h.adopt_alarm j.kind,
    fun hu => h.adopt_queue hpasses (hpaused.refresh hphase) hu j.kind, h.adopt_cmd hport hj,
    fun ho => h.adopt_ev hj (writer.trans ho) j.kind, fun ho => ?_⟩
  have waits := adoptConfig_ev_waits (c := c) j.kind hj (writer.trans ho)
  rw [h.ev] at waits
  exact waits

end Sys2Proof.Machine
end

section
/-! Which rows touch the Life Controller or a configured value, and what such a row does under the lock (O22) and to the
heater clock (O5). -/

namespace Sys2Proof.Machine

section
variable {s t u : State}

/-- Neither the Life Controller nor a configured value is touched: no curve, no configuration part of a channel, a cell or
a pass, no correction and no spans of a view, and not the window set (R25). -/
structure Kept (s t : State) : Prop where
  life : t.life = s.life
  curves : t.conv.curves = s.conv.curves
  channels : ∀ i, (t.conv.channels.get i).cfg = (s.conv.channels.get i).cfg
  cells : ∀ i, (t.map.cells.get i).cfg = (s.map.cells.get i).cfg
  passes : PassesFollow s t
  views : ∀ i, (t.view.views.get i).correction = (s.view.views.get i).correction ∧
    (t.view.views.get i).spans = (s.view.views.get i).spans
  windows : t.path.windows = s.path.windows

/-! ### What leaves them alone -/

/-- What leaves the tables of channels, cells, passes and views leaves the configured values. -/
theorem Kept.of_tables (hl : t.life = s.life) (hc : t.conv.curves = s.conv.curves ∧ t.conv.channels = s.conv.channels)
    (hm : t.map.cells = s.map.cells) (hp : PassesFollow s t) (hv : t.view.views = s.view.views)
    (hw : t.path.windows = s.path.windows) : Kept s t :=
  ⟨hl, hc.1, fun i => by rw [hc.2], fun i => by rw [hm], hp, fun i => by rw [hv]; exact ⟨rfl, rfl⟩, hw⟩

/-- What leaves whole blocks leaves the configured values. -/
theorem Kept.of_blocks (h : t.life = s.life ∧ t.conv = s.conv ∧ t.map = s.map ∧ t.view = s.view ∧
    t.path.windows = s.path.windows) : Kept s t := by
  obtain ⟨hl, hc, hm, hv, hw⟩ := h
  exact .of_tables hl (by rw [hc]; exact ⟨rfl, rfl⟩) (by rw [hm]) (.of_eq (by rw [hm])) (by rw [hv]) hw

/-- What works on passes alone, and on their freezes alone, leaves the configured values (R113, R114). -/
theorem Kept.of_freezes (h : t.life = s.life ∧ t.conv = s.conv ∧ t.view = s.view ∧ t.path.windows = s.path.windows ∧
    t.map.cells = s.map.cells) (hp : PassesFollow s t) : Kept s t := by
  obtain ⟨hl, hc, hv, hw, hm⟩ := h
  exact .of_tables hl (by rw [hc]; exact ⟨rfl, rfl⟩) hm hp (by rw [hv]) hw

/-- What works on cells and passes alone leaves the configured values where it leaves their configuration parts. -/
theorem Kept.of_map (h : t.life = s.life ∧ t.conv = s.conv ∧ t.view.views = s.view.views ∧ t.path = s.path)
    (hm : ∀ i, (t.map.cells.get i).cfg = (s.map.cells.get i).cfg) (hp : PassesFollow s t) : Kept s t := by
  obtain ⟨hl, hc, hv, hw⟩ := h
  exact ⟨hl, by rw [hc], fun i => by rw [hc], hm, hp, fun i => by rw [hv]; exact ⟨rfl, rfl⟩, by rw [hw]⟩

theorem Kept.refl (s : State) : Kept s s := .of_blocks ⟨rfl, rfl, rfl, rfl, rfl⟩

theorem Kept.trans (h : Kept s t) (h' : Kept t u) : Kept s u :=
  ⟨h'.life.trans h.life, h'.curves.trans h.curves, fun i => (h'.channels i).trans (h.channels i),
    fun i => (h'.cells i).trans (h.cells i), h.passes.trans h'.passes,
    fun i => ⟨(h'.views i).1.trans (h.views i).1, (h'.views i).2.trans (h.views i).2⟩, h'.windows.trans h.windows⟩

/-- What stands before an operation may be exchanged for what reads the same. -/
theorem Kept.start (h : Kept t u) (hs : Kept s t) : Kept s u := hs.trans h

theorem ite_kept {b : Prop} [Decidable b] (ht : b → Kept s t) (hu : ¬b → Kept s u) : Kept s (if b then t else u) := by
  split_ifs with hb
  · exact ht hb
  · exact hu hb

/-- Where each round leaves the configured values, `forIdx` does. -/
theorem forIdx_kept {n : Nat} {f : Nat → State → State} (hf : ∀ i u, Kept u (f i u)) (s : State) : Kept s (forIdx n f s) :=
  forIdx_keeps (P := Kept s) (fun i u h => h.trans (hf i u)) (.refl s)

theorem emit_kept (k : EventKind) (n : W16) (a b : W32) (s : State) : Kept s (emit k n a b s) := .of_blocks (by simp)

theorem freePort_kept (s : State) : Kept s (freePort s) := .of_blocks (by simp)

/-! ### Frames and channels (R27 to R66) -/

/-- A channel replaced by one of the same configuration part. -/
theorem putChannel_kept {c : Nat} {out : Channel × List EventData} (h : out.1.cfg = (s.conv.channels.get c).cfg) :
    Kept s (putChannel c out s) where
  life := by simp
  curves := by simp
  channels i := by
    rw [putChannel_channels]
    exact Table.get_set_same Channel.cfg h i
  cells i := by simp
  passes := .of_eq (by simp)
  views i := by simp
  windows := by simp

theorem convertFrame_kept (job : FrameJob) (s : State) : Kept s (convertFrame job s) := by
  have abandoned : Kept s { s with conv := { s.conv with inHand := none } } :=
    .of_tables rfl ⟨rfl, rfl⟩ rfl (.of_eq rfl) rfl rfl
  exact abandoned.trans (forIdx_kept (fun _ _ => ite_kept (fun _ => putChannel_kept rfl) fun _ => .refl _) _)

theorem lostNotice_kept (i : Nat) (s : State) : Kept s (lostNotice i s) :=
  forIdx_kept (fun _ _ => ite_kept (fun _ => putChannel_kept rfl) fun _ => .refl _) s

theorem silenceNotice_kept (i : Nat) (s : State) : Kept s (silenceNotice i s) :=
  forIdx_kept (fun _ _ => ite_kept (fun _ => putChannel_kept rfl) fun _ => .refl _) s

theorem frameBeat_kept (off : Nat) (b : Beat) (s : State) : Kept s (frameBeat off b s) := by
  have offered (i : Nat) (f : Frame) (u : State) : Kept u (offerFrame i f u) := by
    refine ite_kept (fun _ => .of_blocks ⟨rfl, rfl, rfl, rfl, rfl⟩) fun _ => ?_
    exact ite_kept (fun _ => (emit_kept _ _ _ _ u).trans (lostNotice_kept _ _)) fun _ => emit_kept _ _ _ _ u
  have stored (i : Nat) (x : Slot 18) (u : State) : Kept u (withFrameSlot i x u) := .of_blocks (by simp)
  refine ite_kept (fun _ => .refl s) fun _ => ite_kept (fun _ => ?_) fun _ => stored _ _ s
  unfold completeFrameSlot
  dsimp only
  split
  · exact (stored _ (Slot.empty 18) s).trans (offered _ _ _)
  · exact (stored _ (Slot.empty 18) s).trans (emit_kept _ _ _ _ _)

theorem acceptFrame_kept (f : Frame) (gap : Option Nat) (s : State) : Kept s (acceptFrame f gap s) := by
  have resumed (x : Table Scanner 8) (b : Bool) (n : W16) (p q : W32) (u : State) :
      Kept u (if b = true then emit .scannerResumed n p q (withScanners x u) else withScanners x u) :=
    ite_kept (fun _ => .of_blocks (by simp)) fun _ => .of_blocks (by simp)
  have noticed (b : Bool) (i : Nat) (u : State) : Kept u (beginFrame f (if b = true then lostNotice i u else u)) :=
    (ite_kept (fun _ => lostNotice_kept i u) fun _ => .refl u).trans
      (.of_tables (by simp) ⟨rfl, rfl⟩ (by simp) (.of_eq (by simp)) (by simp) (by simp))
  unfold acceptFrame
  dsimp only
  refine Kept.trans ?_ (noticed _ _ _)
  cases gap with
  | none => exact resumed _ _ _ _ _ s
  | some g => exact (resumed _ _ _ _ _ s).trans (emit_kept _ _ _ _ _)

theorem checkFrame_kept (f : Frame) (s : State) : Kept s (checkFrame f s) := by
  unfold checkFrame
  refine ite_kept (fun _ => emit_kept _ _ _ _ s) fun _ => ?_
  split
  · exact acceptFrame_kept f _ s
  · exact ite_kept (fun _ => emit_kept _ _ _ _ s) fun _ => ite_kept (fun _ => acceptFrame_kept f _ s)
      fun _ => acceptFrame_kept f _ s

theorem fallSilent_kept (i : Nat) (s : State) : Kept s (fallSilent i s) := by
  have silenced : Kept s (withScanners (s.intake.scanners.set i ⟨none, none, true⟩) s) := .of_blocks (by simp)
  exact (silenced.trans (silenceNotice_kept i _)).trans (emit_kept _ _ _ _ _)

theorem clearFaultRange_kept (first last : Nat) (s : State) : Kept s (clearFaultRange first last s) where
  life := rfl
  curves := rfl
  channels := Table.get_mapIdx_same Channel.cfg (by intro c ch; split <;> rfl) _
  cells _ := rfl
  passes := .of_eq rfl
  views _ := ⟨rfl, rfl⟩
  windows := rfl

/-! ### Lines and spots (R73 to R83) -/

theorem lineBeat_kept (off : Nat) (b : Beat) (s : State) : Kept s (lineBeat off b s) := by
  have stored (i : Nat) (x : Slot 33) (u : State) : Kept u (withLineSlot i x u) :=
    .of_tables rfl ⟨rfl, rfl⟩ rfl (.of_eq rfl) rfl rfl
  have offered (i : Nat) (l : Line) (u : State) : Kept u (offerLine i l u) :=
    ite_kept (fun _ => .of_tables rfl ⟨rfl, rfl⟩ rfl (.of_eq rfl) rfl rfl) fun _ => emit_kept _ _ _ _ u
  refine ite_kept (fun _ => .refl s) fun _ => ite_kept (fun _ => ?_) fun _ => stored _ _ s
  unfold completeLineSlot
  dsimp only
  split
  · exact (stored _ (Slot.empty 33) s).trans (offered _ _ _)
  · exact (stored _ (Slot.empty 33) s).trans (emit_kept _ _ _ _ _)

/-- An accepted line leaves the view's correction and spans (R79). -/
theorem checkLine_kept (l : Line) (s : State) : Kept s (checkLine l s) := by
  refine ite_kept (fun _ => emit_kept _ _ _ _ s) fun _ => ite_kept (fun _ => emit_kept _ _ _ _ s) fun _ =>
    ite_kept (fun _ => emit_kept _ _ _ _ s) fun _ => ?_
  exact ⟨rfl, rfl, fun _ => rfl, fun _ => rfl, .of_eq rfl, fun i =>
    ⟨Table.get_set_same ViewEntry.correction (t := s.view.views) (by rfl) i,
      Table.get_set_same ViewEntry.spans (t := s.view.views) (by rfl) i⟩, rfl⟩

/-! ### Cells and passes (R93 to R114) -/

theorem emptyCells_cfg (p : Nat) (src : Source) (s : State) (i : Nat) :
    ((emptyCells p src s).map.cells.get i).cfg = (s.map.cells.get i).cfg :=
  Table.get_mapIdx_same Cell.cfg (by intro c cell; split <;> rfl) _ i

theorem commitPass_kept (w : Work) (s : State) : Kept s (commitPass w s) := by
  refine .of_map (by simp) (fun i => ?_) (commitPass_follows w s)
  have committed : ((commitCells s w).get i).cfg = (s.map.cells.get i).cfg :=
    Table.get_mapIdx_same Cell.cfg (by intro c cell; split <;> rfl) _ i
  simpa [commitPass] using committed

theorem setModeEffect_kept (p m : Byte) (s : State) : Kept s (setModeEffect p m s) := by
  refine .of_map ⟨by simp, by simp, ?_, by simp⟩ (fun i => ?_) (setModeEffect_follows p m s)
  · unfold setModeEffect
    split <;> simp
  · unfold setModeEffect
    split
    · unfold changeMode
      split_ifs
      · rfl
      · simp [enterOos, emptyCells_cfg]
      · simp [exitOos, emptyCells_cfg]
      · unfold switchMode
        dsimp only
        split <;> split <;> simp
    · rfl

/-! ### The Command Engine (R160 to R166) -/

theorem acceptUrgent_kept (s : State) : Kept s (acceptUrgent s) :=
  .of_freezes (by simp) (.of_thawed (acceptUrgent_thawed s))

theorem acceptAtOnce_kept (s : State) : Kept s (acceptAtOnce s) :=
  .of_freezes (by simp) (.of_thawed (acceptAtOnce_thawed s))

theorem cmdWriteEnded_kept (s : State) : Kept s (cmdWriteEnded s) :=
  .of_freezes (by simp) (.of_thawed (cmdWriteEnded_thawed s))

theorem urgentWrite_kept (reg : Option Urgent) (s : State) : Kept s (urgentWrite reg s) :=
  .of_freezes (by simp) (.of_thawed (urgentWrite_thawed reg s))

theorem urgentRefused_kept (v : W32) (s : State) : Kept s (urgentRefused v s) :=
  .of_freezes (by simp) (.of_thawed (urgentRefused_thawed v s))

theorem urgentValue_kept (v : W32) (s : State) : Kept s (urgentValue v s) := by
  unfold urgentValue
  exact ite_kept (fun _ => urgentWrite_kept _ s) fun _ => ite_kept (fun _ => urgentWrite_kept _ s) fun _ =>
    ite_kept (fun _ => urgentWrite_kept _ s) fun _ => ite_kept (fun _ => urgentWrite_kept _ s) fun _ => urgentRefused_kept v s

theorem finishEntry_kept (s : State) : Kept s (finishEntry s) :=
  .of_freezes (by simp) (.of_thawed (finishEntry_thawed s))

theorem complete_kept {mine : ReqKind → Bool} {act : BridgeReq → State → State} (hact : ∀ r u, Kept u (act r u))
    (s : State) : Kept s (complete mine act s) :=
  complete_keeps (P := Kept s) (.refl s) (freePort_kept s) fun r _ _ => (freePort_kept s).trans (hact r _)

/-! ### Rows -/

/-- Whatever next state the outcome is, it leaves the Life Controller and the configured values. -/
def KeepsAll (s : State) (o : Host.Outcome State Fault Refusal) : Prop := ∀ t, o = .next t → Kept s t

theorem KeepsAll.next (h : Kept s t) : KeepsAll s (.next t) := fun _ e => by cases e; exact h

theorem KeepsAll.fault (f : Fault) : KeepsAll s (.fault f) := fun _ e => by cases e

theorem KeepsAll.ite {b : Prop} [Decidable b] {o p : Host.Outcome State Fault Refusal} (ho : b → KeepsAll s o)
    (hp : ¬b → KeepsAll s p) : KeepsAll s (if b then o else p) := by
  split_ifs with hb
  · exact ho hb
  · exact hp hb

/-- A row that is due acts, and otherwise leaves the state. -/
theorem KeepsAll.due {b : Prop} [Decidable b] (h : b → Kept s t) : KeepsAll s (if b then .next t else .next s) :=
  .ite (fun hb => .next (h hb)) fun _ => .next (.refl s)

theorem whileRings_keepsAll {act : State → State} (h : ∀ u, Kept u (act u)) (s : State) :
    KeepsAll s (whileRings act s) := by
  unfold whileRings
  split
  · exact .next (h s)
  · exact .next (.refl s)

/-- An entry leaves the configured values where its effect does. -/
theorem executeEntry_kept {op : Nat} {inHalt : Bool} {check : State → Option Reason} {act : State → State}
    (h : check s = none → Kept s (act s)) : Kept s (executeEntry op inHalt check act s) := by
  obtain ⟨r, e⟩ | ⟨-, hc, e⟩ := executeEntry_cases op inHalt check act s
  · rw [e]; exact emit_kept _ _ _ _ s
  · rw [e]; exact h hc

/-- A ring command leaves the configured values where its entry does (R161). -/
theorem ringEntry_keepsAll {entry : State → State} (h : Kept (freePort s) (entry (freePort s))) :
    KeepsAll s (ringEntry entry s) :=
  .next (complete_keeps (P := Kept s) (.refl s) (freePort_kept s) fun _ _ _ =>
    ((freePort_kept s).trans h).trans (finishEntry_kept _))

/-- The rows that touch neither the Life Controller nor a configured value: all but power, RESET#, the clears, the clock,
the start and end of loads, the grant that may hand a start value over, and the commands LOCK, RELOAD, SET OFFSET and
CALIBRATE VIEW. -/
def Quiet : Instr → Bool
  | .powerOn _ | .resetAssert | .resetRelease | .clearEnd _ _ | .heaterClockTick => false
  | .memoryPortGrant | .loadStartValue | .loadStopValue | .configFetchComplete _ => false
  | .lock | .reload | .setOffset _ _ | .calibrateView _ => false
  | _ => true

theorem serveMapRead_kept (a : HostAccess) (s : State) : Kept s (serveMapRead a s) := by
  have beat (off : Nat) (u : State) : Kept u (readBeat off u).2 := by
    obtain h | ⟨r, h⟩ := readBeat_state off u <;> rw [h]
    · exact .refl u
    · exact .of_blocks (by simp)
  have beats (offs : List Nat) (u : State) : Kept u (readBeats offs u).2 := by
    induction offs generalizing u with
    | nil => exact .refl u
    | cons off rest ih => exact (beat off u).trans (ih _)
  exact (beats _ s).trans (.of_blocks ⟨rfl, rfl, rfl, rfl, rfl⟩)

theorem serveMapWrite_kept (a : HostAccess) (s : State) : Kept s (serveMapWrite a s) := .of_blocks (by simp [serveMapWrite])

/-- A quiet row leaves the Life Controller and the configured values. -/
theorem exec_quiet {c : Instr} (hc : Quiet c = true) (s : State) : KeepsAll s (exec c s) := by
  cases c
  case commitAgeAdvance p =>
    simp only [exec, execCommitAgeAdvance]
    split
    · exact .due fun _ => .of_freezes (by simp) (setPass_follows ⟨rfl, .inr ⟨_, satAdd_le _ _ _, rfl⟩⟩)
    · exact .next (.refl s)
  case hostAccess a =>
    refine .ite (fun _ => .next (.refl s)) fun _ => .next (ite_kept (fun _ => ite_kept (fun _ => serveMapWrite_kept a s)
      fun _ => serveMapRead_kept a s) fun _ => .of_blocks ⟨rfl, rfl, rfl, rfl, rfl⟩)
  case hostAccessComplete resp => exact .next (.of_blocks (by simp))
  case mapRead d => exact .due fun _ => serveMapRead_kept _ s
  case mapWrite d => exact .due fun _ => serveMapWrite_kept _ s
  case latchHoldExpiry =>
    simp only [exec, execLatchHoldExpiry]
    split <;> exact .next (.of_blocks ⟨rfl, rfl, rfl, rfl, rfl⟩)
  case mapWriteHoldoffExpiry => exact .due fun _ => .of_blocks ⟨rfl, rfl, rfl, rfl, rfl⟩
  case resultWordWriteComplete error => cases error <;> exact .next (complete_kept (fun _ u => .refl u) s)
  case frameSlotWrite off b =>
    simp only [exec, execFrameSlotWrite]
    split
    · exact .next (frameBeat_kept _ b s)
    · exact .next (.refl s)
  case frameTake =>
    simp only [exec, execFrameTake]
    split
    · exact .next ((Kept.of_blocks (by simp)).trans (checkFrame_kept _ _))
    · exact .next (.refl s)
  case frameConversionComplete =>
    simp only [exec, execFrameConversionComplete]
    split
    · exact .next (convertFrame_kept _ s)
    · exact .next (.refl s)
  case freshnessTimerExpiry i => exact .due fun _ => fallSilent_kept _ s
  case lineSlotWrite off b =>
    simp only [exec, execLineSlotWrite]
    split
    · exact .next (lineBeat_kept _ b s)
    · exact .next (.refl s)
  case lineTake =>
    simp only [exec, execLineTake]
    split
    next l rest _ _ _ =>
      have taken : Kept s { s with view := { s.view with queue := rest } } :=
        .of_tables rfl ⟨rfl, rfl⟩ rfl (.of_eq rfl) rfl rfl
      exact .next (taken.trans (checkLine_kept l _))
    · exact .next (.refl s)
  case lineCompletion =>
    simp only [exec, execLineCompletion]
    split
    · exact .next (.of_tables (by simp) (by simp) (by simp) (.of_eq (by simp)) (by simp) (by simp))
    · exact .next (.refl s)
  case spotRetirement cell =>
    simp only [exec, execSpotRetirement]
    split
    · exact .due fun _ => .of_tables rfl ⟨rfl, rfl⟩ rfl (.of_eq rfl) rfl rfl
    · exact .next (.refl s)
  case refreshTimerExpiry p =>
    have restarted : Kept s (setPass p.val { passAt s p.val with
        timer := some (refreshTimer s (passAt s p.val).cfg) } s) :=
      .of_freezes (by simp) (setPass_follows ⟨rfl, .inl rfl⟩)
    exact .due fun _ => restarted.trans (.of_freezes (by simp) (.of_eq (by simp)))
  case recomputeStart =>
    simp only [exec, execRecomputeStart]
    split
    · exact .next (.of_freezes (by simp) (.of_eq (by simp)))
    · exact .next (.refl s)
  case recomputeCompletion =>
    have dropped : Kept s (withWork none s) := .of_freezes (by simp) (.of_eq (by simp))
    simp only [exec, execRecomputeCompletion]
    split
    · exact .next (ite_kept (fun _ => dropped) fun _ => dropped.trans (commitPass_kept _ _))
    · exact .next (.refl s)
  case lastDirectTimeRetirement cell =>
    simp only [exec, execLastDirectTimeRetirement]
    split
    · exact .due fun _ => .of_map ⟨rfl, rfl, rfl, rfl⟩ (Table.get_set_same Cell.cfg (by rfl)) (.of_eq rfl)
    · exact .next (.refl s)
  case rateReferenceRetirement cell =>
    simp only [exec, execRateReferenceRetirement]
    split
    · exact .due fun _ => .of_blocks (by simp)
    · exact .next (.refl s)
  case tailWordWrite v => exact whileRings_keepsAll (fun u => .of_blocks (by simp)) s
  case ringFetchError =>
    exact .next (complete_kept (fun _ u => .of_freezes (by simp) (.of_thawed (ringFetchFailed_thawed u))) s)
  case unknownOpcode op =>
    exact .ite (fun _ => .fault _) fun _ => ringEntry_keepsAll (emit_kept _ _ _ _ _)
  case headWordWriteComplete error | urgentClearWriteComplete error =>
    cases error <;> exact .next (complete_kept (fun _ => cmdWriteEnded_kept) s)
  case nop => exact ringEntry_keepsAll (executeEntry_kept fun _ => .refl _)
  case freeze m =>
    exact ringEntry_keepsAll (executeEntry_kept fun _ =>
      .of_freezes (by simp only [freezePasses_frame, and_self]) (.of_thawed (freezePasses_thawed _ _)))
  case thaw m =>
    exact ringEntry_keepsAll (executeEntry_kept fun _ =>
      .of_freezes (by simp only [thawPasses_frame, and_self]) (.of_thawed (thawPasses_thawed _ _)))
  case setMode p m => exact ringEntry_keepsAll (executeEntry_kept fun _ => setModeEffect_kept p m _)
  case forceRefresh m =>
    exact ringEntry_keepsAll (executeEntry_kept fun _ => .of_freezes (by simp) (.of_eq (by simp)))
  case clearFaults first last => exact ringEntry_keepsAll (executeEntry_kept fun _ => clearFaultRange_kept _ _ _)
  case ack cell => exact ringEntry_keepsAll (executeEntry_kept fun _ => .of_blocks (by simp))
  case ackPass p => exact ringEntry_keepsAll (executeEntry_kept fun _ => .of_blocks (by simp))
  case resetExposure cell => exact ringEntry_keepsAll (executeEntry_kept fun _ => .of_blocks (by simp))
  case exportStart mask flag list => exact ringEntry_keepsAll (executeEntry_kept fun _ => .of_blocks (by simp))
  case urgentCancel | freezeAll | thawAll | abortExport => exact whileRings_keepsAll (urgentWrite_kept _) s
  case urgentUnknown v => exact .ite (fun _ => .fault _) fun _ => whileRings_keepsAll (urgentRefused_kept v) s
  case urgentAcceptance => exact .ite (fun _ => .next (.refl s)) fun _ => .next (acceptAtOnce_kept s)
  case eventWriterAction =>
    simp only [exec, execEventWriterAction]
    refine .ite (fun _ => .next (.refl s)) fun _ => ?_
    split
    · exact .next (.refl s)
    · refine .ite (fun _ => ?_) fun _ => .ite (fun _ => .next (.of_blocks (by simp))) fun _ => ?_
      · split
        · exact .next (.refl s)
        · exact .next (.of_blocks (by simp))
      · split
        · exact .next (.refl s)
        · exact .next (.of_blocks (by simp))
  case eventRecordWriteComplete error => exact .next (complete_kept (fun _ _ => .of_blocks (by simp)) s)
  case producerWordWriteComplete error => exact .next (complete_kept (fun _ _ => .of_blocks (by simp)) s)
  case consumerWordWrite v =>
    simp only [exec, execConsumerWordWrite]
    split
    · exact .next (.of_blocks (by simp))
    · exact .next (.refl s)
  case coalesceTimerExpiry => exact .due fun _ => .of_blocks (by simp)
  case listFetchComplete reply => exact .next (complete_kept (fun _ _ => .of_blocks (by simp)) s)
  case streamWriteComplete error => exact .next (complete_kept (fun _ _ => .of_blocks (by simp)) s)
  all_goals exact absurd hc (by simp [Quiet])

/-! ### The lock (O22) -/

/-- In RUN, or in HALT under the lock, a start or stop value does nothing (R16). -/
theorem startValue_locked (hp : s.life.phase = .run ∨ s.life.phase = .halt) (hk : s.life.lock = true) (v : W32) :
    startValue v s = s := by
  rcases hp with hp | hp <;> simp [startValue, loadStart, loadStop, hp, hk]

/-- Under the lock no hand-over touches the configured values (R16, R25). -/
theorem handOver_locked (hp : s.life.phase = .run ∨ s.life.phase = .halt) (hk : s.life.lock = true)
    (x : Watch × Beat) : Kept s (handOver x s) := by
  obtain ⟨w, b⟩ := x
  cases w <;> simp only [handOver]
  case tail => exact ite_kept (fun _ => .of_blocks (by simp)) fun _ => .refl s
  case urgent => exact ite_kept (fun _ => urgentValue_kept _ s) fun _ => .refl s
  case consumer => exact ite_kept (fun _ => .of_blocks (by simp)) fun _ => .refl s
  case start => rw [startValue_locked hp hk, ite_self]; exact .refl s
  case frame off => exact frameBeat_kept _ b s
  case line off => exact lineBeat_kept _ b s
  case none => exact .refl s

theorem handOverAll_locked (hp : s.life.phase = .run ∨ s.life.phase = .halt) (hk : s.life.lock = true)
    (a : HostAccess) : Kept s (handOverAll a s) := by
  refine ite_kept (fun _ => ?_) fun _ => .refl s
  exact foldl_keeps (Q := Kept s)
    (fun u x h => h.trans (handOver_locked (by rwa [h.life]) (by rwa [h.life]) x)) _ (.refl s)

theorem execMemoryPortGrant_locked (hp : s.life.phase = .run ∨ s.life.phase = .halt) (hk : s.life.lock = true) :
    KeepsAll s (execMemoryPortGrant s) := by
  unfold execMemoryPortGrant
  split
  · exact .next (.refl s)
  · split
    next a _ =>
      have granted : Kept s (hostGranted a s) := .of_blocks ⟨rfl, rfl, rfl, rfl, rfl⟩
      rw [grantHost_eq]
      exact .next (granted.trans (handOverAll_locked (s := hostGranted a s) hp hk a))
    next who _ => exact .next (.of_blocks (by simp))
    next => exact .next (.refl s)

/-- A ring command whose checks fail under the lock leaves the configured values (R25, R68, R86). -/
theorem lockedEntry_keepsAll {op : Nat} {inHalt : Bool} {check : State → Option Reason} {act : State → State}
    (h : check (freePort s) ≠ none) : KeepsAll s (ringEntry (executeEntry op inHalt check act) s) :=
  ringEntry_keepsAll (executeEntry_kept fun hc => absurd hc h)

/-- LOCK sets the lock and touches nothing else that is configured (R25). -/
theorem execLock_locked (hk : s.life.lock = true) (h : execLock s = .next t) :
    ∃ x : Life, x.lock = true ∧ Kept (withLife x s) t := by
  have whole : Kept (withLife s.life s) s := .refl s
  have noted : Kept (withLife (freePort s).life s) (freePort s) := freePort_kept s
  cases h
  refine complete_keeps (P := fun u => ∃ x : Life, x.lock = true ∧ Kept (withLife x s) u) ⟨_, hk, whole⟩ ⟨_, hk, noted⟩
    fun r _ _ => ?_
  obtain ⟨r, e⟩ | ⟨-, -, e⟩ := executeEntry_cases 0x0D true noCheck setLock (freePort s)
  · rw [e]
    exact ⟨_, hk, (noted.trans (emit_kept _ _ _ _ _)).trans (finishEntry_kept _)⟩
  · rw [e]
    refine ⟨{ s.life with lock := true }, rfl, Kept.trans ?_ (finishEntry_kept _)⟩
    exact .of_blocks ⟨rfl, rfl, rfl, rfl, rfl⟩

/-- Under the lock every row but power-on and RESET# leaves the configured values, and the lock set (R25). -/
theorem exec_locked {c : Instr} (hs : s.Phased) (hl : s.Locked) (hk : s.life.lock = true)
    (hpower : ∀ held, c ≠ .powerOn held) (hreset : c ≠ .resetAssert) (h : exec c s = .next t) :
    ∃ x : Life, x.lock = true ∧ Kept (withLife x s) t := by
  have hp := hl hk
  have still (h : KeepsAll s (exec c s)) : ∃ x : Life, x.lock = true ∧ Kept (withLife x s) t := ⟨s.life, hk, h t ‹_›⟩
  have live {x : Life} (hx : x.lock = true) : ∃ y : Life, y.lock = true ∧ Kept (withLife y s) (withLife x s) :=
    ⟨x, hx, .refl _⟩
  cases hq : Quiet c
  case true => exact still (exec_quiet hq s)
  case false =>
    have noLoad : s.life.load = none := hs.no_load (by rcases hp with hp | hp <;> simp [hp])
    cases c
    case powerOn held => exact absurd rfl (hpower held)
    case resetAssert => exact absurd rfl hreset
    case resetRelease =>
      simp only [exec, execResetRelease] at h
      split at h <;> cases h
      · exact live hk
      · exact live (x := s.life) hk
    case clearEnd root autoload =>
      refine still (.ite (fun hc => ?_) fun _ => .next (.refl s))
      rcases hp with hp | hp <;> simp [clearRuns, hp] at hc
    case heaterClockTick =>
      simp only [exec, execHeaterClockTick] at h
      split_ifs at h <;> cases h
      · exact live (x := s.life) hk
      · exact live hk
    case memoryPortGrant => exact still (execMemoryPortGrant_locked hp hk)
    case loadStartValue =>
      refine still (.due fun _ => ?_)
      rw [← show startValue 1 s = loadStart s from rfl, startValue_locked hp hk]
      exact .refl s
    case loadStopValue =>
      refine still (.due fun _ => ?_)
      rw [← show startValue 2 s = loadStop s from rfl, startValue_locked hp hk]
      exact .refl s
    case configFetchComplete reply =>
      refine still (.next (complete_keeps (P := Kept s) (.refl s) (freePort_kept s) fun _ _ _ => ?_))
      simpa [configFetched, noLoad] using freePort_kept s
    case lock => exact execLock_locked hk h
    case reload => exact still (lockedEntry_keepsAll (by simp [reloadCheck, hk]))
    case setOffset ch v => exact still (lockedEntry_keepsAll (by simp [offsetCheck, hk]))
    case calibrateView v => exact still (lockedEntry_keepsAll (by simp [calibrateCheck, hk]))
    all_goals exact absurd hq (by simp [Quiet])

/-- Settles O22: what a row may do to the Life Controller under the lock leaves the lock set, and the configured values
are kept. -/
theorem lockedConfigurationIsKept : Obligations.LockedConfigurationIsKept := by
  intro c s t hs hl hk hpower hreset h
  obtain ⟨x, hx, kept⟩ := exec_locked hs hl hk hpower hreset h
  exact ⟨by rw [kept.life]; exact hx, kept.curves, fun i _ => kept.channels i, fun i _ => kept.cells i,
    fun i _ => (kept.passes i).1, fun i _ => kept.views i, kept.windows⟩

/-! ### The heater clock (O5) -/

/-- What every record of a completed configuration fetch keeps holds at whichever end the fetch comes to (R17, R23). -/
theorem configFetched_keeps {I P : State → Prop} (hI : ∀ ws j j' u u', I u → RecordTaken ws j u j' u' → I u')
    (hnone : s.life.load = none → P s) (goesOn : ∀ j u, I u → P (continueLoad j u))
    (ends : ∀ r u, I u → P (endLoad r u)) (h : I s) (reply : FetchReply) : P (configFetched reply s) := by
  unfold configFetched
  split
  next hl => exact hnone hl
  next j hl =>
    split
    · exact ends _ s h
    · exact takeRecords_induct (I := fun _ => I) (fun _ _ _ _ _ _ _ hi ht _ => hI _ _ _ _ _ hi ht) goesOn
        (fun _ _ u r hi _ => ends r u hi) (fun _ _ _ _ u u' hi ht _ => ends .ok u' (hI _ _ _ _ _ hi ht)) _ h

theorem endLoad_clock (r : LoadResult) (s : State) : (endLoad r s).life.clock = s.life.clock :=
  endLoad_keeps (P := fun u => u.life.clock = s.life.clock) rfl (fun _ _ => by simp) (fun _ _ => by simp)
    fun _ _ => by simp

theorem configFetched_clock (reply : FetchReply) (s : State) : (configFetched reply s).life.clock = s.life.clock := by
  refine configFetched_keeps (I := fun u => u.life.clock = s.life.clock) (P := fun u => u.life.clock = s.life.clock)
    (fun _ _ _ u u' hu ht => ?_) (fun _ => rfl) (fun _ _ hu => by simpa using hu)
    (fun r u hu => (endLoad_clock r u).trans hu) rfl reply
  obtain ⟨-, c, -, -, hl⟩ | ⟨-, hl⟩ := ht.life <;> rw [hl, ← hu]

theorem startValue_clock (v : W32) (s : State) : (startValue v s).life.clock = s.life.clock := by
  have started : (loadStart s).life.clock = s.life.clock := by
    unfold loadStart
    split
    · simp
    · split <;> simp
    all_goals rfl
  have stopped : (loadStop s).life.clock = s.life.clock := by
    unfold loadStop
    split
    · rw [endLoad_clock, (dropConfigFetch_frame s).1]
    all_goals rfl
  unfold startValue
  split_ifs
  · exact started
  · exact stopped
  · rfl

theorem handOver_clock (x : Watch × Beat) (s : State) : (handOver x s).life.clock = s.life.clock := by
  obtain ⟨w, b⟩ := x
  cases w <;> simp only [handOver]
  case start => split_ifs; exacts [startValue_clock _ s, rfl]
  case frame | line => simp
  all_goals split_ifs <;> simp

theorem handOverAll_clock (a : HostAccess) (s : State) : (handOverAll a s).life.clock = s.life.clock := by
  unfold handOverAll
  split_ifs
  · exact foldl_same (fun u : State => u.life.clock) (fun u x => handOver_clock x u) _ _
  · rfl

theorem execMemoryPortGrant_clock (h : execMemoryPortGrant s = .next t) : t.life.clock = s.life.clock := by
  unfold execMemoryPortGrant at h
  split at h
  · cases h; rfl
  · split at h <;> cases h
    · rw [grantHost_eq, handOverAll_clock]
      rfl
    · simp
    · rfl

/-- The four ring commands that may touch the Life Controller or a configured value leave the clock (R26). -/
theorem ringEntry_clock {entry : State → State} (hentry : ∀ u, (entry u).life.clock = u.life.clock)
    (h : ringEntry entry s = .next t) : t.life.clock = s.life.clock := by
  cases h
  exact complete_keeps (P := fun u => u.life.clock = s.life.clock) rfl rfl fun _ _ _ => by simp [hentry]

theorem executeEntry_clock {op : Nat} {inHalt : Bool} {check : State → Option Reason} {act : State → State}
    (hact : ∀ u, (act u).life.clock = u.life.clock) (u : State) :
    (executeEntry op inHalt check act u).life.clock = u.life.clock := by
  obtain ⟨r, e⟩ | ⟨-, -, e⟩ := executeEntry_cases op inHalt check act u <;> simp [e, hact]

/-- No row but power-on, RESET# and the tick moves the heater clock (R26). -/
theorem exec_clock {c : Instr} (hpower : ∀ held, c ≠ .powerOn held) (hreset : c ≠ .resetAssert)
    (htick : c ≠ .heaterClockTick) (h : exec c s = .next t) : t.life.clock = s.life.clock := by
  cases hq : Quiet c
  case true => rw [(exec_quiet hq s t h).life]
  case false =>
    cases c
    case powerOn held => exact absurd rfl (hpower held)
    case resetAssert => exact absurd rfl hreset
    case heaterClockTick => exact absurd rfl htick
    case resetRelease =>
      simp only [exec, execResetRelease] at h
      split_ifs at h <;> cases h <;> rfl
    case clearEnd root autoload =>
      simp only [exec, execClearEnd, sampleStraps] at h
      split_ifs at h <;> cases h
      · simp
      · rfl
      · rfl
    case memoryPortGrant => exact execMemoryPortGrant_clock h
    case loadStartValue =>
      simp only [exec, execLoadStartValue] at h
      split_ifs at h <;> cases h
      · exact startValue_clock 1 s
      · rfl
    case loadStopValue =>
      simp only [exec, execLoadStopValue] at h
      split_ifs at h <;> cases h
      · exact startValue_clock 2 s
      · rfl
    case configFetchComplete reply =>
      cases h
      exact complete_keeps (P := fun u => u.life.clock = s.life.clock) rfl rfl fun _ _ _ => configFetched_clock reply _
    case lock => exact ringEntry_clock (executeEntry_clock fun u => by simp) h
    case reload => exact ringEntry_clock (executeEntry_clock fun u => by simp) h
    case setOffset ch v => exact ringEntry_clock (executeEntry_clock fun u => by simp) h
    case calibrateView v => exact ringEntry_clock (executeEntry_clock fun u => by simp) h
    all_goals exact absurd hq (by simp [Quiet])

/-- Settles O5. -/
theorem clearEndAndTheHeaterClock : Obligations.ClearEndAndTheHeaterClock := by
  refine ⟨fun root s hp hr hl => ?_, fun s => ⟨fun hp => ?_, fun hp => ?_⟩, fun c s t hpower hreset htick h =>
    exec_clock hpower hreset htick h⟩
  · have runs : clearRuns s = true := by simp [clearRuns, hp, hr, hl]
    simp only [exec, execClearEnd, if_pos runs]
    exact ⟨rfl, rfl⟩
  · simp only [exec, execHeaterClockTick, if_neg hp]
    rfl
  · simp only [exec, execHeaterClockTick, if_pos hp]

end

end Sys2Proof.Machine
end

section
/-! What the Command Engine does outside RUN, and what a reload that fails leaves in each block (for O15, O16, O21, O56). -/

namespace Sys2Proof.Machine

section
variable {s t u : State}

/-! ### The Command Engine outside RUN (R116, R165) -/

/-- Nothing is touched but the Command Engine and its requests. -/
def EngineOnly (s t : State) : Prop := ∃ c l, t = { s with cmd := c, path := { s.path with cmdOut := l } }

theorem EngineOnly.refl (s : State) : EngineOnly s s := ⟨s.cmd, s.path.cmdOut, rfl⟩

theorem EngineOnly.trans (h : EngineOnly s t) (h' : EngineOnly t u) : EngineOnly s u := by
  obtain ⟨c, l, rfl⟩ := h
  obtain ⟨c', l', rfl⟩ := h'
  exact ⟨c', l', rfl⟩

theorem withCmd_engineOnly (c : Cmd) (s : State) : EngineOnly s (withCmd c s) := ⟨c, s.path.cmdOut, rfl⟩

theorem post_engineOnly {r : BridgeReq} (hr : r.kind.owner = .commandEngine) (s : State) : EngineOnly s (post r s) :=
  ⟨s.cmd, s.path.cmdOut ++ [r], by simp [post, setRequests, requests, hr]⟩

theorem ite_engineOnly {b : Prop} [Decidable b] (ht : b → EngineOnly s t) (hu : ¬b → EngineOnly s u) :
    EngineOnly s (if b then t else u) := by
  split_ifs with hb
  · exact ht hb
  · exact hu hb

theorem fetchIfDue_engineOnly (s : State) : EngineOnly s (fetchIfDue s) :=
  ite_engineOnly (fun _ => (withCmd_engineOnly _ s).trans (post_engineOnly rfl _)) fun _ => .refl s

theorem leaveBusy_engineOnly (s : State) : EngineOnly s (leaveBusy s) :=
  ite_engineOnly (fun _ => withCmd_engineOnly _ s) fun _ => .refl s

theorem withdrawClear_engineOnly (s : State) : EngineOnly s (withdrawClear s) := ⟨s.cmd, _, rfl⟩

theorem cmdWake_engineOnly (s : State) : EngineOnly s (cmdWake s) := by
  unfold cmdWake
  split
  · exact .refl s
  · exact .refl s
  all_goals exact withCmd_engineOnly _ s

/-- Outside RUN an accepted code has no effect (R116, R165). -/
theorem carryOutUrgent_idle (hp : s.life.phase ≠ .run) (c : Urgent) : carryOutUrgent c s = s := by
  unfold carryOutUrgent
  split
  · contradiction
  all_goals rfl

theorem acceptUrgent_engineOnly (hp : s.life.phase ≠ .run) : EngineOnly s (acceptUrgent s) := by
  refine ite_engineOnly (fun _ => .refl s) fun _ => ?_
  split
  · exact .refl s
  · rw [carryOutUrgent_idle (by exact hp)]
    exact (withCmd_engineOnly _ s).trans (post_engineOnly rfl _)

theorem acceptAtOnce_engineOnly (hp : s.life.phase ≠ .run) : EngineOnly s (acceptAtOnce s) :=
  ite_engineOnly (fun _ => acceptUrgent_engineOnly hp) fun _ => .refl s

theorem cmdWriteEnded_engineOnly (hp : s.life.phase ≠ .run) : EngineOnly s (cmdWriteEnded s) := by
  obtain ⟨-, h⟩ | ⟨-, -, h⟩ | ⟨-, h⟩ := cmdWriteEnded_cases s <;> rw [h]
  · exact .refl s
  · exact acceptUrgent_engineOnly hp
  · exact (leaveBusy_engineOnly s).trans (fetchIfDue_engineOnly _)

theorem urgentWrite_engineOnly (hp : s.life.phase ≠ .run) (reg : Option Urgent) : EngineOnly s (urgentWrite reg s) := by
  have written : EngineOnly s (withdrawClear (withCmd { s.cmd with note := true, urgent := reg } s)) :=
    (withCmd_engineOnly _ s).trans (withdrawClear_engineOnly _)
  refine ite_engineOnly (fun _ => written.trans (cmdWriteEnded_engineOnly (by simpa using hp))) fun _ => ?_
  exact (written.trans (acceptAtOnce_engineOnly (by simpa using hp))).trans (fetchIfDue_engineOnly _)

/-- A refused urgent write touches the Event Writer besides (R164). -/
theorem urgentRefused_engineOnly (hp : s.life.phase ≠ .run) (v : W32) :
    EngineOnly (emit .commandRefused absent16 v (encNat Reason.unknown.code) s) (urgentRefused v s) :=
  ((withCmd_engineOnly _ _).trans (withdrawClear_engineOnly _)).trans (cmdWriteEnded_engineOnly (by simpa using hp))

/-- A failed ring fetch touches the Event Writer besides (R162). -/
theorem ringFetchFailed_engineOnly (hp : s.life.phase ≠ .run) :
    EngineOnly (emit .commandFetchError (subj s.cmd.head) 0 0 s) (ringFetchFailed s) :=
  ite_engineOnly (fun _ => withCmd_engineOnly _ _) fun _ =>
    (withCmd_engineOnly _ _).trans (acceptAtOnce_engineOnly (by simpa using hp))

theorem finishEntry_engineOnly (hp : s.life.phase ≠ .run) : EngineOnly s (finishEntry s) :=
  ((withCmd_engineOnly _ s).trans (post_engineOnly rfl _)).trans (acceptUrgent_engineOnly (by simpa using hp))

theorem cmdResume_engineOnly (hp : s.life.phase ≠ .run) : EngineOnly s (cmdResume s) := by
  refine EngineOnly.trans ?_ (fetchIfDue_engineOnly _)
  exact ite_engineOnly (fun _ => cmdWake_engineOnly s) fun _ =>
    (cmdWake_engineOnly s).trans (acceptAtOnce_engineOnly (by simpa using hp))

/-! ### The ends of a load that fails (R23, R120, R146, R153) -/

/-- The state of a failed reload before the Command Engine resumes. -/
def reloadFailed (r : LoadResult) (s : State) : State :=
  evalEvt (leaderEvent s.hot (loadEndEvent r .halt (rebuildList (alarmLoadFail (mapLoadFail s)))))

theorem failReload_eq (r : LoadResult) (s : State) : failReload r s = cmdResume (reloadFailed r s) := rfl

@[simp] theorem reloadFailed_frame (r : LoadResult) (s : State) :
    (reloadFailed r s).life = s.life ∧ (reloadFailed r s).path = s.path ∧ (reloadFailed r s).intake = s.intake ∧
      (reloadFailed r s).conv = s.conv ∧ (reloadFailed r s).view = s.view ∧ (reloadFailed r s).exp = s.exp ∧
      (reloadFailed r s).cmd = s.cmd ∧ (reloadFailed r s).pending = s.pending ∧
      (reloadFailed r s).map = (mapLoadFail s).map ∧
      (reloadFailed r s).alarm = (alarmLoadFail (mapLoadFail s)).alarm ∧
      (reloadFailed r s).hot = hotOf (alarmLoadFail (mapLoadFail s)) := by
  simp [reloadFailed]

/-- After a failed reload everything but the Command Engine and its requests is as the failed load has left it. -/
theorem failReload_engineOnly (hp : s.life.phase ≠ .run) (r : LoadResult) :
    EngineOnly (reloadFailed r s) (failReload r s) :=
  cmdResume_engineOnly (by simpa using hp)

/-- A failed first load clears the tables and touches nothing else but the hot list and the Event Writer (R88, R117). -/
@[simp] theorem failFirstLoad_frame (r : LoadResult) (s : State) :
    (failFirstLoad r s).intake = s.intake ∧ (failFirstLoad r s).alarm = s.alarm ∧ (failFirstLoad r s).exp = s.exp ∧
      (failFirstLoad r s).cmd = s.cmd ∧ (failFirstLoad r s).conv = Conv.cleared ∧
      (failFirstLoad r s).view = View.cleared ∧ (failFirstLoad r s).map = MapEngine.cleared := by
  simp [failFirstLoad]

end

end Sys2Proof.Machine
end

section
/-! Outside RUN the blocks stand paused (O56). -/

namespace Sys2Proof.Machine

section
variable {s t u : State}

/-! ### What Paused reads -/

/-- In RUN nothing is asked. -/
theorem paused_of_run (hp : t.life.phase = .run) : t.Paused := by
  constructor <;> exact fun h => absurd hp h

/-- A state whose blocks stand paused. -/
theorem paused_of_empty (h : t.intake.queue = [] ∧ t.intake.takeOk = false ∧ t.conv.inHand = none ∧ t.view.queue = [] ∧
    t.view.inHand = none ∧ t.map.queue = [] ∧ t.map.work = none ∧ t.exp.job = none)
    (ht : ∀ p < 8, (t.map.passes.get p).timer = none) : t.Paused := by
  obtain ⟨h1, h2, h3, h4, h5, h6, h7, h8⟩ := h
  exact ⟨fun _ => h1, fun _ => h2, fun _ => h3, fun _ => h4, fun _ => h5, fun _ => h6, fun _ => h7, fun _ => ht,
    fun _ => h8⟩

/-- Outside RUN, what leaves the blocks' queues, hands and timers leaves them paused. -/
theorem State.Paused.congr (h : s.Paused) (hp : s.life.phase ≠ .run)
    (he : t.intake.queue = s.intake.queue ∧ t.intake.takeOk = s.intake.takeOk ∧ t.conv.inHand = s.conv.inHand ∧
      t.view.queue = s.view.queue ∧ t.view.inHand = s.view.inHand ∧ t.map.queue = s.map.queue ∧
      t.map.work = s.map.work ∧ t.exp.job = s.exp.job)
    (ht : ∀ p < 8, (t.map.passes.get p).timer = (s.map.passes.get p).timer) : t.Paused := by
  obtain ⟨h1, h2, h3, h4, h5, h6, h7, h8⟩ := he
  exact paused_of_empty ⟨h1.trans (h.frames hp), h2.trans (h.takeOk hp), h3.trans (h.frame hp), h4.trans (h.lines hp),
    h5.trans (h.line hp), h6.trans (h.refresh hp), h7.trans (h.recompute hp), h8.trans (h.exporting hp)⟩
    fun p hl => (ht p hl).trans (h.timers hp p hl)

/-- Outside RUN, what leaves the six blocks leaves them paused. -/
theorem State.Paused.blocks (h : s.Paused) (hp : s.life.phase ≠ .run)
    (he : t.intake = s.intake ∧ t.conv = s.conv ∧ t.view = s.view ∧ t.map = s.map ∧ t.exp = s.exp) : t.Paused := by
  obtain ⟨h1, h2, h3, h4, h5⟩ := he
  exact h.congr hp (by rw [h1, h2, h3, h4, h5]; exact ⟨rfl, rfl, rfl, rfl, rfl, rfl, rfl, rfl⟩) fun p _ => by rw [h4]

theorem State.Paused.engineOnly (h : s.Paused) (hp : s.life.phase ≠ .run) (he : EngineOnly s t) : t.Paused := by
  obtain ⟨c, l, rfl⟩ := he
  exact h.blocks hp ⟨rfl, rfl, rfl, rfl, rfl⟩

/-! ### Loads -/

/-- A reload accepted pauses every block (R45, R71, R89, R119, R177). -/
theorem beginReload_paused (s : State) : (beginReload s).Paused := by
  have ended (v : State) : (abortExportJob v).exp.job = none := by
    unfold abortExportJob endExport
    split
    · assumption
    · simp
  refine paused_of_empty ?_ fun p hp => ?_
  · simp [beginReload, ended, mapPause, viewPause, convPause, intakePause]
  · simp [beginReload, mapPause, Table.get_mapIdx _ _ hp]

theorem adoptConfig_paused (k : LoadKind) (c : RootCfg) (hp : s.life.phase = .run) : (adoptConfig k c s).Paused :=
  paused_of_run (by simp [hp])

/-- A load's end leaves the blocks paused, or enters RUN (R23, R120). -/
theorem State.Paused.endLoad (h : s.Paused) (hp : s.life.phase ≠ .run) (r : LoadResult) : (endLoad r s).Paused := by
  obtain e | ⟨j, -, ⟨hr, e⟩ | ⟨hr, hk, e⟩ | ⟨hr, -, e⟩⟩ := endLoad_cases r s <;> rw [e]
  · exact h
  · exact paused_of_run (by simp [hr, phaseAfter_ok])
  · have hhalt : (loadEntered r j s).life.phase ≠ .run := by simp [hk, phaseAfter_reload hr]
    have failed : (reloadFailed r (loadEntered r j s)).Paused := by
      refine h.congr hp (by simp) fun p hl => ?_
      simp only [reloadFailed_frame, mapLoadFail, withCells_map_passes, withPasses_map_passes, Table.get_mapIdx _ _ hl]
      split <;> simp
    exact failed.engineOnly (by simpa using hhalt) (failReload_engineOnly hhalt r)
  · exact paused_of_empty (by simp [Conv.cleared, View.cleared, MapEngine.cleared, h.frames hp, h.takeOk hp, h.exporting hp])
      fun p hl => by simp [MapEngine.cleared, Table.get_fill _ hl]; rfl

/-- A record touches configuration parts alone, so the blocks stand as they stood (R22). -/
theorem RecordTaken.paused {ws : List W32} {j j' : LoadJob} (ht : RecordTaken ws j s j' t) (h : s.Paused)
    (hp : s.life.phase ≠ .run) : t.Paused := by
  refine h.congr hp ?_ fun p _ => ?_
  · cases ht <;> simp
  · cases ht
    case pass x hj hx => exact Table.get_set_same Pass.timer (t := s.map.passes) (by rfl) p
    all_goals rfl

theorem State.Paused.configFetched (h : s.Paused) (hs : s.Phased) (reply : FetchReply) :
    (configFetched reply s).Paused := by
  cases hl : s.life.load with
  | none => simpa [Machine.configFetched, hl] using h
  | some j =>
    have hload : s.life.phase ≠ .run := by simp [hs.phase_load hl]
    refine configFetched_keeps (I := fun u => u.Paused ∧ u.life.phase ≠ .run) (P := State.Paused)
      (fun _ _ _ u u' hu ht => ⟨ht.paused hu.1 hu.2, ?_⟩) (fun _ => h) (fun _ _ hu => hu.1.blocks hu.2 (by simp))
      (fun r _ hu => hu.1.endLoad hu.2 r) ⟨h, hload⟩ reply
    obtain ⟨-, c, -, -, hlife⟩ | ⟨-, hlife⟩ := ht.life <;> rw [hlife]
    · exact hu.2
    · exact hu.2

/-! ### Moves -/

/-- Every move keeps the blocks paused outside RUN. -/
theorem Move.paused (hm : Move s t) (hs : s.Phased) (h : s.Paused) : t.Paused := by
  by_cases hr : t.life.phase = .run
  · exact paused_of_run hr
  cases hm
  case poweredOn | resetAsserted =>
    exact paused_of_empty ⟨rfl, rfl, rfl, rfl, rfl, rfl, rfl, rfl⟩ fun p hl => by
      simp only [State.cleared, MapEngine.cleared, Table.get_fill _ hl]
      rfl
  case strapsRead root autoload hc => exact h.blocks (by simp [hc]) ⟨rfl, rfl, rfl, rfl, rfl⟩
  case firstLoadBegun hp => exact h.blocks (by simp [hp]) (by simp)
  case reloadBegun => exact beginReload_paused s
  case loadStopped hp =>
    have dropped : (dropConfigFetch s).Paused := h.blocks (by simp [hp]) (by simp)
    exact dropped.endLoad (by simp [hp]) _
  case configFetched reply => exact h.configFetched hs reply
  all_goals have hp : s.life.phase ≠ .run := by simpa using hr
  case frameBeat | frameTaken | lineBeat | lineTaken | recomputeBegun | passesFrozen | passesThawed | refreshForced |
      modeSet | offsetSet | viewCalibrated | exposureReset | exportBegun =>
    contradiction
  case frameConverted job hj => simp [h.frame hp] at hj
  case lineCompleted job hj => simp [h.line hp] at hj
  case refreshDue p hd => simp [passAt, h.timers hp p.val p.isLt, timerDue] at hd
  case recomputeDropped w hw => simp [h.recompute hp] at hw
  case recomputeCommitted w hw _ => simp [h.recompute hp] at hw
  case commitAged p age ha => exact h.congr hp (by simp) fun i _ => Table.get_set_same Pass.timer (t := s.map.passes) (by rfl) i
  case scannerSilent i hd => exact h.congr hp (by simp) fun _ _ => by simp
  case urgentWritten reg => exact h.engineOnly hp (urgentWrite_engineOnly hp reg)
  case urgentRefused v =>
    have told : (emit .commandRefused absent16 v (encNat Reason.unknown.code) s).Paused := h.blocks hp (by simp)
    exact told.engineOnly hp (urgentRefused_engineOnly hp v)
  case urgentAccepted => exact h.engineOnly hp (acceptAtOnce_engineOnly hp)
  case fetchFailed =>
    have told : (emit .commandFetchError (subj s.cmd.head) 0 0 s).Paused := h.blocks hp (by simp)
    exact told.engineOnly hp (ringFetchFailed_engineOnly hp)
  case writeEnded => exact h.engineOnly hp (cmdWriteEnded_engineOnly hp)
  case entryFinished => exact h.engineOnly hp (finishEntry_engineOnly hp)
  case listFetched reply => exact h.blocks hp (by simp [Machine.listFetched, h.exporting hp])
  case streamWritten error =>
    have idle : (Machine.streamWritten error s).exp.job = none := by
      unfold Machine.streamWritten
      rw [h.exporting hp]
      cases error <;> simp [h.exporting hp]
    exact h.congr hp (by simp [idle, h.exporting hp]) fun _ _ => by simp
  case faultsCleared first last => exact h.congr hp (by simp) fun _ _ => by simp
  case spotRetired c => exact h.congr hp (by simp) fun _ _ => by simp
  case directTimeRetired c => exact h.congr hp (by simp) fun _ _ => by simp
  all_goals exact h.blocks hp (by simp)

/-- Settles O56: each move keeps the pause, Phased being kept beside it. -/
theorem everyStepKeepsThePause : Obligations.EveryStepKeepsThePause := by
  intro s t hs h ht
  refine (step_keeps (P := fun u => u.Phased ∧ u.Paused) (fun _ _ hm hu => ⟨hm.phased hu.1, hm.paused hu.1 hu.2⟩)
    (fun u rest hu => ⟨hu.1.congr rfl rfl rfl rfl, ?_⟩) ht ⟨hs, h⟩).2
  exact ⟨hu.2.frames, hu.2.takeOk, hu.2.frame, hu.2.lines, hu.2.line, hu.2.refresh, hu.2.recompute, hu.2.timers,
    hu.2.exporting⟩

end

end Sys2Proof.Machine
end

section
/-! Power-on leaves a sound state (O1); entries that run or are refused by the lifephase (O41). -/

namespace Sys2Proof.Machine

section
variable {s t u : State}

/-! ### The state after power-on (O1) -/

theorem reset_configured : State.reset.Configured := by
  constructor
  case inForce => rintro (h | h) <;> cases h
  case cells =>
    intro p hp
    simp only [State.reset, State.cleared, MapEngine.cleared, Table.get_fill _ hp]
    decide
  all_goals exact nofun

theorem reset_bounded : State.reset.Bounded := by
  constructor
  case histories =>
    intro c hc
    simp only [State.reset, State.cleared, Conv.cleared, Table.get_fill _ hc]
    decide
  case persist | exposure =>
    intro c hc
    simp only [State.reset, State.cleared, Alarm.cleared, Table.get_fill _ hc]
    decide
  case ages =>
    intro p hp a ha
    simp only [State.reset, State.cleared, MapEngine.cleared, Table.get_fill _ hp] at ha
    cases ha
  case refresh => exact ⟨List.nodup_nil, nofun⟩
  case inFlight | evRing => exact nofun
  case cmdRing => exact fun h => absurd rfl h
  all_goals decide

theorem reset_phased : State.reset.Phased := phased_of_empty (.inl rfl) rfl rfl rfl

theorem reset_paused : State.reset.Paused :=
  paused_of_empty ⟨rfl, rfl, rfl, rfl, rfl, rfl, rfl, rfl⟩ fun p hp => by
    simp only [State.reset, State.cleared, MapEngine.cleared, Table.get_fill _ hp]
    rfl

theorem reset_scheduled : State.reset.Scheduled := ⟨List.nodup_nil, nofun, nofun, nofun⟩

theorem reset_inRange : State.reset.InRange := by
  constructor
  case cells | parts =>
    intro c hc
    simp only [State.reset, State.cleared, MapEngine.cleared, Table.get_fill _ hc]
    refine ⟨nofun, ?_⟩
    first | exact ⟨fun _ => .inl rfl, fun _ => rfl⟩ | exact nofun
  case channels =>
    intro c hc
    simp only [State.reset, State.cleared, Conv.cleared, Table.get_fill _ hc]
    exact ⟨nofun, nofun, by decide⟩
  case spots | pairings =>
    intro c hc
    simp only [State.reset, State.cleared, View.cleared, Table.get_fill _ hc]
    exact nofun
  case references =>
    intro c hc
    simp only [State.reset, State.cleared, Alarm.cleared, Table.get_fill _ hc]
    exact nofun
  case image => exact nofun

/-- After power-on no alarm record calls ALM# (R143). -/
theorem reset_almTrue : State.reset.AlmTrue := by
  refine ⟨nofun, fun ⟨c, hc, h⟩ => ?_⟩
  simp only [callsAlm, State.reset, State.cleared, Alarm.cleared, Table.get_fill _ hc] at h
  obtain ⟨h, -⟩ | ⟨h, -⟩ := h <;> cases h

/-- Settles O1, invariant by invariant. -/
theorem resetIsClearedAndSound : Obligations.ResetIsClearedAndSound :=
  ⟨by and_intros <;> rfl,
    reset_bounded, reset_configured, reset_phased, locked_of_clear rfl, reset_paused, reset_scheduled, reset_inRange,
    reset_almTrue, List.Pairwise.nil, List.nodup_nil⟩

/-! ### Ring entries and the lifephase (O41) -/

/-- The opcode that a record is made with reads back (R180). -/
theorem opcode_mkRecord {op : Nat} (h : op < 256) (a b : Byte) (x : W16) (l : W32) :
    (mkRecord op a b x l).opcode.toNat = op := by
  simp only [CmdRecord.opcode, mkRecord, mkWord, place, bits, List.sum_cons, List.sum_nil, BitVec.toNat_ofNat]
  omega

/-- An entry refused ends with its refusal and the head moved, nothing else (R161, R163). -/
theorem ringEntry_refused {entry : State → State} {op : Nat} {r : Reason} (h : entryFetched s)
    (he : entry (freePort s) = refuseEntry op r (freePort s)) :
    ringEntry entry s = .next (entryEnded s (refused op r.code s)) := by
  rw [ringEntry_of h.1, he, finishEntry_none (by simpa using h.2)]
  rfl

/-- A command that a record spells is an entry with its record's opcode, and runs in HALT only where it is one of the five
that R163 names. -/
theorem exec_named {c : Instr} {r : CmdRecord} (hr : encodeRecord c = some r) (hu : ∀ op, c ≠ .unknownOpcode op) :
    ∃ inHalt check act, (∀ s, exec c s = ringEntry (executeEntry r.opcode.toNat inHalt check act) s) ∧
      (inHalt = true → c = .nop ∨ (∃ x, c = .ack x) ∨ (∃ p, c = .ackPass p) ∨ c = .lock ∨ c = .reload) := by
  cases c
  case unknownOpcode op => exact absurd rfl (hu op)
  case nop | ack | ackPass | lock | reload =>
    simp only [encodeRecord, Option.some.injEq] at hr
    subst hr
    rw [opcode_mkRecord (by decide)]
    exact ⟨_, _, _, fun s => rfl, fun _ => by simp⟩
  case freeze | thaw | setMode | forceRefresh | clearFaults | setOffset | calibrateView | resetExposure | exportStart =>
    simp only [encodeRecord, Option.some.injEq] at hr
    subst hr
    rw [opcode_mkRecord (by decide)]
    exact ⟨_, _, _, fun s => rfl, nofun⟩
  all_goals simp [encodeRecord] at hr

/-- Outside the lifephases that let a command run it is refused with WRONG_PHASE (R163). -/
theorem executeEntry_wrongPhase {op : Nat} {inHalt : Bool} {check : State → Option Reason} {act : State → State}
    (h : s.life.phase = .load ∨ (s.life.phase = .halt ∧ inHalt = false)) :
    executeEntry op inHalt check act s = refuseEntry op .wrongPhase s := by
  obtain hp | ⟨hp, rfl⟩ := h <;> simp [executeEntry, hp]

/-- A command that runs in RUN and HALT and has no checks of its own runs there (R163). -/
theorem executeEntry_runs {op : Nat} {check : State → Option Reason} {act : State → State}
    (hp : s.life.phase = .run ∨ s.life.phase = .halt) : executeEntry op true check act s = checkedEffect op check act s := by
  rcases hp with hp | hp <;> simp [executeEntry, hp]

/-- Settles O41. -/
theorem entriesRunOrAreRefusedByPhase : Obligations.EntriesRunOrAreRefusedByPhase := by
  refine ⟨fun op s hop h => ?_, fun c r s hr hu h hp => ?_, fun s hp h => ?_⟩
  · have unnamed : ¬ op.toNat < 14 := by omega
    simp only [exec, execUnknownOpcode, if_neg unnamed]
    exact ringEntry_refused h rfl
  · obtain ⟨inHalt, check, act, he, hh⟩ := exec_named hr hu
    rw [he]
    refine ringEntry_refused (r := .wrongPhase) h (executeEntry_wrongPhase (hp.imp id fun ⟨hphase, named⟩ => ⟨hphase, ?_⟩))
    obtain ⟨hnop, hack, hpass, hlock, hreload⟩ := named
    refine Bool.eq_false_iff.mpr fun ht => ?_
    obtain e | ⟨x, e⟩ | ⟨p, e⟩ | e | e := hh ht
    exacts [hnop e, hack x e, hpass p e, hlock e, hreload e]
  · have runs (act : State → State) (op : Nat) : executeEntry op true noCheck act (freePort s) = act (freePort s) :=
      executeEntry_runs hp
    constructor
    · simp only [exec, execNop, ringEntry_of h.1, runs]
      rw [finishEntry_none (by exact h.2)]
      rfl
    · simp only [exec, execLock, ringEntry_of h.1, runs]
      rw [finishEntry_none (by exact h.2)]
      rfl

end

end Sys2Proof.Machine
end

section
/-! The start of a load and of a reload (O14, O44), a load stopped (O15), and the root record's fetches (O16). -/

namespace Sys2Proof.Machine

section
variable {s t u : State}

/-! ### The start of a load (R16, R17, R24) -/

/-- LOAD entered and the root record asked for; nothing else is touched (R17). -/
theorem beginLoad_eq (k : LoadKind) (s : State) : beginLoad k s = { s with
    life := { s.life with
      phase := .load, pendingCfg := none, load := some ⟨k, .root, rootAddr s + 16, [], 0, [], []⟩ }
    path := { s.path with lifeOut := s.path.lifeOut ++ [⟨.configFetch, rootAddr s, []⟩] } } := rfl

/-- The state that a reload pauses, before LOAD is entered (R24). -/
def pausedState (s : State) : State := cmdPause (abortExportJob (mapPause (viewPause (convPause (intakePause s)))))

theorem beginReload_eq (s : State) : beginReload s = beginLoad .reload (pausedState s) := rfl

/-- Outside a reload's own part an abort of the transfer in flight ends it, hands its event over and withdraws its
requests (R177). -/
theorem abortExportJob_eq (s : State) : abortExportJob s = { s with
    path := { s.path with expOut := if s.exp.job.isSome = true then [] else s.path.expOut }
    exp := { s.exp with job := none, outcome := if s.exp.job.isSome = true then .aborted else s.exp.outcome }
    ev := match s.exp.job with
      | some j => s.ev.take ⟨.exportEnd, BitVec.ofNat 16 j.reached, s.life.clock, 6, BitVec.ofNat 32 s.exp.bytes⟩
      | none => s.ev } := by
  unfold abortExportJob endExport
  split
  next hj =>
    cases s with
    | mk life path intake conv view map alarm hot cmd ev exp pending =>
      cases exp
      cases hj
      rfl
  next j hj =>
    simp only [hj]
    rfl

/-- READY and STALLED enter WAIT_LOAD, every other state stays (R166). -/
theorem cmdPause_eq (s : State) : cmdPause s = { s with cmd := { s.cmd with
    engine := if s.cmd.engine = .ready ∨ s.cmd.engine = .stalled then .waitLoad else s.cmd.engine } } := by
  unfold cmdPause
  cases he : s.cmd.engine <;> simp only [withCmd, reduceCtorEq, or_self, or_false, or_true, if_true, if_false] <;>
    rw [← he]

/-- A reload pauses every block (R45, R71, R89, R119, R166, R177). -/
theorem pausedState_eq (s : State) : pausedState s = { s with
    path := { s.path with expOut := if s.exp.job.isSome = true then [] else s.path.expOut }
    intake := (intakePause s).intake
    conv := { s.conv with inHand := none }
    view := (viewPause s).view
    map := (mapPause s).map
    cmd := { s.cmd with
      engine := if s.cmd.engine = .ready ∨ s.cmd.engine = .stalled then .waitLoad else s.cmd.engine }
    ev := match s.exp.job with
      | some j => s.ev.take ⟨.exportEnd, BitVec.ofNat 16 j.reached, s.life.clock, 6, BitVec.ofNat 32 s.exp.bytes⟩
      | none => s.ev
    exp := { s.exp with job := none, outcome := if s.exp.job.isSome = true then .aborted else s.exp.outcome } } := by
  rw [pausedState, cmdPause_eq, abortExportJob_eq]
  rfl

theorem intakePause_scanner {i : Nat} (hi : i < 8) :
    (intakePause s).intake.scanners.get i = { s.intake.scanners.get i with timer := none } := Table.get_mapIdx _ _ hi

theorem intakePause_slot {i : Nat} (hi : i < 8) :
    (intakePause s).intake.slots.getD i (Slot.empty 18) = Slot.empty 18 := Table.getD_fill hi _ _

theorem viewPause_slot {i : Nat} (hi : i < 4) : (viewPause s).view.slots.getD i (Slot.empty 33) = Slot.empty 33 :=
  Table.getD_fill hi _ _

theorem mapPause_pass {p : Nat} (hp : p < 8) :
    (mapPause s).map.passes.get p = { s.map.passes.get p with timer := none } := Table.get_mapIdx _ _ hp

/-- Settles O14: the lifephases one by one, and the pause of a reload block by block. -/
theorem startValueBeginsALoad : Obligations.StartValueBeginsALoad := by
  refine ⟨fun s => ⟨fun hp => ?_, fun hp => ?_⟩, fun s hp hl => ?_⟩
  · simp only [exec, execLoadStartValue, startWatched, hp, if_true, loadStart]
    rfl
  · obtain hp | hp | hp | ⟨hp, hl⟩ := hp
    all_goals simp [exec, execLoadStartValue, startWatched, loadStart, *]
  · refine ⟨beginReload s, ?_, ?_⟩
    · simp [exec, execLoadStartValue, startWatched, loadStart, hp, hl]
    rw [beginReload_eq, pausedState_eq]
    refine ⟨rfl, rfl, rfl, rfl, rfl, rfl, rfl, fun i hi => ?_, fun i hi => intakePause_slot hi, rfl, rfl,
      fun i hi => viewPause_slot hi, rfl, rfl, rfl, fun p hp => mapPause_pass hp, rfl, rfl, rfl, rfl, rfl⟩
    exact congrArg Scanner.timer (intakePause_scanner hi)

/-- Settles O44: the entry pauses every block and enters LOAD, or is refused under the lock. -/
theorem reloadEntersLoad : Obligations.ReloadEntersLoad := by
  intro s hp h
  have runs : executeEntry 0x0C true reloadCheck beginReload (freePort s) =
      checkedEffect 0x0C reloadCheck beginReload (freePort s) := executeEntry_runs hp
  refine ⟨fun hl => ?_, fun hl => ?_⟩
  · have unlocked : reloadCheck (freePort s) = none := by simp [reloadCheck, hl]
    have idle : (beginReload (freePort s)).cmd.urgent = none := by
      rw [beginReload_eq, pausedState_eq]
      exact h.2
    refine ⟨finishEntry (beginReload (freePort s)), ?_, ?_⟩
    · simp only [exec, execReload, ringEntry_of h.1, runs, checkedEffect, unlocked]
    rw [finishEntry_none idle, beginReload_eq, pausedState_eq]
    exact ⟨rfl, rfl, rfl, rfl, rfl, fun i hi => intakePause_scanner hi, fun i hi => intakePause_slot hi, rfl, rfl,
      fun i hi => viewPause_slot hi, rfl, fun p hp => mapPause_pass hp, rfl, rfl, rfl, rfl⟩
  · have locked : reloadCheck (freePort s) = some .locked := by simp [reloadCheck, hl]
    exact ringEntry_refused (r := .locked) h (by rw [runs, checkedEffect, locked])

/-! ### A load that ends with another result than OK (R16, R23) -/

/-- The lifephase after a load that fails (R23). -/
theorem phaseAfter_failed {r : LoadResult} (hr : r ≠ .ok) (k : LoadKind) :
    phaseAfter k r = if k = .first then .idle else .halt := by
  cases k
  · exact phaseAfter_first hr
  · exact phaseAfter_reload hr

/-- A load that fails: the Life Controller, the posted result word, and the blocks that no failed load touches (R23). -/
theorem endLoad_failed {r : LoadResult} {j : LoadJob} (hr : r ≠ .ok) (hl : s.life.load = some j) :
    (endLoad r s).life = { s.life with
      phase := if j.kind = .first then .idle else .halt
      lastResult := r, load := none, pendingCfg := none } ∧
    (∃ out, (endLoad r s).path = { s.path with
      cmdOut := out
      lifeOut := s.path.lifeOut ++ [⟨.resultWord, resultAddr s, [resultWord r (phaseAfter j.kind r)]⟩] }) ∧
    (endLoad r s).intake = s.intake ∧
    (j.kind = .first → (endLoad r s).conv = Conv.cleared ∧ (endLoad r s).view = View.cleared ∧
      (endLoad r s).map = MapEngine.cleared ∧ (endLoad r s).alarm = s.alarm) ∧
    (j.kind = .reload → (endLoad r s).conv = s.conv ∧ (endLoad r s).view = s.view ∧
      (endLoad r s).map = (mapLoadFail s).map) := by
  rw [← phaseAfter_failed hr]
  cases hk : j.kind with
  | first =>
    rw [endLoad_first hr hl hk, ← hk]
    exact ⟨by simp, ⟨s.path.cmdOut, by rw [failFirstLoad_path]; rfl⟩, by simp, by simp, fun e => by simp [hk] at e⟩
  | reload =>
    have idle : (loadEntered r j s).life.phase ≠ .run := by simp [hk, phaseAfter_reload hr]
    obtain ⟨c, out, he⟩ := failReload_engineOnly idle r
    rw [endLoad_reload hr hl hk, he, ← hk]
    exact ⟨by simp, ⟨out, by simp only [reloadFailed_frame]; rfl⟩, by simp, fun e => by simp [hk] at e,
      fun _ => ⟨by simp, by simp, by simp only [reloadFailed_frame]; rfl⟩⟩

/-- Settles O15: the stop value withdraws the fetch and ends the load as any failed one. -/
theorem stopValueEndsTheLoad : Obligations.StopValueEndsTheLoad := by
  intro j s hp hl
  obtain ⟨life, ⟨out, path⟩, intake, first, reload⟩ :=
    endLoad_failed (r := .stopped) (s := dropConfigFetch s) (by decide) hl
  refine ⟨endLoad .stopped (dropConfigFetch s), ?_, life, ?_, fun r d hr hk => ?_, ?_, ?_, intake, first, fun hk => ?_⟩
  · simp [exec, execLoadStopValue, startWatched, loadStop, hp]
  · rw [path]
    cases hk : j.kind <;> rfl
  · rw [path]
    simp [dropConfigFetch, setRequests, discardOnPort, isKind, hr, hk]
  · rw [path]; rfl
  · rw [path]; rfl
  · obtain ⟨conv, view, -⟩ := reload hk
    exact ⟨conv, view⟩

/-! ### The root record's fetches (R17, R18) -/

theorem configFetchComplete_of {reply : FetchReply} (h : onPortKind s .configFetch) :
    exec (.configFetchComplete reply) s = .next (configFetched reply (freePort s)) := by
  obtain ⟨r, hk, hr⟩ := h
  simp only [exec, execConfigFetchComplete]
  rw [complete_of hr (by simp [isKind, hk])]

/-- A fetched burst, its words behind those kept (R17). -/
theorem configFetched_words {j : LoadJob} (hl : s.life.load = some j) (w0 w1 w2 w3 : W32) :
    configFetched (.words w0 w1 w2 w3) s =
      takeRecords (j.words.length + 5) { j with words := j.words ++ [w0, w1, w2, w3] } s := by
  simp [configFetched, hl]

/-- Without a complete record the next burst of the table is asked for (R17). -/
theorem takeRecords_short {j : LoadJob} (h : ∀ n, recordWordsOf j.stage j.words = some n → j.words.length < n)
    (fuel : Nat) : takeRecords fuel j s = continueLoad j s := by
  cases fuel with
  | zero => rfl
  | succ fuel =>
    unfold takeRecords
    split
    · rfl
    next n hn => rw [if_pos (h n hn)]

/-- A complete record that fails ends the load with its result (R17). -/
theorem takeRecords_failed {j : LoadJob} {n : Nat} {r : LoadResult} (hn : recordWordsOf j.stage j.words = some n)
    (hlen : n ≤ j.words.length) (ht : takeRecord (j.words.take n) j s = .failed r) (fuel : Nat) :
    takeRecords (fuel + 1) j s = endLoad r s := by
  simp only [takeRecords, hn, if_neg (Nat.not_lt.mpr hlen), ht]

/-- A complete record that passes, the load going on behind it (R17). -/
theorem takeRecords_taken {j j' j'' : LoadJob} {n : Nat} (hn : recordWordsOf j.stage j.words = some n)
    (hlen : n ≤ j.words.length) (ht : takeRecord (j.words.take n) j s = .written j' t)
    (ha : afterRecord (j.words.drop n) j' t = some j'') (fuel : Nat) :
    takeRecords (fuel + 1) j s = takeRecords fuel j'' t := by
  simp only [takeRecords, hn, if_neg (Nat.not_lt.mpr hlen), ht, ha]

/-- A complete record that passes as the last of the last table (R17). -/
theorem takeRecords_last {j j' : LoadJob} {n : Nat} (hn : recordWordsOf j.stage j.words = some n)
    (hlen : n ≤ j.words.length) (ht : takeRecord (j.words.take n) j s = .written j' t)
    (ha : afterRecord (j.words.drop n) j' t = none) (fuel : Nat) :
    takeRecords (fuel + 1) j s = endLoad .ok t := by
  simp only [takeRecords, hn, if_neg (Nat.not_lt.mpr hlen), ht, ha]

/-- No table's record is complete with no word (R183). -/
theorem takeRecords_empty {j : LoadJob} (h : j.words = []) (fuel : Nat) : takeRecords fuel j s = continueLoad j s := by
  refine takeRecords_short (fun n hn => ?_) fuel
  have := recordWordsOf_pos hn
  simp only [h, List.length_nil]
  omega

/-- After a record that is not its table's last comes the next record (R17). -/
theorem afterRecord_within {c : RootCfg} {j : LoadJob} (hp : s.life.pendingCfg = some c)
    (hi : j.index + 1 < stageRecords c s j.stage) (rest : List W32) :
    afterRecord rest j s = some { j with index := j.index + 1, words := rest } := by
  simp [afterRecord, hp, hi]

/-- After a table's last record comes the next table, if there is one (R17). -/
theorem afterRecord_beyond {c : RootCfg} {j : LoadJob} (hp : s.life.pendingCfg = some c)
    (hi : stageRecords c s j.stage ≤ j.index + 1) (rest : List W32) :
    afterRecord rest j s = (nextStage c j.stage).map fun n =>
      { j with stage := n.1, addr := n.2, index := 0, words := [] } := by
  simp [afterRecord, hp, Nat.not_lt.mpr hi]

section
variable {w0 w1 w2 w3 : W32} {j : LoadJob}

/-- The last burst of the root record brings its 20 words (R18). -/
theorem configFetched_root {r : LoadResult} (hl : s.life.load = some j) (hst : j.stage = .root)
    (hlen : j.words.length = 16)
    (hr : ∀ k, takeRoot (j.words ++ [w0, w1, w2, w3]) k s = .failed r) :
    configFetched (.words w0 w1 w2 w3) s = endLoad r s := by
  rw [configFetched_words hl]
  refine takeRecords_failed (n := 20) (by simp [hst, recordWordsOf]) (by simp [hlen]) ?_ _
  rw [List.take_of_length_le (by simp [hlen])]
  simp only [takeRecord, hst]
  exact hr _

end

/-- Settles O16: the root record's bursts one by one, and the ends of its load. -/
theorem fetchesFeedOrEndTheLoad : Obligations.FetchesFeedOrEndTheLoad := by
  refine ⟨fun w0 w1 w2 w3 j s h hl hst hlen => ?_, fun w0 w1 w2 w3 c j s h hl hst hlen hc hw => ?_,
    fun reply r j s h hl hr => ?_, fun error s h => ?_⟩
  · rw [configFetchComplete_of h, configFetched_words (s := freePort s) hl, takeRecords_short]
    · rfl
    · intro n hn
      simp only [recordWordsOf, hst, Option.some.injEq] at hn
      simp only [List.length_append, List.length_cons, List.length_nil]
      omega
  · rw [configFetchComplete_of h, configFetched_words (s := freePort s) hl]
    have passes : takeRecord (List.take 20 (j.words ++ [w0, w1, w2, w3]))
        { j with words := j.words ++ [w0, w1, w2, w3] } (freePort s) =
        .written { j with words := j.words ++ [w0, w1, w2, w3] }
          (withLife { s.life with pendingCfg := some c } (freePort s)) := by
      rw [List.take_of_length_le (by simp [hlen])]
      have hw' : windowsOk (rootAddr (freePort s)).toNat c = true := by rw [rootAddr_toNat]; exact hw
      simp only [takeRecord, hst, takeRoot, hc, hw', if_true]
      rfl
    rw [takeRecords_taken (n := 20) (by simp [hst, recordWordsOf]) (by simp [hlen]) passes
      (j'' := { j with stage := .pass, addr := c.passPtr, index := 0, words := [] })]
    · rw [takeRecords_empty rfl]
      rfl
    · rw [afterRecord_beyond (c := c) rfl (by simp only [hst, stageRecords]; omega), hst]
      rfl
  · have failed : configFetched reply (freePort s) = endLoad r (freePort s) ∧ r ≠ .ok := by
      obtain ⟨rfl, rfl⟩ | ⟨w0, w1, w2, w3, rfl, hst, hlen, ⟨hc, rfl⟩ | ⟨c, hc, hw, rfl⟩⟩ := hr
      · exact ⟨by simp [configFetched, hl], nofun⟩
      · exact ⟨configFetched_root hl hst hlen fun k => by simp [takeRoot, hc], nofun⟩
      · refine ⟨configFetched_root hl hst hlen fun k => ?_, nofun⟩
        have hw' : windowsOk (rootAddr (freePort s)).toNat c = false := by rw [rootAddr_toNat]; exact hw
        simp [takeRoot, hc, hw']
    obtain ⟨life, ⟨out, path⟩, -⟩ := endLoad_failed (s := freePort s) failed.2 hl
    refine ⟨_, configFetchComplete_of h, ?_⟩
    rw [failed.1]
    exact ⟨life, by rw [path]; rfl, by rw [path]; rfl⟩
  · obtain ⟨r, hk, hr⟩ := h
    have ended : complete (isKind .resultWord) (fun _ s => s) s = freePort s := complete_of hr (by simp [isKind, hk])
    cases error <;> simp only [exec, execResultWordWriteComplete, ended] <;> rfl

end

end Sys2Proof.Machine
end

section
/-! What a reload that ends with another result than OK leaves in every block (O21). -/

namespace Sys2Proof.Machine

section
variable {s t u : State}

/-! ### The records of a load, in every block but the configuration (R22) -/

/-- What the records of a load leave: the pending configuration, curves, corrections, spans and configuration parts apart,
everything stands as it stood, and with it the Command Engine's requests. -/
structure Recorded (s u : State) : Prop where
  life : ∃ p, u.life = { s.life with pendingCfg := p }
  windows : u.path.windows = s.path.windows
  extent : u.path.extent = s.path.extent
  requests : outstanding s .commandEngine = false → outstanding u .commandEngine = false
  intake : u.intake = s.intake
  spots : u.view.spots = s.view.spots ∧ u.view.pairings = s.view.pairings
  channels : ∀ i, u.conv.channels.get i = { s.conv.channels.get i with cfg := (u.conv.channels.get i).cfg }
  cells : ∀ i, u.map.cells.get i = { s.map.cells.get i with cfg := (u.map.cells.get i).cfg }
  passes : ∀ p, u.map.passes.get p = { s.map.passes.get p with cfg := (u.map.passes.get p).cfg }
  scheduled : u.map.queue = s.map.queue ∧ u.map.work = s.map.work
  told : u.alarm = s.alarm ∧ u.hot = s.hot ∧ u.cmd = s.cmd ∧ u.ev = s.ev

theorem Recorded.freePort (s : State) : Recorded s (freePort s) := by
  refine ⟨⟨_, rfl⟩, rfl, rfl, fun ho => ?_, rfl, ⟨rfl, rfl⟩, fun _ => rfl, fun _ => rfl, fun _ => rfl, ⟨rfl, rfl⟩,
    ⟨rfl, rfl, rfl, rfl⟩⟩
  rw [← Bool.not_eq_true, outstanding_engine_iff] at ho ⊢
  exact fun h => ho (.inl (h.resolve_right (by simp [onPort, Machine.freePort])))

/-- What a stop value withdraws is not the Command Engine's (R16). -/
theorem Recorded.dropConfigFetch (s : State) : Recorded s (dropConfigFetch s) := by
  refine ⟨⟨_, rfl⟩, rfl, rfl, fun ho => ?_, rfl, ⟨rfl, rfl⟩, fun _ => rfl, fun _ => rfl, fun _ => rfl, ⟨rfl, rfl⟩,
    ⟨rfl, rfl, rfl, rfl⟩⟩
  rw [← Bool.not_eq_true, outstanding_engine_iff] at ho ⊢
  refine fun h => ho (h.imp id fun hport => ?_)
  have port : (Machine.dropConfigFetch s).path.memPort = discardOnPort (isKind .configFetch) s.path.memPort := rfl
  revert hport
  cases hm : s.path.memPort with
  | none => simp [onPort, port, hm, discardOnPort]
  | some a =>
    cases a with
    | host a => simp [onPort, port, hm, discardOnPort]
    | bridge r d =>
      cases hk : isKind .configFetch r.kind <;> simp [onPort, port, hm, discardOnPort, hk]

/-- One record more (R18 to R22). -/
theorem Recorded.step {ws : List W32} {j j' : LoadJob} (h : Recorded s u) (ht : RecordTaken ws j u j' t) :
    Recorded s t := by
  obtain ⟨path, intake, alarm, hot, cmd, ev, -, -⟩ := ht.frame
  obtain ⟨p, life⟩ := h.life
  obtain ⟨halarm, hhot, hcmd, hev⟩ := h.told
  have channels (i : Nat) : t.conv.channels.get i = { u.conv.channels.get i with cfg := (t.conv.channels.get i).cfg } := by
    cases ht
    case channel =>
      simp only [withChannels_conv_channels, Table.get_modify]
      split
      next he => rw [he.1]
      next => rfl
    all_goals rfl
  have cells (i : Nat) : t.map.cells.get i = { u.map.cells.get i with cfg := (t.map.cells.get i).cfg } := by
    cases ht
    case cell =>
      simp only [withCells_map_cells, Table.get_modify]
      split
      next he => rw [he.1]
      next => rfl
    all_goals rfl
  have passes (i : Nat) : t.map.passes.get i = { u.map.passes.get i with cfg := (t.map.passes.get i).cfg } := by
    cases ht
    case pass =>
      simp only [setPass, passAt, withPasses_map_passes, Table.get_set]
      split
      next he => rw [he.1]
      next => rfl
    all_goals rfl
  have scheduled : t.map.queue = u.map.queue ∧ t.map.work = u.map.work := by cases ht <;> exact ⟨rfl, rfl⟩
  have spots : t.view.spots = u.view.spots ∧ t.view.pairings = u.view.pairings := by cases ht <;> exact ⟨rfl, rfl⟩
  refine ⟨?_, by rw [path, h.windows], by rw [path, h.extent], fun ho => ?_, intake.trans h.intake,
    ⟨spots.1.trans h.spots.1, spots.2.trans h.spots.2⟩, fun i => ?_, fun i => ?_, fun i => ?_,
    ⟨scheduled.1.trans h.scheduled.1, scheduled.2.trans h.scheduled.2⟩,
    ⟨alarm.trans halarm, hot.trans hhot, cmd.trans hcmd, ev.trans hev⟩⟩
  · obtain ⟨-, c, -, -, hl⟩ | ⟨-, hl⟩ := ht.life
    · exact ⟨some c, by rw [hl, life]⟩
    · exact ⟨p, by rw [hl, life]⟩
  · rw [outstanding_congr path]
    exact h.requests ho
  · rw [channels i, h.channels i]
  · rw [cells i, h.cells i]
  · rw [passes i, h.passes i]

/-- A state in which a load has ended with another result than OK, behind the records that passed (R22, R23). -/
def FailedBehind (s t : State) : Prop := ∃ u r, Recorded s u ∧ r ≠ .ok ∧ t = endLoad r u

/-- A reload that leaves LOAD for HALT has ended with another result than OK, behind the records that passed (R22, R23). -/
theorem reload_ends {c : Instr} {j : LoadJob} (hp : s.life.phase = .load) (hl : s.life.load = some j)
    (hc : c = .loadStopValue ∨ ∃ reply, c = .configFetchComplete reply) (ht : exec c s = .next t)
    (hhalt : t.life.phase = .halt) : FailedBehind s t := by
  obtain rfl | ⟨reply, rfl⟩ := hc
  · refine ⟨dropConfigFetch s, .stopped, .dropConfigFetch s, nofun, ?_⟩
    simpa [exec, execLoadStopValue, startWatched, loadStop, hp, eq_comm] using ht
  · simp only [exec, execConfigFetchComplete, Host.Outcome.next.injEq] at ht
    subst ht
    revert hhalt
    refine complete_keeps (P := fun t => t.life.phase = .halt → FailedBehind s t) (s := s) (by simp [hp])
      (by simp [hp]) fun _ _ _ => ?_
    refine configFetched_keeps (P := fun t => t.life.phase = .halt → FailedBehind s t) (I := Recorded s)
      (fun _ _ _ _ _ hu ht => hu.step ht) (by simp [hl]) (fun j u hu => ?_)
      (fun r u hu hhalt => ?_) (.freePort s) reply
    · obtain ⟨p, life⟩ := hu.life
      simp [life, hp]
    · refine ⟨u, r, hu, ?_, rfl⟩
      rintro rfl
      obtain ⟨p, life⟩ := hu.life
      have hlu : u.life.load = some j := by rw [life, ← hl]
      simp [endLoad_ok hlu, phaseAfter_ok] at hhalt

/-! ### The Command Engine in HALT (R166) -/

theorem fetchIfDue_waits (h : s.cmd.engine ≠ .waitLoad) : (fetchIfDue s).cmd.engine ≠ .waitLoad := by
  unfold fetchIfDue
  split
  · simp [withCmd]
  · exact h

theorem acceptAtOnce_engine (hp : s.life.phase ≠ .run) : (acceptAtOnce s).cmd.engine = s.cmd.engine := by
  unfold acceptAtOnce acceptUrgent
  split_ifs
  · rfl
  · split
    · rfl
    · dsimp only
      rw [post_cmd, carryOutUrgent_idle (by exact hp)]
      rfl
  · rfl

/-- The engine leaves WAIT_LOAD at the end of a failed reload (R166). -/
theorem cmdResume_engine (hp : s.life.phase ≠ .run) : (cmdResume s).cmd.engine ≠ .waitLoad := by
  have woken : (cmdWake s).cmd.engine ≠ .waitLoad := by
    unfold cmdWake
    split <;> simp [withCmd, *]
  unfold cmdResume
  dsimp only
  split
  · exact fetchIfDue_waits woken
  · exact fetchIfDue_waits (by rw [acceptAtOnce_engine (by simpa using hp)]; exact woken)

/-- With nothing to take the engine is READY (R166). -/
theorem cmdResume_idle (he : s.cmd.engine = .waitLoad) (hu : s.cmd.urgent = none) (hh : s.cmd.head = s.cmd.tail) :
    (cmdResume s).cmd = { s.cmd with engine := .ready } := by
  simpa [cmdLoadOk] using cmdLoadOk_idle he hu hh

/-- In HALT a code left pending is taken at once, without an effect (R165, R166). -/
theorem cmdResume_code {c : Urgent} (he : s.cmd.engine = .waitLoad) (hu : s.cmd.urgent = some c)
    (ho : outstanding s .commandEngine = false) (hp : s.life.phase = .halt) :
    (cmdResume s).cmd.urgent = none ∧
      (cmdResume s).path.cmdOut = [⟨.urgentClear, s.life.params.cmdBase + 0xF08, [0]⟩] := by
  have woken : cmdWake s = engineIn .ready s := cmdWake_eq (by simp [he])
  have ho' : outstanding (engineIn .ready s) .commandEngine = false := ho
  have hout : s.path.cmdOut = [] := by
    by_contra hne
    simp [outstanding_engine_iff.mpr (.inl hne)] at ho
  have taken : acceptAtOnce (engineIn .ready s) =
      post (clearWrite (codeLifted (engineIn .ready s))) (codeLifted (engineIn .ready s)) := by
    have hu' : (engineIn .ready s).cmd.urgent = some c := hu
    have hp' : (engineIn .ready s).life.phase = .halt := hp
    rw [acceptAtOnce, clearOutstanding_of_idle ho', acceptUrgent, hp', hu']
    dsimp only
    rw [carryOutUrgent_idle (by simp [withCmd, hp'])]
    rfl
  have out : (acceptAtOnce (engineIn .ready s)).path.cmdOut = [⟨.urgentClear, s.life.params.cmdBase + 0xF08, [0]⟩] := by
    rw [taken, post_cmdOut _ _ rfl]
    simp only [codeLifted, engineIn, withCmd, hout, List.nil_append, clearWrite, cmdBase]
    rfl
  have last : fetchIfDue (acceptAtOnce (engineIn .ready s)) = acceptAtOnce (engineIn .ready s) :=
    fetchIfDue_idle (.inr (.inr (.inr (outstanding_engine_iff.mpr (.inl (by simp [out]))))))
  have whole : cmdResume s = acceptAtOnce (engineIn .ready s) := by
    simp only [cmdResume, woken, ho', Bool.false_eq_true, if_false, last]
  rw [whole]
  exact ⟨by rw [taken]; rfl, out⟩

/-! ### Cells, alarm records, hot list and events (R120, R146, R153) -/

theorem failCell_cfg (e : Extent) (i : Nat) (x : Cell) : (failCell e i x).cfg = x.cfg := by
  unfold failCell heldCell
  split_ifs <;> rfl

/-- A cell lies in the record extent (R7). -/
theorem inExtent_iff (e : Extent) (i : Nat) :
    posOf i < extentCells e (passOf i) ↔ i / 64 < e.passCount ∧ i % 64 < e.cellCounts.getD (i / 64) 0 := by
  unfold extentCells posOf passOf
  split_ifs with h <;> simp [h]

/-- A cell of the extent is HELD or VOID after a failed reload (R120). -/
theorem failCell_inside {e : Extent} {i : Nat} (h : i / 64 < e.passCount ∧ i % 64 < e.cellCounts.getD (i / 64) 0)
    (x : Cell) : failCell e i x =
      if x.temp.isSome = true then { x with source := .held, disagree := false, tcComp := none, snap := none }
      else { x with source := .void, disagree := false, clamped := false, tcComp := none, snap := none } := by
  rw [failCell, if_pos ((inExtent_iff e i).mpr h)]
  rfl

theorem failCell_outside {e : Extent} {i : Nat} (h : ¬(i / 64 < e.passCount ∧ i % 64 < e.cellCounts.getD (i / 64) 0))
    (x : Cell) : failCell e i x = x := by
  rw [failCell, if_neg fun hin => h ((inExtent_iff e i).mp hin)]

theorem mapLoadFail_cell {i : Nat} (hi : i < 512) :
    (mapLoadFail s).map.cells.get i = failCell s.path.extent i (s.map.cells.get i) := Table.get_mapIdx _ _ hi

theorem mapLoadFail_pass {p : Nat} (hp : p < 8) : (mapLoadFail s).map.passes.get p =
    if p < s.path.extent.passCount then { s.map.passes.get p with gen := (s.map.passes.get p).gen + 1 }
    else s.map.passes.get p := Table.get_mapIdx _ _ hp

theorem alarmLoadFail_rec {i : Nat} (hi : i < 512) : (alarmLoadFail s).alarm.recs.get i =
    if (s.map.cells.get i).source = .void then { s.alarm.recs.get i with margin := none } else s.alarm.recs.get i :=
  Table.get_mapIdx _ _ hi

/-- The hot list is made of cells, passes and alarm records alone (R148). -/
theorem hotOf_congr (hm : t.map = s.map) (ha : t.alarm = s.alarm) : hotOf t = hotOf s := by
  have same : hotEntry t = hotEntry s := by
    funext c
    rw [hotEntry, hm, ha]
    rfl
  rw [hotOf, eligibleEntries, same]
  rfl

/-- A failed reload's tables and hot list made, its own event handed over, the leader's still to come (R23). -/
def reloadTold (r : LoadResult) (s : State) : State :=
  loadEndEvent r .halt (rebuildList (alarmLoadFail (mapLoadFail s)))

theorem reloadFailed_told (r : LoadResult) (s : State) :
    reloadFailed r s = evalEvt (leaderEvent s.hot (reloadTold r s)) := rfl

theorem evalEvt_ev (s : State) : (evalEvt s).ev = { s.ev with evt := (evalEvt s).ev.evt } := rfl

/-- A failed reload hands over its own event and then the leader's (R23, R153). -/
theorem reloadFailed_ev (r : LoadResult) (s : State) : (reloadFailed r s).ev = {
    takes (⟨.lifeLoadEnd, 0x8000, s.life.clock, BitVec.ofNat 32 r.code, 5⟩ ::
      leaderEvents s.hot (reloadFailed r s).hot s.life.clock) s.ev with evt := (reloadFailed r s).ev.evt } := by
  have hot : (reloadTold r s).hot = (reloadFailed r s).hot := by simp [reloadTold, loadEndEvent, rebuildList]
  have clock : (reloadTold r s).life.clock = s.life.clock := by simp [reloadTold, loadEndEvent, rebuildList]
  have ev : (reloadTold r s).ev = s.ev.take ⟨.lifeLoadEnd, 0x8000, s.life.clock, BitVec.ofNat 32 r.code, 5⟩ := by
    simp [reloadTold, loadEndEvent, rebuildList, absent16, encNat, Phase.code]
  have told : (leaderEvent s.hot (reloadTold r s)).ev =
      takes (⟨.lifeLoadEnd, 0x8000, s.life.clock, BitVec.ofNat 32 r.code, 5⟩ ::
        leaderEvents s.hot (reloadFailed r s).hot s.life.clock) s.ev := by
    rw [leaderEvent_ev, hot, clock, ev]
    rfl
  rw [← told, reloadFailed_told]
  exact evalEvt_ev _

theorem EngineOnly.blocks (h : EngineOnly s t) :
    t.map = s.map ∧ t.alarm = s.alarm ∧ t.hot = s.hot ∧ t.ev = s.ev := by
  obtain ⟨_, _, rfl⟩ := h
  exact ⟨rfl, rfl, rfl, rfl⟩

/-- The end of a failed reload, before the Command Engine resumes and after it. -/
theorem endLoad_reload_engine {r : LoadResult} {j : LoadJob} (hr : r ≠ .ok) (hl : s.life.load = some j)
    (hk : j.kind = .reload) : EngineOnly (reloadFailed r (loadEntered r j s)) (endLoad r s) ∧
      endLoad r s = cmdResume (reloadFailed r (loadEntered r j s)) ∧
      (reloadFailed r (loadEntered r j s)).life.phase = .halt := by
  have halt : (loadEntered r j s).life.phase = .halt := by simp [hk, phaseAfter_reload hr]
  rw [endLoad_reload hr hl hk]
  exact ⟨failReload_engineOnly (by rw [halt]; nofun) r, rfl, by rw [(reloadFailed_frame r _).1, halt]⟩

/-- Alarm records, hot list and events at the end of a failed reload (R23, R146, R153). -/
theorem endLoad_reload_told {r : LoadResult} {j : LoadJob} (hr : r ≠ .ok) (hl : s.life.load = some j)
    (hk : j.kind = .reload) : (endLoad r s).alarm = (alarmLoadFail (mapLoadFail s)).alarm ∧
      (endLoad r s).hot = hotOf (endLoad r s) ∧
      (endLoad r s).ev = { takes (⟨.lifeLoadEnd, 0x8000, s.life.clock, BitVec.ofNat 32 r.code, 5⟩ ::
        leaderEvents s.hot (endLoad r s).hot s.life.clock) s.ev with evt := (endLoad r s).ev.evt } := by
  obtain ⟨engineOnly, -, -⟩ := endLoad_reload_engine hr hl hk
  obtain ⟨mapKept, alarmKept, hotKept, evKept⟩ := engineOnly.blocks
  have told := reloadFailed_ev r (loadEntered r j s)
  have clock : (loadEntered r j s).life.clock = s.life.clock := by simp
  have hot : (loadEntered r j s).hot = s.hot := by simp
  have ev : (loadEntered r j s).ev = s.ev := by simp
  refine ⟨?_, ?_, ?_⟩
  · rw [alarmKept]
    simp only [reloadFailed_frame]
    rfl
  · rw [hotKept]
    simp only [reloadFailed_frame]
    exact hotOf_congr (by simp [mapKept]) (by simp [alarmKept])
  · rw [clock, hot, ev] at told
    rw [evKept, hotKept]
    exact told

/-- The Command Engine at the end of a failed reload (R166). -/
theorem endLoad_reload_cmd {r : LoadResult} {j : LoadJob} (hr : r ≠ .ok) (hl : s.life.load = some j)
    (hk : j.kind = .reload) : (endLoad r s).cmd.head = s.cmd.head ∧ (endLoad r s).cmd.tail = s.cmd.tail ∧
      (endLoad r s).cmd.engine ≠ .waitLoad ∧
      (outstanding s .commandEngine = false → s.cmd.engine = .waitLoad → s.cmd.urgent = none → s.cmd.head = s.cmd.tail →
        (endLoad r s).cmd = { s.cmd with engine := .ready }) ∧
      ∀ u, outstanding s .commandEngine = false → s.cmd.engine = .waitLoad → s.cmd.urgent = some u →
        (endLoad r s).cmd.urgent = none ∧
          (endLoad r s).path.cmdOut = [⟨.urgentClear, s.life.params.cmdBase + 0xF08, [0]⟩] := by
  obtain ⟨-, resumed, halted⟩ := endLoad_reload_engine hr hl hk
  have cmd : (reloadFailed r (loadEntered r j s)).cmd = s.cmd := by simp
  have params : (reloadFailed r (loadEntered r j s)).life.params = s.life.params := by simp
  have requests : outstanding (reloadFailed r (loadEntered r j s)) .commandEngine = outstanding s .commandEngine :=
    outstanding_congr (reloadFailed_frame r _).2.1 _
  obtain ⟨head, tail⟩ := cmdResume_indices (reloadFailed r (loadEntered r j s))
  rw [resumed, ← cmd, ← params, ← requests]
  exact ⟨head, tail, cmdResume_engine (by rw [halted]; nofun), fun _ he hu hh => cmdResume_idle he hu hh,
    fun u ho he hu => cmdResume_code he hu ho halted⟩

/-- Settles O21: the records before the end change configuration parts alone, and the failed reload's own part is taken
block by block. -/
theorem failedReloadHolds : Obligations.FailedReloadHolds := by
  intro c j s t hp hl hk hc ht hhalt inside
  obtain ⟨u, r, hu, hr, rfl⟩ := reload_ends hp hl hc ht hhalt
  obtain ⟨p, hlife⟩ := hu.life
  obtain ⟨halarm, hhot, hcmd, hev⟩ := hu.told
  have hlu : u.life.load = some j := by rw [hlife, ← hl]
  have hclock : u.life.clock = s.life.clock := by rw [hlife]
  have hparams : u.life.params = s.life.params := by rw [hlife]
  obtain ⟨life, ⟨out, path⟩, intake, -, reload⟩ := endLoad_failed hr hlu
  obtain ⟨conv, view, map⟩ := reload hk
  obtain ⟨alarm, hot, told⟩ := endLoad_reload_told hr hlu hk
  obtain ⟨head, tail, engine, idle, code⟩ := endLoad_reload_cmd hr hlu hk
  rw [hhot, hev, hclock] at told
  rw [hcmd] at head tail idle code
  rw [hparams] at code
  have result : (endLoad r u).life.lastResult = r := endLoad_lastResult hlu
  have cell (i : Nat) (hi : i < 512) :
      (endLoad r u).map.cells.get i = failCell s.path.extent i (u.map.cells.get i) := by
    rw [map, mapLoadFail_cell hi, hu.extent]
  have old (i : Nat) (hi : i < 512) :
      u.map.cells.get i = { s.map.cells.get i with cfg := ((endLoad r u).map.cells.get i).cfg } := by
    rw [cell i hi, failCell_cfg, ← hu.cells i]
  refine ⟨⟨?_, by rw [result]; exact hr, ?_, ?_, ?_, ?_, ?_⟩, fun i _ => ?_, fun i hi x hx => ?_, fun p hp => ?_, ?_,
    fun i hi => ?_, ⟨?_, hot, fun hvoid => ?_⟩, ?_, head, tail, engine, fun ho => idle (hu.requests ho),
    fun x ho => code x (hu.requests ho)⟩
  · rw [result, life, hlife, if_neg (by simp [hk])]
  · rw [path]; exact hu.windows
  · rw [path]; exact hu.extent
  · exact intake.trans hu.intake
  · rw [view]; exact hu.spots.1
  · rw [view]; exact hu.spots.2
  · rw [conv]; exact hu.channels i
  · rw [hx, ← old i hi, cell i hi]
    exact ⟨fun hin => failCell_inside hin _, fun hout => failCell_outside hout _⟩
  · rw [map, mapLoadFail_pass hp, hu.extent]
    have same := hu.passes p
    split_ifs <;> rw [same]
  · rw [map]; exact hu.scheduled
  · rw [alarm, alarmLoadFail_rec hi, map]
    simp only [mapLoadFail_frame, halarm]
    split_ifs <;> rfl
  · simp [alarm, halarm]
  · have dead (i : Nat) (hi : i < 512) : ((endLoad r u).map.cells.get i).source.live = false := by
      rw [cell i hi]
      by_cases hin : inside i
      · rw [failCell_inside hin]
        split_ifs <;> rfl
      · rw [failCell_outside hin, hu.cells i, hvoid i hi hin]
        rfl
    rw [hot, hotOf_empty dead]
    exact ⟨rfl, rfl⟩
  · rw [result]; exact told

end

end Sys2Proof.Machine
end

section
/-! The checks of cell and view records (R20, R21; for O18). -/

namespace Sys2Proof.Machine

/-! ### Cell records (R20) -/

section
variable {channels : Nat} {inUse : Nat → Bool} {used : List Nat} {w : W32}

theorem channelFree_field (n : Nat) :
    channelFree channels inUse used (channelField n) = true ↔ n = 255 ∨ (n < channels ∧ inUse n = true ∧ n ∉ used) := by
  unfold channelField
  split_ifs with h
  · simp [channelFree, h]
  · simp [channelFree, h, and_assoc]

theorem sameChannel_fields (a b : Nat) :
    sameChannel (channelField a) (channelField b) = true ↔ a = b ∧ a ≠ 255 := by
  unfold channelField
  split_ifs with ha hb hb <;> simp only [sameChannel, decide_eq_true_eq, Bool.false_eq_true, false_iff] <;> omega

theorem cellFields_eq (w : W32) :
    cellFields w = ⟨channelField (w.toNat % 256), channelField (w.toNat / 256 % 256), w.toNat / 65536⟩ := by
  have := w.isLt
  have limit : w.toNat / 65536 % 65536 = w.toNat / 65536 := Nat.mod_eq_of_lt (by omega)
  simp [cellFields, bits, limit]

/-- A cell record's limit is checked before its channels (R20, log entry 9). -/
theorem parseCell_checks (channels : Nat) (inUse : Nat → Bool) (used : List Nat) (w : W32) :
    parseCell channels inUse used w =
      if 15000 < w.toNat / 65536 then .bad .badFormat
      else if channelFree channels inUse used (cellFields w).chanA = true ∧
        channelFree channels inUse used (cellFields w).chanB = true ∧
        ¬sameChannel (cellFields w).chanA (cellFields w).chanB = true then .ok (cellFields w)
      else .bad .badReference := by
  have limit : within 0 15000 (cellFields w).limit = true ↔ ¬15000 < w.toNat / 65536 := by
    rw [within_iff, cellFields_eq]
    dsimp only
    omega
  unfold parseCell
  dsimp only
  split_ifs <;> simp_all

end

/-! ### View records (R21) -/

section
variable {cellOk : Nat → Bool} {before l : List Span} {used : List Nat}

/-- Spans that pass one after another pass together (R21). -/
theorem spansFault_none (h : ∀ k sp, l[k]? = some sp →
    spanFault cellOk (before ++ l.take k) (used ++ (l.take k).map Span.cell) sp = none) :
    spansFault cellOk before used l = none := by
  induction l generalizing before used with
  | nil => rfl
  | cons sp rest ih =>
    have first : spanFault cellOk before used sp = none := by simpa using h 0 sp rfl
    simp only [spansFault, first]
    exact ih fun k x hx => by simpa using h (k + 1) x (by simpa using hx)

/-- The first span that fails gives the result (R21). -/
theorem spansFault_some {k : Nat} {sp : Span} {r : LoadResult} (hk : l[k]? = some sp)
    (h : ∀ i x, i < k → l[i]? = some x →
      spanFault cellOk (before ++ l.take i) (used ++ (l.take i).map Span.cell) x = none)
    (hr : spanFault cellOk (before ++ l.take k) (used ++ (l.take k).map Span.cell) sp = some r) :
    spansFault cellOk before used l = some r := by
  induction l generalizing before used k with
  | nil => simp at hk
  | cons y rest ih =>
    cases k with
    | zero =>
      obtain rfl : y = sp := by simpa using hk
      have first : spanFault cellOk before used y = some r := by simpa using hr
      simp only [spansFault, first]
    | succ k =>
      have first : spanFault cellOk before used y = none := by simpa using h 0 y (by omega) rfl
      simp only [spansFault, first]
      refine ih (by simpa using hk) (fun i x hi hx => ?_) (by simpa using hr)
      simpa using h (i + 1) x (by omega) (by simpa using hx)

end

/-- A span's pixels lie in the line and in order (R21). -/
def Span.Shaped (sp : Span) : Prop := sp.first ≤ 63 ∧ sp.last ≤ 63 ∧ sp.first ≤ sp.last

/-- A span's cell is configured and not named before, and its pixels are not shared with an earlier span of the view (R21). -/
def Span.Referring (cellOk : Nat → Bool) (used : List Nat) (span : Nat → Span) (k : Nat) : Prop :=
  cellOk (span k).cell = true ∧ (span k).cell ∉ used ∧
    ∀ i < k, (span i).cell ≠ (span k).cell ∧ ((span k).last < (span i).first ∨ (span i).last < (span k).first)

section
variable {cellOk : Nat → Bool} {used : List Nat} {span : Nat → Span} {n k : Nat}

theorem spanFault_iff {before : List Span} {sp : Span} : spanFault cellOk before used sp = none ↔
    sp.Shaped ∧ cellOk sp.cell = true ∧ (∀ b ∈ before, sp.last < b.first ∨ b.last < sp.first) ∧ sp.cell ∉ used := by
  have shaped : (63 < sp.first || 63 < sp.last || sp.last < sp.first) = true ↔ ¬sp.Shaped := by
    unfold Span.Shaped
    simp only [Bool.or_eq_true, decide_eq_true_eq]
    omega
  have apart (b : Span) : sharePixel sp b = false ↔ sp.last < b.first ∨ b.last < sp.first := by
    simp only [sharePixel, Bool.and_eq_false_iff, decide_eq_false_iff_not]
    omega
  have refers : (!cellOk sp.cell || before.any (sharePixel sp) || used.contains sp.cell) = true ↔
      ¬(cellOk sp.cell = true ∧ (∀ b ∈ before, sp.last < b.first ∨ b.last < sp.first) ∧ sp.cell ∉ used) := by
    rw [← not_iff_not, not_not, Bool.not_eq_true]
    simp [apart, and_assoc]
  unfold spanFault
  split_ifs with h1 h2
  · simp [shaped.mp h1]
  · simp [refers.mp h2]
  · rw [shaped, not_not] at h1
    rw [refers, not_not] at h2
    simp only [h1, true_and]
    exact ⟨fun _ => h2, fun _ => trivial⟩

/-- The check of span `k` behind the spans before it (R21). -/
theorem spanFault_at : spanFault cellOk ((List.range k).map span) (used ++ ((List.range k).map span).map Span.cell)
    (span k) = none ↔ (span k).Shaped ∧ Span.Referring cellOk used span k := by
  rw [spanFault_iff, Span.Referring]
  simp only [List.mem_map, List.mem_range, List.map_map, List.mem_append, not_or, Function.comp_apply, not_exists,
    not_and, forall_exists_index, and_imp, forall_apply_eq_imp_iff₂]
  constructor
  · rintro ⟨shaped, ok, apart, fresh, named⟩
    exact ⟨shaped, ok, fresh, fun i hi => ⟨named i hi, apart i hi⟩⟩
  · rintro ⟨shaped, ok, fresh, others⟩
    exact ⟨shaped, ok, fun i hi => (others i hi).2, fresh, fun i hi => (others i hi).1⟩

/-- A span's pixels are checked before its references (R21, log entry 9). -/
theorem spanFault_shape {before : List Span} {sp : Span} (h : ¬sp.Shaped) :
    spanFault cellOk before used sp = some .badFormat := by
  have shaped : (63 < sp.first || 63 < sp.last || sp.last < sp.first) = true := by
    unfold Span.Shaped at h
    simp only [Bool.or_eq_true, decide_eq_true_eq]
    omega
  rw [spanFault, if_pos shaped]

theorem spanFault_refs {before : List Span} {sp : Span} (h : sp.Shaped)
    (hf : spanFault cellOk before used sp ≠ none) : spanFault cellOk before used sp = some .badReference := by
  obtain ⟨h1, h2, h3⟩ := h
  unfold spanFault at hf ⊢
  have shaped : ¬(63 < sp.first || 63 < sp.last || sp.last < sp.first) = true := by
    simp only [Bool.or_eq_true, decide_eq_true_eq]
    omega
  rw [if_neg shaped] at hf ⊢
  split_ifs at hf ⊢
  · rfl
  · exact absurd rfl hf

theorem take_map_range (hk : k < n) : ((List.range n).map span).take k = (List.range k).map span := by
  rw [← List.map_take, List.take_range, Nat.min_eq_left hk.le]

theorem getElem?_map_range {sp : Span} : ((List.range n).map span)[k]? = some sp ↔ k < n ∧ span k = sp := by
  rw [List.getElem?_map, Option.map_eq_some_iff]
  simp [List.getElem?_eq_some_iff]

/-- Every span passing, the spans pass (R21). -/
theorem spansFault_pass (h : ∀ k < n, (span k).Shaped ∧ Span.Referring cellOk used span k) :
    spansFault cellOk [] used ((List.range n).map span) = none := by
  refine spansFault_none fun k sp hk => ?_
  obtain ⟨hkn, rfl⟩ := getElem?_map_range.mp hk
  rw [take_map_range hkn]
  exact spanFault_at.mpr (h k hkn)

/-- The first span that fails gives the spans' result (R21). -/
theorem spansFault_first {r : LoadResult} (hk : k < n)
    (h : ∀ i < k, (span i).Shaped ∧ Span.Referring cellOk used span i)
    (hr : spanFault cellOk ((List.range k).map span) (used ++ ((List.range k).map span).map Span.cell) (span k) = some r) :
    spansFault cellOk [] used ((List.range n).map span) = some r := by
  refine spansFault_some (k := k) (getElem?_map_range.mpr ⟨hk, rfl⟩) (fun i x hi hx => ?_) ?_
  · obtain ⟨hin, rfl⟩ := getElem?_map_range.mp hx
    rw [take_map_range hin]
    exact spanFault_at.mpr (h i hi)
  · rw [take_map_range hk]
    exact hr

/-- A view record whose own fields pass is as its spans are (R21). -/
theorem parseView_inRange {ws : List W32} (hn : viewLength ws ≤ 16)
    (hlo : -1000 ≤ ((ws.getD 0 0).extractLsb' 0 16).toInt) (hhi : ((ws.getD 0 0).extractLsb' 0 16).toInt ≤ 1000) :
    (spansFault cellOk [] used (viewSpans ws) = none →
      parseView cellOk used ws = .ok (((ws.getD 0 0).extractLsb' 0 16).toInt, viewSpans ws)) ∧
    ∀ r, spansFault cellOk [] used (viewSpans ws) = some r → parseView cellOk used ws = .bad r := by
  have hc : signed16 (bits (wordAt ws 0) 0 16) = ((ws.getD 0 0).extractLsb' 0 16).toInt := signed16_bits_eq_extract _ _
  have passes : ¬(16 < viewLength ws || !within (-1000) 1000 (signed16 (bits (wordAt ws 0) 0 16))) = true := by
    rw [hc, within_iff.mpr ⟨hlo, hhi⟩]
    simpa using hn
  unfold parseView
  dsimp only
  rw [if_neg passes, hc]
  exact ⟨fun h => by rw [h], fun r h => by rw [h]⟩

theorem parseView_outside {ws : List W32} (h : 16 < viewLength ws ∨
      ((ws.getD 0 0).extractLsb' 0 16).toInt < -1000 ∨ 1000 < ((ws.getD 0 0).extractLsb' 0 16).toInt) :
    parseView cellOk used ws = .bad .badFormat := by
  have hc : signed16 (bits (wordAt ws 0) 0 16) = ((ws.getD 0 0).extractLsb' 0 16).toInt := signed16_bits_eq_extract _ _
  have fails : (16 < viewLength ws || !within (-1000) 1000 (signed16 (bits (wordAt ws 0) 0 16))) = true := by
    rw [hc]
    simp only [Bool.or_eq_true, Bool.not_eq_true', decide_eq_true_eq, ← Bool.not_eq_true, within_iff]
    omega
  unfold parseView
  dsimp only
  rw [if_pos fails]

theorem spanFields_eq (w : W32) : spanFields w = ⟨w.toNat % 256, w.toNat / 256 % 256, w.toNat / 65536⟩ := by
  have := w.isLt
  have cell : w.toNat / 65536 % 65536 = w.toNat / 65536 := Nat.mod_eq_of_lt (by omega)
  simp [spanFields, bits, cell]

theorem viewSpans_eq (ws : List W32) : viewSpans ws = (List.range (viewLength ws)).map fun k =>
    ⟨(ws.getD (1 + k) 0).toNat % 256, (ws.getD (1 + k) 0).toNat / 256 % 256, (ws.getD (1 + k) 0).toNat / 65536⟩ := by
  simp only [viewSpans, spanFields_eq]
  rfl

end

end Sys2Proof.Machine
end

section
/-! The records of a load's tables, taken one by one as their bursts arrive (O18), and the last of them (O19). -/

namespace Sys2Proof.Machine

section
variable {s t u : State} {c : RootCfg} {j j' : LoadJob} {r : LoadResult} {w0 w1 w2 w3 : W32}

/-! ### A burst and what it leaves to fetch (R17) -/

/-- The load goes on with this job, the burst at this address asked for, the state otherwise as `u` (R17). -/
def awaiting (s : State) (job : LoadJob) (addr : W32) (u : State) : State := { u with
  life := { s.life with load := some { job with addr := addr + 16 } }
  path := { s.path with memPort := none, lifeOut := s.path.lifeOut ++ [⟨.configFetch, addr, []⟩] } }

/-- `n` records have been taken out of a table of `total`: its next record, or the next table's first (R17). -/
def proceeding (s : State) (job : LoadJob) (rest : List W32) (n total : Nat) (st : Stage) (ptr : W32) (u : State) : State :=
  if job.index + n < total then awaiting s { job with index := job.index + n, words := rest } job.addr u
  else awaiting s { job with stage := st, index := 0, words := [] } ptr u

theorem continueLoad_awaiting (hl : u.life = s.life) (hp : u.path = (freePort s).path) (j : LoadJob) :
    continueLoad j u = awaiting s j j.addr u := by
  cases u
  cases hl
  cases hp
  rfl

/-- Words that do not hold a complete record of their table (R183). -/
def Partial (st : Stage) (ws : List W32) : Prop := ∀ n, recordWordsOf st ws = some n → ws.length < n

/-- A record that passes, with another of its table to come behind it (R17). -/
theorem takeRecords_within {n : Nat} (hn : recordWordsOf j.stage j.words = some n) (hlen : n ≤ j.words.length)
    (ht : takeRecord (j.words.take n) j u = .written j' t) (hp : t.life.pendingCfg = some c)
    (hi : j.index + 1 < stageRecords c t j.stage) (fuel : Nat) :
    takeRecords (fuel + 1) j u = takeRecords fuel { j' with index := j.index + 1, words := j.words.drop n } t := by
  obtain ⟨-, hstage, hindex⟩ := (takeRecord_written ht).job
  refine takeRecords_taken hn hlen ht ?_ fuel
  rw [afterRecord_within hp (by rw [hstage, hindex]; exact hi), hindex]

/-- The last record of a table that passes, with another table behind it (R17). -/
theorem takeRecords_beyond {n : Nat} {st : Stage} {ptr : W32} (hn : recordWordsOf j.stage j.words = some n)
    (hlen : n ≤ j.words.length) (ht : takeRecord (j.words.take n) j u = .written j' t) (hp : t.life.pendingCfg = some c)
    (hi : stageRecords c t j.stage ≤ j.index + 1) (hst : nextStage c j.stage = some (st, ptr)) (fuel : Nat) :
    takeRecords (fuel + 1) j u = continueLoad { j' with stage := st, addr := ptr, index := 0, words := [] } t := by
  obtain ⟨-, hstage, hindex⟩ := (takeRecord_written ht).job
  rw [takeRecords_taken hn hlen ht (by rw [afterRecord_beyond hp (by rw [hstage, hindex]; exact hi), hstage, hst]; rfl),
    takeRecords_empty rfl]

/-- A record that passes, no complete one of its table behind it (R17). -/
theorem takeRecords_proceeds {n total : Nat} {st : Stage} {ptr : W32} (hn : recordWordsOf j.stage j.words = some n)
    (hlen : n ≤ j.words.length) (ht : takeRecord (j.words.take n) j u = .written j' t)
    (hl : t.life = s.life) (hpath : t.path = (freePort s).path) (hp : s.life.pendingCfg = some c)
    (htotal : stageRecords c t j.stage = total) (hst : total ≤ j.index + 1 → nextStage c j.stage = some (st, ptr))
    (hrest : j.index + 1 < total → Partial j.stage (j.words.drop n)) (fuel : Nat) :
    takeRecords (fuel + 1) j u = proceeding s j' (j.words.drop n) 1 total st ptr t := by
  obtain ⟨-, hstage, hindex⟩ := (takeRecord_written ht).job
  unfold proceeding
  rw [hindex]
  split_ifs with hi
  · rw [takeRecords_within hn hlen ht (hl ▸ hp) (htotal ▸ hi), takeRecords_short, continueLoad_awaiting hl hpath]
    rw [hstage]
    exact hrest hi
  · rw [takeRecords_beyond hn hlen ht (hl ▸ hp) (htotal ▸ not_lt.mp hi) (hst (not_lt.mp hi)), continueLoad_awaiting hl hpath]
    rfl

/-! ### The end of a reload at a record that fails (R22, R23) -/

/-- A reload that has ended with this result leaves the channels, curves and views, and the configuration parts of cells
and passes, as the records before its end have written them (R22). -/
structure Recovered (r : LoadResult) (u t : State) : Prop where
  result : t.life.lastResult = r
  load : t.life.load = none
  view : t.view = u.view
  conv : t.conv = u.conv
  cells : ∀ i < 512, (t.map.cells.get i).cfg = (u.map.cells.get i).cfg
  passes : ∀ p < 8, (t.map.passes.get p).cfg = (u.map.passes.get p).cfg

theorem endLoad_recovered (hr : r ≠ .ok) (hl : u.life.load = some j) (hk : j.kind = .reload) :
    Recovered r u (endLoad r u) := by
  obtain ⟨life, -, -, -, reload⟩ := endLoad_failed hr hl
  obtain ⟨conv, view, map⟩ := reload hk
  refine ⟨by rw [life], by rw [life], view, conv, fun i hi => ?_, fun p hp => ?_⟩
  · rw [map, mapLoadFail_cell hi, failCell_cfg]
  · rw [map, mapLoadFail_pass hp]
    split_ifs <;> rfl

/-- A burst whose first record fails ends a reload, and leaves what the tables hold (R22, R23). -/
theorem fetched_fails {n : Nat} (h : onPortKind s .configFetch) (hl : s.life.load = some j) (hk : j.kind = .reload)
    (hn : recordWordsOf j.stage (j.words ++ [w0, w1, w2, w3]) = some n)
    (hlen : n ≤ (j.words ++ [w0, w1, w2, w3]).length)
    (ht : takeRecord ((j.words ++ [w0, w1, w2, w3]).take n) { j with words := j.words ++ [w0, w1, w2, w3] } (freePort s) =
      .failed r) : ∃ t, exec (.configFetchComplete (.words w0 w1 w2 w3)) s = .next t ∧ Recovered r s t := by
  refine ⟨_, configFetchComplete_of h, ?_⟩
  rw [configFetched_words (s := freePort s) hl, takeRecords_failed hn hlen ht]
  obtain ⟨result, load, view, conv, cells, passes⟩ := endLoad_recovered (u := freePort s) (takeRecord_failed ht) hl hk
  exact ⟨result, load, view, conv, cells, passes⟩

/-- A burst whose first record passes, no complete one of its table behind it (R17, R22). -/
theorem fetched_proceeds {n total : Nat} {st : Stage} {ptr : W32} (h : onPortKind s .configFetch)
    (hl : s.life.load = some j) (hp : s.life.pendingCfg = some c)
    (hn : recordWordsOf j.stage (j.words ++ [w0, w1, w2, w3]) = some n)
    (hlen : n ≤ (j.words ++ [w0, w1, w2, w3]).length)
    (ht : takeRecord ((j.words ++ [w0, w1, w2, w3]).take n) { j with words := j.words ++ [w0, w1, w2, w3] } (freePort s) =
      .written j' t)
    (hlife : t.life = s.life) (hpath : t.path = (freePort s).path) (htotal : stageRecords c t j.stage = total)
    (hst : total ≤ j.index + 1 → nextStage c j.stage = some (st, ptr))
    (hrest : j.index + 1 < total → Partial j.stage ((j.words ++ [w0, w1, w2, w3]).drop n)) :
    exec (.configFetchComplete (.words w0 w1 w2 w3)) s =
      .next (proceeding s j' ((j.words ++ [w0, w1, w2, w3]).drop n) 1 total st ptr t) := by
  rw [configFetchComplete_of h, configFetched_words (s := freePort s) hl]
  exact congrArg _ (takeRecords_proceeds hn hlen ht hlife hpath hp htotal hst hrest _)

/-! ### What each table's record does (R19 to R22) -/

theorem takeRecord_pass {ws : List W32} {x : PassCfg} (hst : j.stage = .pass) (hx : parsePass ws = some x) :
    takeRecord ws j u = .written j { u with
      map := { u.map with passes := u.map.passes.set j.index { u.map.passes.get j.index with cfg := x } } } := by
  simp only [takeRecord, hst, takePass, hx]
  rfl

theorem takeRecord_channel {ws : List W32} {x : ChannelCfg} (hst : j.stage = .channel)
    (hp : u.life.pendingCfg = some c) (hx : parseChannel c.curveCount ws = .ok x) :
    takeRecord ws j u = .written j { u with conv := { u.conv with
      channels := u.conv.channels.set j.index { u.conv.channels.get j.index with cfg := x } } } := by
  simp only [takeRecord, hst, takeChannel, hp, Option.getD_some, hx]
  rfl

theorem takeRecord_curve {ws : List W32} {x : List Breakpoint} (hst : j.stage = .curve) (hx : parseCurve ws = .ok x) :
    takeRecord ws j u = .written j { u with conv := { u.conv with curves := u.conv.curves.set j.index x } } := by
  simp only [takeRecord, hst, takeCurve, hx]

theorem takeRecord_cell {ws : List W32} {x : CellCfg} (hst : j.stage = .cell) (hp : u.life.pendingCfg = some c)
    (hx : parseCell (c.scannerCount * 16) (fun n => (u.conv.channels.get n).cfg.inUse) j.usedChannels (wordAt ws 0) =
      .ok x) :
    takeRecord ws j u = .written { j with usedChannels := j.usedChannels ++ namedChannels x }
      (withCells (u.map.cells.modify ((configuredCells c u).getD j.index 0) fun old => { old with cfg := x }) u) := by
  simp only [takeRecord, hst, takeCell, hp, Option.getD_some, hx]

theorem takeRecord_view {ws : List W32} {x : Int × List Span} (hst : j.stage = .view) (hp : u.life.pendingCfg = some c)
    (hx : parseView (cellConfigured c u) j.usedCells ws = .ok x) :
    takeRecord ws j u = .written { j with usedCells := j.usedCells ++ x.2.map Span.cell }
      (withViews (u.view.views.modify j.index fun v => { v with correction := x.1, spans := x.2 }) u) := by
  simp only [takeRecord, hst, takeView, hp, Option.getD_some, hx]

/-! A record that fails (R19 to R21). -/

theorem takeRecord_badPass {ws : List W32} (hst : j.stage = .pass) (hx : parsePass ws = none) :
    takeRecord ws j u = .failed .badFormat := by
  simp only [takeRecord, hst, takePass, hx]

theorem takeRecord_badChannel {ws : List W32} (hst : j.stage = .channel) (hp : u.life.pendingCfg = some c)
    (hx : parseChannel c.curveCount ws = .bad r) : takeRecord ws j u = .failed r := by
  simp only [takeRecord, hst, takeChannel, hp, Option.getD_some, hx]

theorem takeRecord_badCurve {ws : List W32} (hst : j.stage = .curve) (hx : parseCurve ws = .bad r) :
    takeRecord ws j u = .failed r := by
  simp only [takeRecord, hst, takeCurve, hx]

theorem takeRecord_badCell {ws : List W32} (hst : j.stage = .cell) (hp : u.life.pendingCfg = some c)
    (hx : parseCell (c.scannerCount * 16) (fun n => (u.conv.channels.get n).cfg.inUse) j.usedChannels (wordAt ws 0) =
      .bad r) : takeRecord ws j u = .failed r := by
  simp only [takeRecord, hst, takeCell, hp, Option.getD_some, hx]

theorem takeRecord_badView {ws : List W32} (hst : j.stage = .view) (hp : u.life.pendingCfg = some c)
    (hx : parseView (cellConfigured c u) j.usedCells ws = .bad r) : takeRecord ws j u = .failed r := by
  simp only [takeRecord, hst, takeView, hp, Option.getD_some, hx]

/-! ### The cells of the cell table (R20) -/

theorem mem_configuredCells {i : Nat} : i ∈ configuredCells c s ↔
    ∃ p < c.passCount, ∃ k < (passAt s p).cfg.cellCount, cellAt p k = i := by
  simp [configuredCells, List.mem_flatMap]

/-- The cell table names cells of the map, each once (R20). -/
theorem configuredCells_distinct (h : s.Configured) (hp : s.life.pendingCfg = some c) :
    (configuredCells c s).Nodup ∧ ∀ i ∈ configuredCells c s, i < 512 := by
  obtain ⟨legal, -⟩ := h.pending c hp
  obtain ⟨-, passes⟩ := legal.passes
  have few (p : Nat) (hp : p < c.passCount) : (passAt s p).cfg.cellCount ≤ 64 := (h.cells p (by omega)).1
  constructor
  · rw [configuredCells, List.nodup_flatMap]
    constructor
    · intro p _
      exact List.nodup_range.map fun a b hab => by simpa [cellAt] using hab
    · refine List.nodup_range.pairwise_of_forall_ne fun p hp q hq hne => ?_
      rw [Function.onFun, List.disjoint_left]
      simp only [List.mem_map, List.mem_range, not_exists, not_and, forall_exists_index, and_imp]
      rintro i k hk rfl m hm he
      have := few p (List.mem_range.mp hp)
      have := few q (List.mem_range.mp hq)
      unfold cellAt at he
      omega
  · intro i hi
    obtain ⟨p, hp, k, hk, rfl⟩ := mem_configuredCells.mp hi
    have := few p hp
    unfold cellAt
    omega

/-- The configuration parts of cell records written one after another, from entry `i` of the cell table on (R22). -/
def cellsWritten (cells : List Nat) : Nat → List CellCfg → Table Cell 512 → Table Cell 512
  | _, [], t => t
  | i, x :: xs, t => cellsWritten cells (i + 1) xs (t.modify (cells.getD i 0) fun old => { old with cfg := x })

theorem cellsWritten_other {cells : List Nat} {m : Nat} (xs : List CellCfg) :
    ∀ (i : Nat) (t : Table Cell 512), (∀ k < xs.length, m ≠ cells.getD (i + k) 0) →
      (cellsWritten cells i xs t).get m = t.get m := by
  induction xs with
  | nil => exact fun _ _ _ => rfl
  | cons x xs ih =>
    intro i t h
    have first : m ≠ cells.getD i 0 := h 0 (by simp)
    rw [cellsWritten, ih (i + 1) _ fun k hk => by rw [Nat.add_assoc, Nat.add_comm 1]; exact h (k + 1) (by simpa using hk)]
    rw [Table.get_modify, if_neg fun he => first he.1]

/-- Each record's cell has its configuration part, all else of it kept (R22). -/
theorem cellsWritten_at {cells : List Nat} (distinct : cells.Nodup ∧ ∀ m ∈ cells, m < 512) (xs : List CellCfg) :
    ∀ (i : Nat) (t : Table Cell 512) (k : Nat) (x : CellCfg), i + xs.length ≤ cells.length → xs[k]? = some x →
      (cellsWritten cells i xs t).get (cells.getD (i + k) 0) = { t.get (cells.getD (i + k) 0) with cfg := x } := by
  have apart {a b : Nat} (ha : a < cells.length) (hb : b < cells.length) (hne : a ≠ b) :
      cells.getD a 0 ≠ cells.getD b 0 := by
    rw [List.getD_eq_getElem _ _ ha, List.getD_eq_getElem _ _ hb]
    exact fun he => hne ((distinct.1.getElem_inj_iff).mp he)
  induction xs with
  | nil => simp
  | cons y xs ih =>
    intro i t k x hlen hx
    rw [List.length_cons] at hlen
    cases k with
    | zero =>
      obtain rfl : y = x := by simpa using hx
      have inTable : cells.getD i 0 < 512 := by
        rw [List.getD_eq_getElem _ _ (by omega)]
        exact distinct.2 _ (List.getElem_mem _)
      rw [cellsWritten, Nat.add_zero, cellsWritten_other xs _ _ fun k hk => apart (by omega) (by omega) (by omega),
        Table.get_modify, if_pos ⟨rfl, inTable⟩]
      rfl
    | succ k =>
      have hk : k < xs.length := (List.getElem?_eq_some_iff.mp (by simpa using hx)).1
      have next := ih (i + 1) (t.modify (cells.getD i 0) fun old => { old with cfg := y }) k x (by omega)
        (by simpa using hx)
      have hik : i + 1 + k = i + (k + 1) := by omega
      rw [hik] at next
      rw [cellsWritten, next, Table.get_modify, if_neg fun he => apart (by omega) (by omega) (by omega) he.1]

/-- The load's progress behind a cell record that passed (R20). -/
def behindCell (x : CellCfg) (j : LoadJob) : LoadJob :=
  { j with index := j.index + 1, words := j.words.drop 1, usedChannels := j.usedChannels ++ namedChannels x }

/-- Cell records that pass, with another of their table to come behind the last of them (R17, R20, R22). -/
theorem takeRecords_cells (xs : List CellCfg) : ∀ {j : LoadJob} {u : State}, j.stage = .cell →
    u.life.pendingCfg = some c → xs.length ≤ j.words.length → xs = [] ∨ j.index + xs.length < (configuredCells c u).length →
    (∀ k x, xs[k]? = some x → parseCell (c.scannerCount * 16) (fun n => (u.conv.channels.get n).cfg.inUse)
      (j.usedChannels ++ (xs.take k).flatMap namedChannels) (j.words.getD k 0) = .ok x) → ∀ fuel,
    takeRecords (fuel + xs.length) j u = takeRecords fuel
      { j with
        index := j.index + xs.length, words := j.words.drop xs.length
        usedChannels := j.usedChannels ++ xs.flatMap namedChannels }
      (withCells (cellsWritten (configuredCells c u) j.index xs u.map.cells) u) := by
  induction xs with
  | nil =>
    intro j u _ _ _ _ _ fuel
    simp only [List.flatMap_nil, List.append_nil]
    rfl
  | cons x xs ih =>
    intro j u hst hp hlen hi hparse fuel
    have more : j.index + (xs.length + 1) < (configuredCells c u).length := by simpa using hi
    have first : takeRecord (j.words.take 1) j u = _ := takeRecord_cell hst hp (x := x) (by
      have h0 := hparse 0 x rfl
      simpa [wordAt, List.getElem?_take] using h0)
    rw [List.length_cons] at hlen
    have one : takeRecords (fuel + xs.length + 1) j u = takeRecords (fuel + xs.length) (behindCell x j)
        (withCells (u.map.cells.modify ((configuredCells c u).getD j.index 0) fun old => { old with cfg := x }) u) :=
      takeRecords_within (n := 1) (by rw [hst]; rfl) (by omega) first hp
        (by rw [hst]; exact lt_of_le_of_lt (by omega) more) _
    have rest := ih (j := behindCell x j)
      (u := withCells (u.map.cells.modify ((configuredCells c u).getD j.index 0) fun old => { old with cfg := x }) u)
      hst hp (by simp only [behindCell, List.length_drop]; omega)
      (.inr (lt_of_eq_of_lt (by simp only [behindCell]; omega) more)) (fun k y hy => ?_) fuel
    · rw [List.length_cons, ← Nat.add_assoc, one, rest]
      simp only [behindCell, List.drop_drop, List.flatMap_cons, List.append_assoc, Nat.add_assoc,
        Nat.add_comm 1 xs.length]
      rfl
    · have next := hparse (k + 1) y (by simpa using hy)
      simpa [behindCell, List.getElem?_drop, Nat.add_comm] using next

end

end Sys2Proof.Machine
end

section
/-! The bursts of the five tables below the root, and every check and write of their records (O18). -/

namespace Sys2Proof.Machine

section
variable {s t u : State} {c : RootCfg} {j j' : LoadJob} {r : LoadResult} {w0 w1 w2 w3 : W32}

/-! ### Bursts that complete no record (R17) -/

theorem curveWords_eq (ws : List W32) : curveWords ws = 2 + 2 * ((ws.getD 0 0).toNat % 256) := by
  simp only [curveWords, curveLength, bits, wordAt, Nat.pow_zero, Nat.div_one, Nat.reducePow]

theorem viewWords_eq (ws : List W32) : viewWords ws = 1 + (ws.getD 0 0).toNat / 65536 % 256 := by
  simp only [viewWords, viewLength, bits, wordAt, Nat.reducePow]

theorem partial_of_table {st : Stage} {ws : List W32} (h : st = .pass ∧ ws.length < 8 ∨
      st = .curve ∧ ws.length < 2 + 2 * ((ws.getD 0 0).toNat % 256) ∨
      st = .view ∧ ws.length < 1 + (ws.getD 0 0).toNat / 65536 % 256) : Partial st ws := by
  intro n hn
  obtain ⟨rfl, hlen⟩ | ⟨rfl, hlen⟩ | ⟨rfl, hlen⟩ := h
  · obtain rfl : 8 = n := by simpa [recordWordsOf] using hn
    exact hlen
  all_goals
    simp only [recordWordsOf] at hn
    split_ifs at hn
    rw [← Option.some.inj hn]
    simpa only [curveWords_eq, viewWords_eq] using hlen

theorem partial_nil (st : Stage) : Partial st [] := fun _ hn => recordWordsOf_pos hn

/-- Words of the curve or view table behind a record: none, or too few for another record (R183). -/
theorem partial_rest {rest : List W32} :
    (rest = [] ∨ rest.length < 2 + 2 * ((rest.getD 0 0).toNat % 256) → Partial .curve rest) ∧
      (rest = [] ∨ rest.length < 1 + (rest.getD 0 0).toNat / 65536 % 256 → Partial .view rest) := by
  constructor
  · rintro (rfl | h)
    · exact partial_nil _
    · exact partial_of_table (.inr (.inl ⟨rfl, h⟩))
  · rintro (rfl | h)
    · exact partial_nil _
    · exact partial_of_table (.inr (.inr ⟨rfl, h⟩))

theorem fetched_partial (h : onPortKind s .configFetch) (hl : s.life.load = some j)
    (hw : Partial j.stage (j.words ++ [w0, w1, w2, w3])) : exec (.configFetchComplete (.words w0 w1 w2 w3)) s =
      .next (awaiting s { j with words := j.words ++ [w0, w1, w2, w3] } j.addr s) := by
  rw [configFetchComplete_of h, configFetched_words (s := freePort s) hl, takeRecords_short (by exact hw),
    continueLoad_awaiting (s := s) (u := freePort s) rfl rfl]
  rfl

/-- A burst is never empty, so a curve's or a view's own count has arrived with it (R183, log entry 8). -/
theorem recordWordsOf_burst (ws : List W32) :
    recordWordsOf .curve (ws ++ [w0, w1, w2, w3]) = some (curveWords (ws ++ [w0, w1, w2, w3])) ∧
      recordWordsOf .view (ws ++ [w0, w1, w2, w3]) = some (viewWords (ws ++ [w0, w1, w2, w3])) := by
  simp [recordWordsOf]

/-! ### Bursts of pass records (R19) -/

/-- A pass record complete: the last burst brings its eight words (R19). -/
theorem fetched_pass (h : onPortKind s .configFetch) (hl : s.life.load = some j) (hp : s.life.pendingCfg = some c)
    (hst : j.stage = .pass) (hlen : (j.words ++ [w0, w1, w2, w3]).length = 8) {x : PassCfg}
    (hx : parsePass (j.words ++ [w0, w1, w2, w3]) = some x) :
    exec (.configFetchComplete (.words w0 w1 w2 w3)) s = .next (proceeding s j [] 1 c.passCount .channel c.channelPtr { s with
      map := { s.map with passes := s.map.passes.set j.index { s.map.passes.get j.index with cfg := x } } }) := by
  have whole : (j.words ++ [w0, w1, w2, w3]).take 8 = j.words ++ [w0, w1, w2, w3] := List.take_of_length_le hlen.le
  have none_left : (j.words ++ [w0, w1, w2, w3]).drop 8 = [] := List.drop_eq_nil_of_le hlen.le
  rw [fetched_proceeds h hl hp (n := 8) (total := c.passCount) (st := .channel) (ptr := c.channelPtr) (by rw [hst]; rfl)
    hlen.ge (takeRecord_pass hst (by rw [whole]; exact hx)) rfl rfl (by rw [hst]; rfl) (fun _ => by rw [hst]; rfl)
    (fun _ => by rw [none_left]; exact partial_nil _), none_left]
  rfl

theorem fetched_badPass (h : onPortKind s .configFetch) (hl : s.life.load = some j) (hk : j.kind = .reload)
    (hst : j.stage = .pass) (hlen : (j.words ++ [w0, w1, w2, w3]).length = 8)
    (hx : parsePass (j.words ++ [w0, w1, w2, w3]) = none) :
    ∃ t, exec (.configFetchComplete (.words w0 w1 w2 w3)) s = .next t ∧ Recovered .badFormat s t := by
  have whole : (j.words ++ [w0, w1, w2, w3]).take 8 = j.words ++ [w0, w1, w2, w3] := List.take_of_length_le hlen.le
  exact fetched_fails h hl hk (n := 8) (by rw [hst]; rfl) hlen.ge (takeRecord_badPass hst (by rw [whole]; exact hx))

/-! ### Bursts of curves and view records (R19, R21) -/

/-- A curve complete, no other complete behind it (R19, log entry 8). -/
theorem fetched_curve (h : onPortKind s .configFetch) (hl : s.life.load = some j) (hp : s.life.pendingCfg = some c)
    (hst : j.stage = .curve) {n : Nat} (hn : curveWords (j.words ++ [w0, w1, w2, w3]) = n)
    (hlen : n ≤ (j.words ++ [w0, w1, w2, w3]).length) {x : List Breakpoint}
    (hx : parseCurve ((j.words ++ [w0, w1, w2, w3]).take n) = .ok x)
    (hrest : j.index + 1 < c.curveCount → Partial .curve ((j.words ++ [w0, w1, w2, w3]).drop n)) :
    exec (.configFetchComplete (.words w0 w1 w2 w3)) s =
      .next (proceeding s j ((j.words ++ [w0, w1, w2, w3]).drop n) 1 c.curveCount .cell c.cellPtr { s with
        conv := { s.conv with curves := s.conv.curves.set j.index x } }) := by
  rw [fetched_proceeds h hl hp (n := n) (total := c.curveCount) (st := .cell) (ptr := c.cellPtr)
    (by rw [hst, (recordWordsOf_burst _).1, hn]) hlen (takeRecord_curve hst hx) rfl rfl (by rw [hst]; rfl)
    (fun _ => by rw [hst]; rfl) (by rw [hst]; exact hrest)]
  rfl

theorem fetched_badCurve (h : onPortKind s .configFetch) (hl : s.life.load = some j) (hk : j.kind = .reload)
    (hst : j.stage = .curve) {n : Nat} (hn : curveWords (j.words ++ [w0, w1, w2, w3]) = n)
    (hlen : n ≤ (j.words ++ [w0, w1, w2, w3]).length)
    (hx : parseCurve ((j.words ++ [w0, w1, w2, w3]).take n) = .bad r) :
    ∃ t, exec (.configFetchComplete (.words w0 w1 w2 w3)) s = .next t ∧ Recovered r s t :=
  fetched_fails h hl hk (n := n) (by rw [hst, (recordWordsOf_burst _).1, hn]) hlen (takeRecord_badCurve hst hx)

/-- A view record complete, another of its table to come, but none complete behind it (R21, log entry 8). -/
theorem fetched_view (h : onPortKind s .configFetch) (hl : s.life.load = some j) (hp : s.life.pendingCfg = some c)
    (hst : j.stage = .view) {n : Nat} (hn : viewWords (j.words ++ [w0, w1, w2, w3]) = n)
    (hlen : n ≤ (j.words ++ [w0, w1, w2, w3]).length) {x : Int × List Span}
    (hx : parseView (cellConfigured c s) j.usedCells ((j.words ++ [w0, w1, w2, w3]).take n) = .ok x)
    (hi : j.index + 1 < c.viewCount) (hrest : Partial .view ((j.words ++ [w0, w1, w2, w3]).drop n)) :
    exec (.configFetchComplete (.words w0 w1 w2 w3)) s = .next (awaiting s
      { j with
        index := j.index + 1, words := (j.words ++ [w0, w1, w2, w3]).drop n
        usedCells := j.usedCells ++ x.2.map Span.cell } j.addr { s with
      view := { s.view with
        views := s.view.views.set j.index { s.view.views.get j.index with correction := x.1, spans := x.2 } } }) := by
  rw [fetched_proceeds h hl hp (n := n) (total := c.viewCount) (st := .view) (ptr := c.viewPtr)
    (by rw [hst, (recordWordsOf_burst _).2, hn]) hlen (takeRecord_view (c := c) hst hp hx) rfl rfl (by rw [hst]; rfl)
    (fun hend => absurd hi (by omega)) (fun _ => by rw [hst]; exact hrest), proceeding, if_pos (by exact hi)]
  rfl

theorem fetched_badView (h : onPortKind s .configFetch) (hl : s.life.load = some j) (hp : s.life.pendingCfg = some c)
    (hk : j.kind = .reload) (hst : j.stage = .view) {n : Nat} (hn : viewWords (j.words ++ [w0, w1, w2, w3]) = n)
    (hlen : n ≤ (j.words ++ [w0, w1, w2, w3]).length)
    (hx : parseView (cellConfigured c s) j.usedCells ((j.words ++ [w0, w1, w2, w3]).take n) = .bad r) :
    ∃ t, exec (.configFetchComplete (.words w0 w1 w2 w3)) s = .next t ∧ Recovered r s t :=
  fetched_fails h hl hk (n := n) (by rw [hst, (recordWordsOf_burst _).2, hn]) hlen
    (takeRecord_badView (c := c) hst hp hx)

/-! ### A burst of two channel records (R19) -/

section
variable {x y : ChannelCfg}

/-- The two records of a burst of the channel table, the first passing (R17, R19). -/
theorem fetched_channel (h : onPortKind s .configFetch) (hl : s.life.load = some j) (hp : s.life.pendingCfg = some c)
    (hst : j.stage = .channel) (hw : j.words = []) (hi : j.index + 1 < c.scannerCount * 16)
    (hx : parseChannel c.curveCount [w0, w1] = .ok x) :
    exec (.configFetchComplete (.words w0 w1 w2 w3)) s = .next (takeRecords 4
      { j with index := j.index + 1, words := [w2, w3] }
      { freePort s with conv := { s.conv with
        channels := s.conv.channels.set j.index { s.conv.channels.get j.index with cfg := x } } }) := by
  rw [configFetchComplete_of h, configFetched_words (s := freePort s) hl, hw]
  refine congrArg _ ?_
  have first := takeRecord_channel (j := { j with words := [w0, w1, w2, w3] }) (u := freePort s) (ws := [w0, w1]) hst hp hx
  exact takeRecords_within (n := 2) (by rw [hst]; rfl) (by simp) first hp (by rw [hst]; exact hi) 4

/-- Both records of a burst of the channel table pass (R17, R19, R22). -/
theorem fetched_channels (h : onPortKind s .configFetch) (hl : s.life.load = some j) (hp : s.life.pendingCfg = some c)
    (hst : j.stage = .channel) (hw : j.words = []) (hi : j.index + 1 < c.scannerCount * 16)
    (hx : parseChannel c.curveCount [w0, w1] = .ok x) (hy : parseChannel c.curveCount [w2, w3] = .ok y) :
    exec (.configFetchComplete (.words w0 w1 w2 w3)) s = .next (proceeding s j [] 2 (c.scannerCount * 16) .curve c.curvePtr
      { s with conv := { s.conv with
        channels := (s.conv.channels.set j.index { s.conv.channels.get j.index with cfg := x }).set (j.index + 1)
          { s.conv.channels.get (j.index + 1) with cfg := y } } }) := by
  have second := takeRecord_channel (j := { j with index := j.index + 1, words := [w2, w3] }) (ws := [w2, w3])
    (u := { freePort s with conv := { s.conv with
      channels := s.conv.channels.set j.index { s.conv.channels.get j.index with cfg := x } } }) hst hp hy
  have apart : (s.conv.channels.set j.index { s.conv.channels.get j.index with cfg := x }).get (j.index + 1) =
      s.conv.channels.get (j.index + 1) := Table.get_set_ne (by omega)
  simp only [apart] at second
  rw [fetched_channel h hl hp hst hw hi hx, takeRecords_proceeds (s := s) (n := 2) (total := c.scannerCount * 16)
    (st := .curve) (ptr := c.curvePtr) (by rw [hst]; rfl) le_rfl second rfl rfl hp (by simp only [hst]; rfl)
    (fun _ => by simp only [hst]; rfl) (fun _ => partial_nil _)]
  rfl

/-- The second record of a burst fails in a reload: the first is written (R22, R23). -/
theorem fetched_badSecond (h : onPortKind s .configFetch) (hl : s.life.load = some j) (hp : s.life.pendingCfg = some c)
    (hk : j.kind = .reload) (hst : j.stage = .channel) (hw : j.words = []) (hi : j.index + 1 < c.scannerCount * 16)
    (hx : parseChannel c.curveCount [w0, w1] = .ok x) (hr : parseChannel c.curveCount [w2, w3] = .bad r) :
    ∃ t, exec (.configFetchComplete (.words w0 w1 w2 w3)) s = .next t ∧ Recovered r { freePort s with
      conv := { s.conv with
        channels := s.conv.channels.set j.index { s.conv.channels.get j.index with cfg := x } } } t := by
  have failed := takeRecord_badChannel (j := { j with index := j.index + 1, words := [w2, w3] }) (ws := [w2, w3])
    (u := { freePort s with conv := { s.conv with
      channels := s.conv.channels.set j.index { s.conv.channels.get j.index with cfg := x } } }) hst hp hr
  refine ⟨_, fetched_channel h hl hp hst hw hi hx, ?_⟩
  rw [takeRecords_failed (n := 2) (by rw [hst]; rfl) le_rfl failed]
  exact endLoad_recovered (takeRecord_failed failed) hl hk

end

/-! ### Bursts of cell records (R20) -/

section
variable {xs : List CellCfg}

/-- Cell record `k` of a burst, the records `xs` before it having passed, is the parse of its word (R20). -/
def cellChecked (c : RootCfg) (j : LoadJob) (s : State) (xs : List CellCfg) (k : Nat) (w : W32) : Checked CellCfg :=
  parseCell (c.scannerCount * 16) (fun n => (s.conv.channels.get n).cfg.inUse)
    (j.usedChannels ++ (xs.take k).flatMap namedChannels) w

/-- The cells behind the records `xs` of a burst (R22). -/
def withCellRecords (c : RootCfg) (j : LoadJob) (xs : List CellCfg) (s : State) : State :=
  withCells (cellsWritten (configuredCells c s) j.index xs s.map.cells) s

/-- The load's progress behind the records `xs` of a burst of the cell table. -/
def behindCells (ws : List W32) (xs : List CellCfg) (j : LoadJob) : LoadJob :=
  { j with
    index := j.index + xs.length, words := ws.drop xs.length
    usedChannels := j.usedChannels ++ xs.flatMap namedChannels }

/-- A burst of the cell table behind records that pass, with another of the table to come (R17, R20). -/
theorem fetched_cells (h : onPortKind s .configFetch) (hl : s.life.load = some j) (hp : s.life.pendingCfg = some c)
    (hst : j.stage = .cell) (hw : j.words = []) (hlen : xs.length < 4)
    (hi : xs = [] ∨ j.index + xs.length < (configuredCells c s).length)
    (hparse : ∀ k x, xs[k]? = some x → cellChecked c j s xs k ([w0, w1, w2, w3].getD k 0) = .ok x) :
    exec (.configFetchComplete (.words w0 w1 w2 w3)) s = .next (takeRecords (4 - xs.length + 1)
      (behindCells [w0, w1, w2, w3] xs j) (withCellRecords c j xs (freePort s))) := by
  rw [configFetchComplete_of h, configFetched_words (s := freePort s) hl, hw]
  have fuel : ([] : List W32).length + 5 = 4 - xs.length + 1 + xs.length := by rw [List.length_nil]; omega
  refine congrArg _ ?_
  rw [fuel]
  exact takeRecords_cells (j := { j with words := [w0, w1, w2, w3] }) (u := freePort s) xs hst hp (by simp; omega) hi hparse _

theorem cellsWritten_concat (cells : List Nat) (x : CellCfg) (ys : List CellCfg) : ∀ (i : Nat) (t : Table Cell 512),
    cellsWritten cells i (ys ++ [x]) t =
      (cellsWritten cells i ys t).modify (cells.getD (i + ys.length) 0) fun old => { old with cfg := x } := by
  induction ys with
  | nil => exact fun _ _ => rfl
  | cons y ys ih =>
    intro i t
    rw [List.cons_append, cellsWritten, ih, cellsWritten, List.length_cons, Nat.add_assoc, Nat.add_comm 1]

/-- The last record of a burst's cell records, as it is taken (R20, R22). -/
theorem takeRecord_cellBehind {ys : List CellCfg} {x : CellCfg} {w : W32} {ws rest : List W32} (hst : j.stage = .cell)
    (hp : s.life.pendingCfg = some c) (hx : cellChecked c j s ys ys.length w = .ok x) (hw : wordAt rest 0 = w) :
    takeRecord rest (behindCells ws ys j) (withCellRecords c j ys (freePort s)) =
      .written { behindCells ws ys j with usedChannels := j.usedChannels ++ (ys ++ [x]).flatMap namedChannels }
        (withCellRecords c j (ys ++ [x]) (freePort s)) := by
  have taken := takeRecord_cell (j := behindCells ws ys j) (u := withCellRecords c j ys (freePort s)) (ws := rest) (x := x)
    hst hp (by rw [hw, ← hx, cellChecked, List.take_length]; rfl)
  rw [taken]
  simp only [behindCells, List.flatMap_append, List.flatMap_cons, List.flatMap_nil, List.append_nil, List.append_assoc,
    withCellRecords, cellsWritten_concat]
  rfl

/-- A burst whose cell records all pass, as the last of them is taken (R17, R20). -/
theorem fetched_cells_last {ys : List CellCfg} {x : CellCfg} (h : onPortKind s .configFetch) (hl : s.life.load = some j)
    (hp : s.life.pendingCfg = some c) (hst : j.stage = .cell) (hw : j.words = []) (hlen : ys.length < 4)
    (hi : j.index + ys.length < (configuredCells c s).length)
    (hparse : ∀ k y, (ys ++ [x])[k]? = some y → cellChecked c j s (ys ++ [x]) k ([w0, w1, w2, w3].getD k 0) = .ok y) :
    exec (.configFetchComplete (.words w0 w1 w2 w3)) s = .next (takeRecords (4 - ys.length + 1)
      (behindCells [w0, w1, w2, w3] ys j) (withCellRecords c j ys (freePort s))) ∧
    takeRecord (([w0, w1, w2, w3].drop ys.length).take 1) (behindCells [w0, w1, w2, w3] ys j)
      (withCellRecords c j ys (freePort s)) =
      .written { behindCells [w0, w1, w2, w3] ys j with
        usedChannels := j.usedChannels ++ (ys ++ [x]).flatMap namedChannels } (withCellRecords c j (ys ++ [x]) (freePort s)) := by
  have parsed (k : Nat) (y : CellCfg) (hy : ys[k]? = some y) :
      cellChecked c j s ys k ([w0, w1, w2, w3].getD k 0) = .ok y := by
    have hk := (List.getElem?_eq_some_iff.mp hy).1
    have := hparse k y (by rw [List.getElem?_append_left hk, hy])
    rwa [cellChecked, List.take_append_of_le_length hk.le] at this
  have last := hparse ys.length x (by simp)
  rw [cellChecked, List.take_append_of_le_length le_rfl] at last
  exact ⟨fetched_cells h hl hp hst hw (by omega) (.inr (by omega)) parsed,
    takeRecord_cellBehind hst hp last (by simp [wordAt, List.getElem?_drop])⟩

theorem proceeding_map (job : LoadJob) (rest : List W32) (n total : Nat) (st : Stage) (ptr : W32) :
    (proceeding s job rest n total st ptr u).map = u.map := by
  unfold proceeding
  split_ifs <;> rfl

/-- A burst whose cell records all pass, with words of the table or another table behind them (R17, R20, R22). -/
theorem fetched_cells_proceeds (h : onPortKind s .configFetch) (hl : s.life.load = some j)
    (hp : s.life.pendingCfg = some c) (hst : j.stage = .cell) (hw : j.words = []) (hne : 1 ≤ xs.length)
    (hlen : xs.length ≤ 4) (hi : j.index + xs.length ≤ (configuredCells c s).length)
    (hrest : j.index + xs.length < (configuredCells c s).length → xs.length = 4)
    (hviews : j.index + xs.length = (configuredCells c s).length → c.viewCount ≠ 0)
    (hparse : ∀ k x, xs[k]? = some x → cellChecked c j s xs k ([w0, w1, w2, w3].getD k 0) = .ok x) :
    exec (.configFetchComplete (.words w0 w1 w2 w3)) s = .next (proceeding s
      { j with usedChannels := j.usedChannels ++ xs.flatMap namedChannels } [] xs.length (configuredCells c s).length
      .view c.viewPtr (withCellRecords c j xs s)) := by
  obtain rfl | ⟨ys, x, rfl⟩ := List.eq_nil_or_concat' xs
  · simp at hne
  simp only [List.length_append, List.length_singleton] at hlen hi hrest hviews ⊢
  obtain ⟨ran, taken⟩ := fetched_cells_last h hl hp hst hw (by omega) (by omega) hparse
  have empty (hmore : j.index + (ys.length + 1) < (configuredCells c s).length) :
      (behindCells [w0, w1, w2, w3] ys j).words.drop 1 = [] := by
    have := hrest hmore
    simp only [behindCells, List.drop_drop, List.drop_eq_nil_iff, List.length_cons, List.length_nil]
    omega
  rw [ran, takeRecords_proceeds (s := s) (n := 1) (total := (configuredCells c s).length) (st := .view) (ptr := c.viewPtr)
    (by simp only [behindCells, hst, recordWordsOf]) (by simp [behindCells]; omega) taken rfl rfl hp
    (by simp only [behindCells, hst]; rfl) (fun hend => ?_) (fun hmore => ?_)]
  · unfold proceeding
    by_cases hmore : j.index + (ys.length + 1) < (configuredCells c s).length
    · rw [if_pos (by exact hmore), if_pos (by exact hmore), empty hmore]
      rfl
    · rw [if_neg (by exact hmore), if_neg (by exact hmore)]
      rfl
  · have : c.viewCount ≠ 0 := hviews (le_antisymm hi hend)
    simp [behindCells, hst, nextStage, this]
  · rw [empty hmore]
    exact partial_nil _

/-- A burst whose cell records pass but for one, in a reload: it ends, those before it written (R20, R22, R23). -/
theorem fetched_cells_fail (h : onPortKind s .configFetch) (hl : s.life.load = some j)
    (hp : s.life.pendingCfg = some c) (hst : j.stage = .cell) (hw : j.words = [])
    (hlen : xs.length < 4) (hi : xs = [] ∨ j.index + xs.length < (configuredCells c s).length)
    (hparse : ∀ k x, xs[k]? = some x → cellChecked c j s xs k ([w0, w1, w2, w3].getD k 0) = .ok x)
    (hr : cellChecked c j s xs xs.length ([w0, w1, w2, w3].getD xs.length 0) = .bad r) :
    exec (.configFetchComplete (.words w0 w1 w2 w3)) s = .next (endLoad r (withCellRecords c j xs (freePort s))) ∧
      r ≠ .ok := by
  have failed : takeRecord (([w0, w1, w2, w3].drop xs.length).take 1) (behindCells [w0, w1, w2, w3] xs j)
      (withCellRecords c j xs (freePort s)) = .failed r := by
    refine takeRecord_badCell (c := c) hst hp ?_
    rw [cellChecked, List.take_length] at hr
    rw [← hr]
    simp only [wordAt, List.getD, List.getElem?_take_of_succ, List.getElem?_drop, Nat.add_zero]
    rfl
  refine ⟨?_, takeRecord_failed failed⟩
  rw [fetched_cells h hl hp hst hw hlen hi hparse]
  refine congrArg _ (takeRecords_failed (n := 1) (by simp only [behindCells, hst, recordWordsOf]) ?_ failed _)
  simp only [behindCells, List.length_drop, List.length_cons, List.length_nil]
  omega

end

/-- Settles O18: the checks of cell and view records, and then each table's burst by the records it completes. -/
theorem cellAndViewChecksAndTableWrites : Obligations.CellAndViewChecksAndTableWrites := by
  refine ⟨fun channels inUse used w => ?_, fun cellOk used ws => ?_, fun w0 w1 w2 w3 c j s h hl hp => ?_⟩
  · intro a b limit free
    rw [parseCell_checks]
    simp only [cellFields_eq, channelFree_field, sameChannel_fields]
    refine ⟨fun hlim => by rw [if_pos hlim], fun hlim hbad => ?_, fun hlim ha hb hab => ?_⟩
    · rw [if_neg (by omega), if_neg fun hok => hbad ⟨hok.1, hok.2.1, fun he => by_contra fun hne => hok.2.2 ⟨he, hne⟩⟩]
    · rw [if_neg (by omega), if_pos ⟨ha, hb, fun hne => hne.2 (hab hne.1)⟩]
      rfl
  · intro n correction span shape refs
    have spans : viewSpans ws = (List.range n).map span := viewSpans_eq ws
    refine ⟨fun hbad => parseView_outside hbad, fun hn hlo hhi => ?_⟩
    obtain ⟨pass, fault⟩ := parseView_inRange (cellOk := cellOk) (used := used) hn hlo hhi
    rw [spans] at pass fault
    refine ⟨fun hall => pass (spansFault_pass hall), fun k hk hall => ⟨fun hs => fault _ ?_, fun hs hr => fault _ ?_⟩⟩
    · exact spansFault_first hk hall (spanFault_shape hs)
    · exact spansFault_first hk hall (spanFault_refs hs fun hnone => hr (spanFault_at.mp hnone).2)
  intro ws wants goes failed curveLen viewLen
  refine ⟨fun hshort => fetched_partial h hl (partial_of_table hshort), fun hst hlen => ⟨fun x hx => ?_, fun hx hk => ?_⟩,
    fun hst hw hi => ⟨fun x y hx hy => ?_, fun x r hx hr hk => ?_, fun r hr hk => ?_⟩,
    fun hst hlen => ?_, fun hst hw hc xs => ?_, fun hst hlen => ?_⟩
  · exact fetched_pass h hl hp hst hlen hx
  · obtain ⟨t, ran, kept⟩ := fetched_badPass h hl hk hst hlen hx
    exact ⟨t, ran, ⟨kept.result, kept.load, kept.view⟩, kept.conv, kept.passes⟩
  · exact fetched_channels h hl hp hst hw hi hx hy
  · obtain ⟨t, ran, kept⟩ := fetched_badSecond h hl hp hk hst hw hi hx hr
    exact ⟨t, ran, ⟨kept.result, kept.load, kept.view⟩, kept.conv⟩
  · have burst : (j.words ++ [w0, w1, w2, w3]).take 2 = [w0, w1] := by rw [hw]; rfl
    obtain ⟨t, ran, kept⟩ := fetched_fails (n := 2) h hl hk (by rw [hst]; rfl) (by simp)
      (takeRecord_badChannel (c := c) hst hp (by rw [burst]; exact hr))
    exact ⟨t, ran, ⟨kept.result, kept.load, kept.view⟩, kept.conv⟩
  · intro rest
    have words : curveWords ws = curveLen ws := curveWords_eq ws
    refine ⟨fun x hx hrest => ?_, fun r hr hk => ?_⟩
    · exact fetched_curve h hl hp hst words hlen hx fun hi => (partial_rest.1 (hrest hi))
    · obtain ⟨t, ran, kept⟩ := fetched_badCurve h hl hk hst words hlen hr
      exact ⟨t, ran, ⟨kept.result, kept.load, kept.view⟩, kept.conv⟩
  · intro total cell used parse hparse
    have distinct := configuredCells_distinct hc hp
    have bursts (k : Nat) : ws.getD k 0 = [w0, w1, w2, w3].getD k 0 := by simp only [ws, hw]; rfl
    have checked (k : Nat) : cellChecked c j s xs k ([w0, w1, w2, w3].getD k 0) = parse k := by rw [← bursts]; rfl
    have all : used xs.length = j.usedChannels ++ xs.flatMap namedChannels := by simp only [used, List.take_length]; rfl
    refine ⟨fun hne hi hend => ?_, fun r hlen hi hr hk => ?_⟩
    · have ran := fetched_cells_proceeds h hl hp hst hw hne (by omega) hi (fun hmore => by omega) (fun hlast => by omega)
        fun k x hx => (checked k).trans (hparse k x hx)
      refine ⟨_, ran, ?_, ?_⟩
      · rw [all, proceeding_map]
        rfl
      · rw [proceeding_map]
        exact ⟨fun k x hx => cellsWritten_at distinct xs _ _ k x hi hx, fun i _ hout => cellsWritten_other xs _ _ hout⟩
    · obtain ⟨ran, hok⟩ := fetched_cells_fail h hl hp hst hw hlen hi (fun k x hx => (checked k).trans (hparse k x hx))
        ((checked _).trans hr)
      have kept := endLoad_recovered (u := withCellRecords c j xs (freePort s)) hok hl hk
      refine ⟨_, ran, ⟨kept.result, kept.load, kept.view⟩, kept.conv, fun k x hx => ?_, fun i hi hout => ?_⟩
      · have hk := (List.getElem?_eq_some_iff.mp hx).1
        have inTable : j.index + xs.length ≤ total := by
          obtain rfl | hi := hi
          · simp at hx
          · exact hi.le
        have inMap : cell k < 512 := by
          have hlt : j.index + k < total := by omega
          exact distinct.2 _ (by simp only [cell, List.getD_eq_getElem _ _ hlt, List.getElem_mem])
        rw [kept.cells _ inMap]
        exact congrArg Cell.cfg (cellsWritten_at distinct xs _ s.map.cells k x inTable hx)
      · rw [kept.cells _ hi]
        exact congrArg Cell.cfg (cellsWritten_other xs _ s.map.cells hout)
  · intro rest
    have words : viewWords ws = viewLen ws := viewWords_eq ws
    refine ⟨fun x hx hi hrest => ?_, fun r hr hk => ?_⟩
    · exact fetched_view h hl hp hst words hlen hx hi (partial_rest.2 hrest)
    · obtain ⟨t, ran, kept⟩ := fetched_badView h hl hp hk hst words hlen hr
      exact ⟨t, ran, ⟨kept.result, kept.load, kept.view⟩, kept.conv⟩

end

end Sys2Proof.Machine
end

section
/-! The last record of a load's tables, wherever in its burst it lies (O19). -/

namespace Sys2Proof.Machine

section
variable {s t u : State} {c : RootCfg} {j j' : LoadJob} {w0 w1 w2 w3 : W32}

/-! ### The load's end behind its last record (R17, R23) -/

/-- The last record of the last table ends the load with OK (R17, R23). -/
theorem takeRecords_ends {n : Nat} (hn : recordWordsOf j.stage j.words = some n) (hlen : n ≤ j.words.length)
    (ht : takeRecord (j.words.take n) j u = .written j' t) (hp : t.life.pendingCfg = some c)
    (hi : stageRecords c t j.stage ≤ j.index + 1) (hst : nextStage c j.stage = none) (fuel : Nat) :
    takeRecords (fuel + 1) j u = endLoad .ok t := by
  obtain ⟨-, hstage, hindex⟩ := (takeRecord_written ht).job
  refine takeRecords_last hn hlen ht ?_ fuel
  rw [afterRecord_beyond hp (by rw [hstage, hindex]; exact hi), hstage, hst]
  rfl

/-- RUN is entered with the pending configuration adopted (R23, R25). -/
theorem endLoad_ok_opened (hl : u.life.load = some j) (hp : u.life.pendingCfg = some c) :
    (endLoad .ok u).life = { u.life with
      phase := .run, lastResult := .ok, load := none, pendingCfg := none, params := c
      lock := u.life.lock || c.lockAtLoad } ∧
    (∀ i < 512, ((endLoad .ok u).map.cells.get i).cfg = (u.map.cells.get i).cfg) ∧
    ∀ v < 16, v < c.viewCount →
      ((endLoad .ok u).view.views.get v).correction = (u.view.views.get v).correction ∧
        ((endLoad .ok u).view.views.get v).spans = (u.view.views.get v).spans := by
  rw [endLoad_ok hl, hp, Option.getD_some]
  refine ⟨?_, fun i hi => ?_, fun v hv hc => ?_⟩
  · rw [adoptConfig_life, loadEntered_life, phaseAfter_ok]
  · rw [adoptConfig_cell_cfg _ hi]
    simp
  · simpa using adoptConfig_view_kept (e := loadEntered .ok j u) j.kind hv hc

/-! ### The last cell record of a configuration without views (R20) -/

theorem fetched_lastCells {xs : List CellCfg} (h : onPortKind s .configFetch) (hl : s.life.load = some j)
    (hp : s.life.pendingCfg = some c) (hst : j.stage = .cell) (hw : j.words = []) (hviews : c.viewCount = 0)
    (hne : 1 ≤ xs.length) (hlen : xs.length ≤ 4) (hi : j.index + xs.length = (configuredCells c s).length)
    (hparse : ∀ k x, xs[k]? = some x → cellChecked c j s xs k ([w0, w1, w2, w3].getD k 0) = .ok x) :
    exec (.configFetchComplete (.words w0 w1 w2 w3)) s = .next (endLoad .ok (withCellRecords c j xs (freePort s))) := by
  obtain rfl | ⟨ys, x, rfl⟩ := List.eq_nil_or_concat' xs
  · simp at hne
  simp only [List.length_append, List.length_singleton] at hlen hi
  obtain ⟨ran, taken⟩ := fetched_cells_last h hl hp hst hw (by omega) (by omega) hparse
  rw [ran]
  refine congrArg _ (takeRecords_ends (c := c) (n := 1) (by simp only [behindCells, hst, recordWordsOf]) ?_ taken hp ?_ ?_ _)
  · simp only [behindCells, List.length_drop, List.length_cons, List.length_nil]
    omega
  · simp only [behindCells, hst]
    exact hi.ge
  · simp [behindCells, hst, nextStage, hviews]

/-! ### The last view record, behind those that the same words complete (R21) -/

/-- A view entry with the configuration part of its record (R22). -/
def viewWritten (x : Int × List Span) (v : ViewEntry) : ViewEntry := { v with correction := x.1, spans := x.2 }

/-- The configuration parts of view records written one after another, from view `i` on (R22). -/
def viewsWritten : Nat → List (Int × List Span) → Table ViewEntry 16 → Table ViewEntry 16
  | _, [], t => t
  | i, x :: xs, t => viewsWritten (i + 1) xs (t.modify i (viewWritten x))

theorem viewsWritten_before {m : Nat} (xs : List (Int × List Span)) : ∀ (i : Nat) (t : Table ViewEntry 16), m < i →
    (viewsWritten i xs t).get m = t.get m := by
  induction xs with
  | nil => exact fun _ _ _ => rfl
  | cons x xs ih =>
    intro i t hm
    rw [viewsWritten, ih (i + 1) _ (by omega), Table.get_modify, if_neg (by omega)]

/-- Each record's view has its configuration part (R22). -/
theorem viewsWritten_at (xs : List (Int × List Span)) : ∀ (i : Nat) (t : Table ViewEntry 16) (k : Nat)
    (x : Int × List Span), i + xs.length ≤ 16 → xs[k]? = some x →
      ((viewsWritten i xs t).get (i + k)).correction = x.1 ∧ ((viewsWritten i xs t).get (i + k)).spans = x.2 := by
  induction xs with
  | nil => simp
  | cons y xs ih =>
    intro i t k x hlen hx
    rw [List.length_cons] at hlen
    cases k with
    | zero =>
      obtain rfl : y = x := by simpa using hx
      rw [viewsWritten, Nat.add_zero, viewsWritten_before xs _ _ (by omega), Table.get_modify, if_pos ⟨rfl, by omega⟩]
      exact ⟨rfl, rfl⟩
    | succ k =>
      have next := ih (i + 1) (t.modify i (viewWritten y)) k x (by omega) (by simpa using hx)
      rwa [Nat.add_assoc, Nat.add_comm 1] at next

theorem viewsWritten_concat (x : Int × List Span) (ys : List (Int × List Span)) : ∀ (i : Nat) (t : Table ViewEntry 16),
    viewsWritten i (ys ++ [x]) t = (viewsWritten i ys t).modify (i + ys.length) (viewWritten x) := by
  induction ys with
  | nil => exact fun _ _ => rfl
  | cons y ys ih =>
    intro i t
    rw [List.cons_append, viewsWritten, ih, viewsWritten, List.length_cons, Nat.add_assoc, Nat.add_comm 1]

/-- The words of a row of view records (R183). -/
def viewsLength (xs : List (Int × List Span)) : Nat := (xs.map fun y => 1 + y.2.length).sum

/-- The state behind a row of view records (R22). -/
def withViewRecords (j : LoadJob) (xs : List (Int × List Span)) (s : State) : State :=
  withViews (viewsWritten j.index xs s.view.views) s

/-- The load's progress behind a row of view records. -/
def behindViews (xs : List (Int × List Span)) (j : LoadJob) : LoadJob :=
  { j with
    index := j.index + xs.length, words := j.words.drop (viewsLength xs)
    usedCells := j.usedCells ++ xs.flatMap fun y => y.2.map Span.cell }

/-- The words of the load hold these view records one after another, and each passes (R21). -/
def ViewsPass (c : RootCfg) (j : LoadJob) (s : State) (xs : List (Int × List Span)) : Prop :=
  ∀ k x, xs[k]? = some x →
    viewWords (j.words.drop (viewsLength (xs.take k))) ≤ (j.words.drop (viewsLength (xs.take k))).length ∧
      parseView (cellConfigured c s) (j.usedCells ++ (xs.take k).flatMap fun y => y.2.map Span.cell)
        ((j.words.drop (viewsLength (xs.take k))).take (viewWords (j.words.drop (viewsLength (xs.take k))))) = .ok x

/-- A view record that passes has the spans that its own count names (R183). -/
theorem parseView_words {cellOk : Nat → Bool} {used : List Nat} {ws : List W32} {x : Int × List Span}
    (hx : parseView cellOk used (ws.take (viewWords ws)) = .ok x) : viewWords ws = 1 + x.2.length := by
  have count : viewLength (ws.take (viewWords ws)) = viewLength ws := by
    have : viewWords ws = viewLength ws + 1 := Nat.add_comm 1 _
    cases ws <;> simp [viewLength, wordAt, this]
  unfold parseView at hx
  dsimp only at hx
  split_ifs at hx
  split at hx
  · cases hx
  · cases hx
    rw [viewSpans, List.length_map, List.length_range, count]
    rfl

theorem recordWordsOf_view {ws : List W32} (h : viewWords ws ≤ ws.length) : recordWordsOf .view ws = some (viewWords ws) := by
  have : 1 ≤ viewWords ws := Nat.le_add_right 1 _
  cases ws with
  | nil => simp at h; omega
  | cons w ws => rfl

/-- The first of a row of view records that pass, as it is taken (R21). -/
theorem ViewsPass.first {x : Int × List Span} {xs : List (Int × List Span)} (h : ViewsPass c j u (x :: xs))
    (hst : j.stage = .view) (hp : u.life.pendingCfg = some c) :
    recordWordsOf j.stage j.words = some (1 + x.2.length) ∧ 1 + x.2.length ≤ j.words.length ∧
      takeRecord (j.words.take (1 + x.2.length)) j u =
        .written { j with usedCells := j.usedCells ++ x.2.map Span.cell } (withViewRecords j [x] u) := by
  obtain ⟨hlen, hx⟩ := h 0 x rfl
  simp only [List.take_zero, viewsLength, List.map_nil, List.sum_nil, List.drop_zero, List.flatMap_nil,
    List.append_nil] at hlen hx
  have words := parseView_words hx
  rw [← words]
  exact ⟨by rw [hst, recordWordsOf_view hlen], hlen, takeRecord_view hst hp hx⟩

theorem ViewsPass.rest {x : Int × List Span} {xs : List (Int × List Span)} (h : ViewsPass c j u (x :: xs)) :
    ViewsPass c (behindViews [x] j) (withViewRecords j [x] u) xs := by
  intro k y hy
  have next := h (k + 1) y (by simpa using hy)
  have split : j.words.drop (viewsLength ((x :: xs).take (k + 1))) =
      (behindViews [x] j).words.drop (viewsLength (xs.take k)) := by
    simp [behindViews, viewsLength, List.drop_drop]
  have tables : cellConfigured c (withViewRecords j [x] u) = cellConfigured c u := rfl
  rw [split] at next
  simpa [behindViews, tables] using next

theorem behindViews_cons (x : Int × List Span) (xs : List (Int × List Span)) (j : LoadJob) :
    behindViews xs (behindViews [x] j) = behindViews (x :: xs) j := by
  simp [behindViews, viewsLength, List.drop_drop, Nat.add_assoc, Nat.add_comm 1 xs.length]

theorem withViewRecords_cons (x : Int × List Span) (xs : List (Int × List Span)) (j : LoadJob) (u : State) :
    withViewRecords (behindViews [x] j) xs (withViewRecords j [x] u) = withViewRecords j (x :: xs) u := rfl

/-- View records that pass, with another of their table to come behind the last of them (R17, R21, R22). -/
theorem takeRecords_views (xs : List (Int × List Span)) : ∀ {j : LoadJob} {u : State}, j.stage = .view →
    u.life.pendingCfg = some c → xs = [] ∨ j.index + xs.length < c.viewCount → ViewsPass c j u xs → ∀ fuel,
    takeRecords (fuel + xs.length) j u = takeRecords fuel (behindViews xs j) (withViewRecords j xs u) := by
  induction xs with
  | nil =>
    intro j u _ _ _ _ fuel
    simp only [behindViews, List.flatMap_nil, List.append_nil]
    rfl
  | cons x xs ih =>
    intro j u hst hp hi hx fuel
    have more : j.index + (xs.length + 1) < c.viewCount := by simpa using hi
    obtain ⟨hn, hlen, first⟩ := hx.first hst hp
    have one : takeRecords (fuel + xs.length + 1) j u =
        takeRecords (fuel + xs.length) (behindViews [x] j) (withViewRecords j [x] u) := by
      rw [takeRecords_within hn hlen first hp (by rw [hst]; exact lt_of_le_of_lt (by omega) more)]
      simp [behindViews, viewsLength]
    rw [List.length_cons, ← Nat.add_assoc, one, ih (j := behindViews [x] j) (u := withViewRecords j [x] u) hst hp
      (.inr (lt_of_eq_of_lt ?_ more)) hx.rest fuel]
    · rw [behindViews_cons, withViewRecords_cons]
    · simp only [behindViews, List.length_singleton]
      omega

/-- A row of view records that pass, apart from its last (R21). -/
theorem ViewsPass.init {x : Int × List Span} {ys : List (Int × List Span)} (h : ViewsPass c j u (ys ++ [x])) :
    ViewsPass c j u ys ∧ ViewsPass c (behindViews ys j) (withViewRecords j ys u) [x] := by
  constructor
  · intro k y hy
    have hk := (List.getElem?_eq_some_iff.mp hy).1
    have := h k y (by rw [List.getElem?_append_left hk, hy])
    rwa [List.take_append_of_le_length hk.le] at this
  · intro k y hy
    obtain ⟨hk, rfl⟩ : k = 0 ∧ x = y := by simpa [List.getElem?_singleton] using hy
    have last := h ys.length x (by simp)
    rw [List.take_append_of_le_length le_rfl, List.take_length] at last
    subst hk
    have tables : cellConfigured c (withViewRecords j ys u) = cellConfigured c u := rfl
    simpa [behindViews, viewsLength, tables] using last

/-- As many words stand before a record of a row as there are records before it, or more (R183). -/
theorem length_le_viewsLength (xs : List (Int × List Span)) : xs.length ≤ viewsLength xs := by
  have each : ∀ n ∈ xs.map fun y => 1 + y.2.length, 1 ≤ n := by
    intro n hn
    obtain ⟨y, -, rfl⟩ := List.mem_map.mp hn
    exact Nat.le_add_right 1 _
  have := List.length_le_sum_of_one_le _ each
  rwa [List.length_map] at this

theorem fetched_lastViews {xs : List (Int × List Span)} (h : onPortKind s .configFetch) (hl : s.life.load = some j)
    (hp : s.life.pendingCfg = some c) (hst : j.stage = .view) (hne : 1 ≤ xs.length)
    (hi : j.index + xs.length = c.viewCount)
    (hx : ViewsPass c { j with words := j.words ++ [w0, w1, w2, w3] } s xs) :
    exec (.configFetchComplete (.words w0 w1 w2 w3)) s = .next (endLoad .ok (withViewRecords j xs (freePort s))) := by
  obtain rfl | ⟨ys, x, rfl⟩ := List.eq_nil_or_concat' xs
  · simp at hne
  simp only [List.length_append, List.length_singleton] at hi
  obtain ⟨before, last⟩ := ViewsPass.init (u := freePort s) hx
  obtain ⟨hn, hlen, taken⟩ := last.first hst hp
  have fits := length_le_viewsLength ys
  have fuel : j.words.length + 5 = j.words.length + 4 - ys.length + 1 + ys.length := by
    simp only [behindViews, List.length_drop, List.length_append, List.length_cons, List.length_nil] at hlen
    omega
  rw [configFetchComplete_of h, configFetched_words (s := freePort s) hl, fuel,
    takeRecords_views (j := { j with words := j.words ++ [w0, w1, w2, w3] }) (u := freePort s) ys hst hp
      (.inr (by dsimp only; omega)) before]
  refine congrArg _ ((takeRecords_ends (c := c) hn hlen taken hp ?_ ?_ _).trans ?_)
  · simp only [behindViews, hst]
    exact hi.ge
  · simp only [behindViews, hst, nextStage]
  · simp only [withViewRecords, viewsWritten_concat]
    rfl

/-- Settles O19: the cell records or the view records of the burst are taken one by one, and behind the last of them the
load ends. -/
theorem lastRecordEndsTheLoad : Obligations.LastRecordEndsTheLoad := by
  intro w0 w1 w2 w3 j c s h hl hp opened
  refine ⟨fun xs hst hw hviews hne hlen hi hparse => ?_, fun xs hst hne hi hparse => ?_⟩
  · obtain ⟨life, cells, -⟩ := endLoad_ok_opened (u := withCellRecords c j xs (freePort s)) hl hp
    refine ⟨_, fetched_lastCells h hl hp hst hw hviews hne hlen hi hparse, life, fun hc k x hx => ?_⟩
    have distinct := configuredCells_distinct hc hp
    have hk := (List.getElem?_eq_some_iff.mp hx).1
    have hlt : j.index + k < (configuredCells c s).length := by omega
    have inMap : (configuredCells c s).getD (j.index + k) 0 < 512 :=
      distinct.2 _ (by rw [List.getD_eq_getElem _ _ hlt]; exact List.getElem_mem _)
    rw [cells _ inMap]
    exact congrArg Cell.cfg (cellsWritten_at distinct xs _ s.map.cells k x hi.le hx)
  · obtain ⟨life, -, views⟩ := endLoad_ok_opened (u := withViewRecords j xs (freePort s)) hl hp
    refine ⟨_, fetched_lastViews h hl hp hst hne hi fun k x hx => ?_, life, fun hc k x hx => ?_⟩
    · have passed := hparse k x hx
      simp only [← viewWords_eq] at passed
      exact passed
    · have hk := (List.getElem?_eq_some_iff.mp hx).1
      have few := (hc.pending c hp).1.views
      obtain ⟨correction, spans⟩ := views (j.index + k) (by omega) (by omega)
      rw [correction, spans]
      exact viewsWritten_at xs _ s.view.views k x (by omega) hx

end

end Sys2Proof.Machine
end

section
/-! The beats of a slot's buffer (R27, R28, R73): a beat moves its own word alone, lane by lane (O23). -/

namespace Sys2Proof.Machine

/-! ### Byte lanes (R27) -/

/-- The mask of a byte enable holds, in each lane, the enable of that lane. -/
theorem laneMask_getLsbD : ∀ be : BitVec 4, ∀ lane < 4, ∀ i < 8,
    (laneMask be).getLsbD (8 * lane + i) = be.getLsbD lane := by decide

/-- A merged word holds, in each lane, the beat's byte where its enable is set and the old byte elsewhere. -/
theorem mergeBytes_lane (old : W32) (b : Beat) {lane : Nat} (hl : lane < 4) :
    (mergeBytes old b).extractLsb' (8 * lane) 8 =
      (if b.be.getLsbD lane then b.data else old).extractLsb' (8 * lane) 8 := by
  refine BitVec.eq_of_getLsbD_eq fun i hi => ?_
  have mask := laneMask_getLsbD b.be lane hl i hi
  have inWord : 8 * lane + i < 32 := by omega
  rw [BitVec.getLsbD_eq_getElem inWord] at mask
  cases hb : b.be.getLsbD lane <;> simp [mergeBytes, mask, hb, hi, inWord]

/-- A word is its four bytes. -/
theorem word_ext_lanes {x y : W32} (h : ∀ lane < 4, x.extractLsb' (8 * lane) 8 = y.extractLsb' (8 * lane) 8) : x = y := by
  refine BitVec.eq_of_getLsbD_eq fun i hi => ?_
  have bit := congrArg (fun z : Byte => z.getLsbD (i % 8)) (h (i / 8) (by omega))
  simpa [Nat.mod_lt, Nat.div_add_mod] using bit

/-! ### Slots and their words -/

/-- Any slot after one was replaced. -/
theorem Table.getD_set {α : Type} {m : Nat} (t : Table α m) (i j : Nat) (a d : α) :
    (t.set i a).getD j d = if j = i ∧ i < m then a else t.getD j d := by
  obtain rfl | h := eq_or_ne j i
  · obtain hj | hj := lt_or_ge j m <;> simp [Table.getD, Table.set, List.getD, t.size_eq, hj, Nat.not_lt.mpr]
  · simp [Table.getD, Table.set, List.getD, h, h.symm]

section
variable {k : Nat} (slot : Slot k) (n : Nat) (b : Beat)

theorem mergeBeat_word_ne {w : Nat} (h : w ≠ n) : (mergeBeat slot n b).words.get w = slot.words.get w := by
  simp [mergeBeat, Table.modify, h]

theorem mergeBeat_word_self (hn : n < k) :
    (mergeBeat slot n b).words.get n = mergeBytes (slot.words.get n) b := by
  simp [mergeBeat, Table.modify, hn]

theorem mergeBeat_captured_ne {w : Nat} (h : w ≠ n) : (mergeBeat slot n b).captured.get w = slot.captured.get w := by
  simp only [mergeBeat]
  split <;> simp [h]

theorem mergeBeat_captured_self (hn : n < k) :
    (mergeBeat slot n b).captured.get n = (slot.captured.get n || b.be.getLsbD 3) := by
  simp only [mergeBeat]
  split
  next h => rw [h, Bool.or_true, Table.get_set_self hn]
  next h => rw [Bool.eq_false_iff.mpr h, Bool.or_false]

/-- A beat of a word leaves the earlier words captured or missing as they were. -/
theorem uncaptured_mergeBeat : uncaptured (mergeBeat slot n b) n = uncaptured slot n := by
  refine List.filter_congr fun w hw => ?_
  rw [mergeBeat_captured_ne slot n b (List.mem_range.mp hw).ne]

/-- The slots after a beat: every other slot and every other word stays, the word is merged by lane, and it is captured
where lane 3 is written (R27, R28, R73). -/
theorem beat_merged {m : Nat} (slots : Table (Slot k) m) {i : Nat} (hi : i < m) (hn : n < k) :
    let before := slots.getD i (Slot.empty k)
    let moved := slots.set i (mergeBeat before n b)
    let after := moved.getD i (Slot.empty k)
    (∀ j < m, j ≠ i → moved.getD j (Slot.empty k) = slots.getD j (Slot.empty k)) ∧
      (∀ w < k, w ≠ n → after.words.get w = before.words.get w ∧ after.captured.get w = before.captured.get w) ∧
      (∀ lane < 4, (after.words.get n).extractLsb' (8 * lane) 8 =
        (if b.be.getLsbD lane then b.data else before.words.get n).extractLsb' (8 * lane) 8) ∧
      after.captured.get n = (before.captured.get n || b.be.getLsbD 3) := by
  intro before moved after
  have merged : after = mergeBeat before n b := by simp [after, moved, Table.getD_set, hi]
  rw [merged]
  refine ⟨fun j _ hj => by simp [moved, Table.getD_set, hj], fun w _ hw => ?_, fun lane hl => ?_, ?_⟩
  · exact ⟨mergeBeat_word_ne before n b hw, mergeBeat_captured_ne before n b hw⟩
  · rw [mergeBeat_word_self before n b hn, mergeBytes_lane _ b hl]
  · exact mergeBeat_captured_self before n b hn

end

/-! ### One beat of a slot -/

section
variable {s : State} {b : Beat}

/-- In RUN with a window set in force, the intake windows are active (R4). -/
theorem intakeWindows_run (hp : s.life.phase = .run) : intakeWindows s = s.path.windows := by
  simp only [intakeWindows, hp]

theorem exec_frameSlotWrite (hp : s.life.phase = .run) (hw : s.path.windows.isSome = true) (off : BitVec 10) (b : Beat) :
    exec (.frameSlotWrite off b) s = .next (frameBeat off.toNat b s) := by
  obtain ⟨w, hw⟩ := Option.isSome_iff_exists.mp hw
  simp only [exec, execFrameSlotWrite, intakeWindows_run hp, hw]

theorem exec_lineSlotWrite (hp : s.life.phase = .run) (hw : s.path.windows.isSome = true) (off : BitVec 10) (b : Beat) :
    exec (.lineSlotWrite off b) s = .next (lineBeat off.toNat b s) := by
  obtain ⟨w, hw⟩ := Option.isSome_iff_exists.mp hw
  simp only [exec, execLineSlotWrite, intakeWindows_run hp, hw]

theorem frameBeat_outside {off : Nat} (h : 17 < off % 128 / 4) : frameBeat off b s = s := if_pos h

theorem lineBeat_outside {off : Nat} (h : 32 < off % 256 / 4) : lineBeat off b s = s := if_pos h

theorem frameBeat_within {off : Nat} (h : off % 128 / 4 < 17 ∨ (off % 128 / 4 = 17 ∧ b.be.getLsbD 3 = false)) :
    frameBeat off b s = withFrameSlot (off / 128)
      (mergeBeat (s.intake.slots.getD (off / 128) (Slot.empty 18)) (off % 128 / 4) b) s := by
  have inside : ¬17 < off % 128 / 4 := by omega
  obtain before | ⟨last, open3⟩ := h
  · simp [frameBeat, inside, before.ne]
  · simp only [frameBeat, last, open3, lt_irrefl, Bool.and_false, Bool.false_eq_true, if_false]

theorem lineBeat_within {off : Nat} (h : off % 256 / 4 < 32 ∨ (off % 256 / 4 = 32 ∧ b.be.getLsbD 3 = false)) :
    lineBeat off b s = withLineSlot (off / 256)
      (mergeBeat (s.view.slots.getD (off / 256) (Slot.empty 33)) (off % 256 / 4) b) s := by
  have inside : ¬32 < off % 256 / 4 := by omega
  obtain before | ⟨last, open3⟩ := h
  · simp [lineBeat, inside, before.ne]
  · simp only [lineBeat, last, open3, lt_irrefl, Bool.and_false, Bool.false_eq_true, if_false]

theorem frameBeat_last {off : Nat} (h : off % 128 / 4 = 17) (h3 : b.be.getLsbD 3 = true) :
    frameBeat off b s = completeFrameSlot (off / 128)
      (mergeBeat (s.intake.slots.getD (off / 128) (Slot.empty 18)) 17 b) s := by
  simp only [frameBeat, h, h3, lt_irrefl, if_false, decide_true, Bool.and_self, if_true]

theorem lineBeat_last {off : Nat} (h : off % 256 / 4 = 32) (h3 : b.be.getLsbD 3 = true) :
    lineBeat off b s = completeLineSlot (off / 256)
      (mergeBeat (s.view.slots.getD (off / 256) (Slot.empty 33)) 32 b) s := by
  simp only [lineBeat, h, h3, lt_irrefl, if_false, decide_true, Bool.and_self, if_true]

end

/-- Settles O23: a beat below the last word, or one of it that leaves lane 3, merges into its word alone. -/
theorem slotBeatsMergeByLane : Obligations.SlotBeatsMergeByLane := by
  intro off b s hp hw merged
  have size := off.isLt
  refine ⟨fun h => ?_, fun h => ?_, fun h => ?_, fun h => ?_⟩
  · exact ⟨_, (exec_frameSlotWrite hp hw off b).trans (congrArg _ (frameBeat_within h)), rfl,
      beat_merged _ b s.intake.slots (by omega) (by omega)⟩
  · rw [exec_frameSlotWrite hp hw, frameBeat_outside h]
  · exact ⟨_, (exec_lineSlotWrite hp hw off b).trans (congrArg _ (lineBeat_within h)), rfl,
      beat_merged _ b s.view.slots (by omega) (by omega)⟩
  · rw [exec_lineSlotWrite hp hw, lineBeat_outside h]

end Sys2Proof.Machine
end

section
/-! The notices that reach a scanner's in-use channels, one after another (R65, R66): what they leave in the channel table,
and the events they hand over, in order. -/

namespace Sys2Proof.Machine

/-! ### Tables and lists -/

theorem Table.build_congr {α : Type} {n : Nat} {f g : Nat → α} (h : ∀ i < n, f i = g i) :
    Table.build n f = Table.build n g :=
  Table.ext_data (List.map_congr_left fun i hi => h i (List.mem_range.mp hi))

/-- A table is built from what it reads. -/
theorem Table.build_get {α : Type} [Inhabited α] {n : Nat} (t : Table α n) : Table.build n t.get = t :=
  Table.ext_get fun _ hi => Table.get_build _ hi

/-- Of the elements that pass `p`, one value for each that does not pass `q`. -/
theorem flatMap_filter_unless {α β : Type} (l : List α) (p q : α → Bool) (e : α → β) :
    ((l.filter p).flatMap fun c => if q c = true then [] else [e c]) = (l.filter fun c => p c && !q c).map e := by
  induction l with
  | nil => rfl
  | cons c l ih => cases hp : p c <;> cases hq : q c <;> simp [hp, hq, ih]

/-- Events handed over together are handed over one by one, stamped with the heater clock (R167). -/
theorem emitAll_eq (es : List EventData) (s : State) :
    emitAll es s = { s with ev := takes (stampedAt s.life.clock es) s.ev } := by
  induction es generalizing s with
  | nil => rfl
  | cons e es ih => exact ih (emit e.1 e.2.1 e.2.2.1 e.2.2.2 s)

theorem stamped_faultEvent (clock : W32) (c : Nat) (f : FaultSet) (k : FaultKind) (b : W32) :
    stampedAt clock (faultEvent c f k b) =
      if f.has k = true then [] else [⟨.channelFaultSet, BitVec.ofNat 16 c, clock, BitVec.ofNat 32 k.code, b⟩] := by
  unfold faultEvent
  split <;> rfl

theorem stamped_qualityEvent (clock : W32) (c : Nat) (before after : Quality) :
    stampedAt clock (qualityEvent c before after) =
      if before = after then []
      else [⟨.channelQuality, BitVec.ofNat 16 c, clock, BitVec.ofNat 32 before.code, BitVec.ofNat 32 after.code⟩] := by
  unfold qualityEvent
  split <;> rfl

/-! ### A notice, channel by channel -/

/-- A notice on one channel: its work `g` where the channel is in use. -/
def noticeChannel (g : Nat → Channel → Channel × List EventData) (s : State) (c : Nat) : State :=
  if usedChannel s c then putChannel c (g c (s.conv.channels.get c)) s else s

section
variable {g : Nat → Channel → Channel × List EventData} {c d : Nat} {s : State}

/-- A channel in use is one of the 128: beyond the table there is only the default entry, which is not in use. -/
theorem lt_of_usedChannel (h : usedChannel s c = true) : c < 128 := by
  by_contra hc
  rw [usedChannel, Table.get_of_le s.conv.channels (Nat.not_lt.mp hc)] at h
  exact Bool.false_ne_true (Bool.and_eq_true_iff.mp h).1

/-- A notice on one channel touches the channel table and hands over the events of its work (R167). -/
theorem noticeChannel_eq (g : Nat → Channel → Channel × List EventData) (s : State) (c : Nat) :
    noticeChannel g s c = { s with
      conv := { s.conv with channels := (noticeChannel g s c).conv.channels }
      ev := takes (if usedChannel s c then stampedAt s.life.clock (g c (s.conv.channels.get c)).2 else []) s.ev } := by
  unfold noticeChannel
  split
  · rw [putChannel_channels]
    exact emitAll_eq _ _
  · rfl

/-- A notice on one channel does its work on that channel alone. -/
theorem noticeChannel_get : (noticeChannel g s c).conv.channels.get d =
    if d = c ∧ usedChannel s c = true then (g c (s.conv.channels.get c)).1 else s.conv.channels.get d := by
  unfold noticeChannel
  split
  next used => simp only [putChannel_channels, Table.get_set, lt_of_usedChannel used, used, and_true]
  next unused => rw [if_neg fun h => unused h.2]

/-- A notice keeps which channels are in use, where its work keeps the configuration part. -/
theorem usedChannel_noticeChannel (hg : ∀ c ch, (g c ch).1.cfg = ch.cfg) :
    usedChannel (noticeChannel g s c) d = usedChannel s d := by
  have cfg : ((noticeChannel g s c).conv.channels.get d).cfg = (s.conv.channels.get d).cfg := by
    rw [noticeChannel_get]
    split
    next h => rw [hg, h.1]
    next => rfl
  have life : (noticeChannel g s c).life = s.life := by rw [noticeChannel_eq]
  rw [usedChannel, usedChannel, cfg, life]

end

/-! ### A notice to several channels -/

/-- The entries behind a notice with work `g` to the channels `cs`. -/
def noticedEntry (g : Nat → Channel → Channel × List EventData) (cs : List Nat) (s : State) (c : Nat) : Channel :=
  if c ∈ cs ∧ usedChannel s c = true then (g c (s.conv.channels.get c)).1 else s.conv.channels.get c

/-- The events of a notice with work `g` to the channels `cs`. -/
def noticeEvents (g : Nat → Channel → Channel × List EventData) (cs : List Nat) (s : State) : List Event :=
  (cs.filter (usedChannel s)).flatMap fun c => stampedAt s.life.clock (g c (s.conv.channels.get c)).2

section
variable {g : Nat → Channel → Channel × List EventData} {c : Nat} {cs : List Nat} {s : State}

theorem noticedEntry_cons (hg : ∀ c ch, (g c ch).1.cfg = ch.cfg) (hc : c ∉ cs) (d : Nat) :
    noticedEntry g cs (noticeChannel g s c) d = noticedEntry g (c :: cs) s d := by
  simp only [noticedEntry, usedChannel_noticeChannel hg, noticeChannel_get, List.mem_cons]
  obtain rfl | hd := eq_or_ne d c
  · simp [hc]
  · simp [hd]

theorem noticeEvents_cons (hg : ∀ c ch, (g c ch).1.cfg = ch.cfg) (hc : c ∉ cs) :
    (if usedChannel s c then stampedAt s.life.clock (g c (s.conv.channels.get c)).2 else []) ++
      noticeEvents g cs (noticeChannel g s c) = noticeEvents g (c :: cs) s := by
  have life : (noticeChannel g s c).life = s.life := by rw [noticeChannel_eq]
  have same : noticeEvents g cs (noticeChannel g s c) = noticeEvents g cs s := by
    unfold noticeEvents
    rw [List.filter_congr fun d _ => usedChannel_noticeChannel (d := d) hg]
    refine List.flatMap_congr fun d hd => ?_
    have other : d ≠ c := fun h => hc (h ▸ (List.mem_filter.mp hd).1)
    rw [life, noticeChannel_get, if_neg fun h => other h.1]
  rw [same]
  cases h : usedChannel s c <;> simp [noticeEvents, h]

/-- A notice to distinct channels, in this order: every in-use one has its work done, its events follow one another, and
nothing else changes. -/
theorem notice_eq (hg : ∀ c ch, (g c ch).1.cfg = ch.cfg) (hn : cs.Nodup) : cs.foldl (noticeChannel g) s = { s with
    conv := { s.conv with channels := Table.build 128 (noticedEntry g cs s) }
    ev := takes (noticeEvents g cs s) s.ev } := by
  induction cs generalizing s with
  | nil =>
    have kept : noticedEntry g [] s = s.conv.channels.get := funext fun c => by simp [noticedEntry]
    rw [kept, Table.build_get]
    rfl
  | cons c cs ih =>
    obtain ⟨hc, hn⟩ := List.nodup_cons.mp hn
    rw [List.foldl_cons, ih hn, ← noticeEvents_cons hg hc, takes_append,
      Table.build_congr fun d _ => noticedEntry_cons (s := s) hg hc d]
    generalize noticeEvents g cs (noticeChannel g s c) = later
    rw [noticeChannel_eq g s c]

end

/-! ### The channels of a scanner -/

/-- A scanner's channels, ascending (R47). -/
def scannerChannels (i : Nat) : List Nat := (List.range 16).map fun k => i * 16 + k

theorem mem_scannerChannels {i c : Nat} : c ∈ scannerChannels i ↔ c / 16 = i := by
  simp only [scannerChannels, List.mem_map, List.mem_range]
  exact ⟨fun ⟨k, hk, h⟩ => by omega, fun h => ⟨c % 16, by omega, by omega⟩⟩

theorem scannerChannels_nodup (i : Nat) : (scannerChannels i).Nodup :=
  List.nodup_range.map fun _ _ h => Nat.add_left_cancel h

/-- The work of a lost-frame notice on a channel (R65). -/
def lostWork (c : Nat) (ch : Channel) : Channel × List EventData :=
  ({ ch with sticky := ch.sticky.add .frameLost }, faultEvent c ch.sticky .frameLost 0)

theorem lostNotice_eq_foldl (i : Nat) (s : State) :
    lostNotice i s = (scannerChannels i).foldl (noticeChannel lostWork) s := by
  rw [scannerChannels, List.foldl_map]
  rfl

theorem silenceNotice_eq_foldl (i : Nat) (s : State) :
    silenceNotice i s = (scannerChannels i).foldl (noticeChannel silenceChannel) s := by
  rw [scannerChannels, List.foldl_map]
  rfl

/-- R65: a lost-frame notice for a scanner. -/
theorem lostNotice_eq (i : Nat) (s : State) : lostNotice i s = { s with
    conv := { s.conv with channels := Table.build 128 (lostChannel s i) }
    ev := takes (lostEvents s i) s.ev } := by
  have entries : noticedEntry lostWork (scannerChannels i) s = lostChannel s i := by
    funext c
    simp only [noticedEntry, mem_scannerChannels]
    rfl
  have events : noticeEvents lostWork (scannerChannels i) s = lostEvents s i :=
    (List.flatMap_congr fun c _ => stamped_faultEvent s.life.clock c _ _ _).trans (flatMap_filter_unless _ _ _ _)
  rw [lostNotice_eq_foldl, notice_eq (fun _ _ => rfl) (scannerChannels_nodup i), entries, events]

/-- A channel of no configured scanner is out of a lost-frame notice (R65). -/
theorem lostChannel_unconfigured {i : Nat} {s : State} (h : s.life.params.scannerCount ≤ i) (c : Nat) :
    lostChannel s i c = s.conv.channels.get c := by
  refine if_neg fun ⟨hi, used⟩ => ?_
  have below := of_decide_eq_true (Bool.and_eq_true_iff.mp used).2
  omega

end Sys2Proof.Machine
end

section
/-! A scanner that falls silent (O28). -/

namespace Sys2Proof.Machine

/-- The events of a silence notice for a scanner: for each in-use channel, ascending, FAULT_SET where STALE joins its set
and QUALITY where its quality changes (R66). -/
def silenceEvents (s : State) (i : Nat) : List Event :=
  ((scannerChannels i).filter (usedChannel s)).flatMap fun c =>
    (if (s.conv.channels.get c).sticky.stale = true then []
      else [⟨.channelFaultSet, BitVec.ofNat 16 c, s.life.clock, 7, 0⟩]) ++
      if (s.conv.channels.get c).quality = .stale then []
      else [⟨.channelQuality, BitVec.ofNat 16 c, s.life.clock,
        BitVec.ofNat 32 (s.conv.channels.get c).quality.code, 5⟩]

theorem noticeEvents_silence (i : Nat) (s : State) :
    noticeEvents silenceChannel (scannerChannels i) s = silenceEvents s i :=
  List.flatMap_congr fun c _ => by
    rw [silenceChannel, stampedAt, List.map_append]
    exact congrArg₂ _ (stamped_faultEvent ..) (stamped_qualityEvent ..)

/-- The number of a scanner's channels that are in use (R41). -/
theorem inUseCount_eq (s : State) (i : Nat) :
    inUseCount s i = ((scannerChannels i).filter (usedChannel s)).length := by
  rw [scannerChannels, List.filter_map, List.length_map]
  rfl

/-- R41, R66: what the fall into silence leaves. -/
theorem fallSilent_eq (i : Nat) (s : State) : fallSilent i s = { s with
    intake := { s.intake with scanners := s.intake.scanners.set i ⟨none, none, true⟩ }
    conv := { s.conv with channels := Table.build 128 (noticedEntry silenceChannel (scannerChannels i) s) }
    ev := takes (silenceEvents s i ++ [⟨.scannerSilent, BitVec.ofNat 16 i, s.life.clock,
      BitVec.ofNat 32 ((scannerChannels i).filter (usedChannel s)).length, 0⟩]) s.ev } := by
  rw [fallSilent, inUseCount_eq, silenceNotice_eq_foldl, notice_eq (fun _ _ => rfl) (scannerChannels_nodup i),
    noticeEvents_silence, takes_append]
  rfl

/-- Settles O28: a due timer lets the scanner fall silent, by the notice to its in-use channels. -/
theorem silentScannersChannelsGoStale : Obligations.SilentScannersChannelsGoStale := by
  intro i tm s ht
  have due : timerDue (s.intake.scanners.get i.val).timer (now s) = true ↔ tm.len ≤ (s.life.clock - tm.start).toNat := by
    rw [ht]
    exact decide_eq_true_iff
  refine ⟨fun h => ?_, fun early => if_neg fun h => (due.mp h).not_gt early⟩
  have runs : exec (.freshnessTimerExpiry i) s = .next (fallSilent i.val s) := if_pos (due.mpr h)
  refine ⟨_, runs.trans (congrArg _ (fallSilent_eq i.val s)), rfl, fun c hc => ?_⟩
  dsimp only
  rw [Table.get_build _ hc]
  have named : (c ∈ scannerChannels i.val ∧ usedChannel s c = true) ↔
      c / 16 = i.val ∧ (s.conv.channels.get c).cfg.inUse = true ∧ i.val < s.life.params.scannerCount := by
    rw [mem_scannerChannels, usedChannel, Bool.and_eq_true_iff, decide_eq_true_eq]
    exact and_congr_right fun h => by rw [h]
  simp only [noticedEntry, named]
  rfl

end Sys2Proof.Machine
end

section
/-! The completion of a slot by the capture of its last word (O24). -/

namespace Sys2Proof.Machine

/-! ### The fields of a frame and of a line (R30, R75, R179) -/

/-- The frame that the words of a slot spell (R30, R179). -/
def spelledFrame (word : Nat → W32) : Frame :=
  { scanner := (word 0).extractLsb' 0 8, seq := (word 0).extractLsb' 8 8, fault := (word 0).getLsbD 16
    overrun := (word 0).getLsbD 17, cj := ((word 1).extractLsb' 0 16).toInt
    inputs := Table.build 16 fun k =>
      ⟨((word (2 + k)).extractLsb' 0 16).toInt, (word (2 + k)).getLsbD 16, (word (2 + k)).getLsbD 17⟩ }

/-- The line that the words of a slot spell (R75, R179). -/
def spelledLine (word : Nat → W32) : Line :=
  { view := (word 0).extractLsb' 0 8, seq := (word 0).extractLsb' 8 8, fault := (word 0).getLsbD 16
    count := (word 0).toNat / 2 ^ 24 % 128
    pixels := Table.build 64 fun p => (word (1 + p / 2)).toNat / 2 ^ (16 * (p % 2)) % 65536 }

theorem frameOf_spelled {slot : Slot 18} {word : Nat → W32} (h : ∀ w ≤ 17, slot.words.get w = word w) :
    frameOf slot = spelledFrame word := by
  have inputs : (frameOf slot).inputs = (spelledFrame word).inputs := Table.build_congr fun k hk => by
    simp only [h (2 + k) (by omega), signed16_bits_eq_extract, bit_eq_getLsbD]
  have header : frameOf slot = { spelledFrame word with inputs := (frameOf slot).inputs } := by
    simp only [frameOf, spelledFrame, h 0 (by omega), h 1 (by omega), ofNat_bits_eq_extract, signed16_bits_eq_extract,
      bit_eq_getLsbD]
  rw [header, inputs]

theorem lineOf_spelled {slot : Slot 33} {word : Nat → W32} (h : ∀ w ≤ 32, slot.words.get w = word w) :
    lineOf slot = spelledLine word := by
  have pixels : (lineOf slot).pixels = (spelledLine word).pixels := Table.build_congr fun p hp => by
    rw [h (1 + p / 2) (by omega)]
    rfl
  have header : lineOf slot = { spelledLine word with pixels := (lineOf slot).pixels } := by
    simp only [lineOf, spelledLine, h 0 (by omega), ofNat_bits_eq_extract, bit_eq_getLsbD]
    rfl
  rw [header, pixels]

/-- The words of a slot behind the beat of its last word, which is merged by lane. -/
theorem mergeBeat_words_last {last : Nat} {slot : Slot (last + 1)} {b : Beat} {word : Nat → W32}
    (earlier : ∀ w < last, word w = slot.words.get w)
    (merged : ∀ lane < 4, (word last).extractLsb' (8 * lane) 8 =
      (if b.be.getLsbD lane then b.data else slot.words.get last).extractLsb' (8 * lane) 8) :
    ∀ w ≤ last, (mergeBeat slot last b).words.get w = word w := by
  intro w hw
  obtain before | rfl := hw.lt_or_eq
  · rw [mergeBeat_word_ne slot last b before.ne, earlier w before]
  · rw [mergeBeat_word_self slot w b (Nat.lt_succ_self w)]
    exact word_ext_lanes fun lane hl => (mergeBytes_lane _ b hl).trans (merged lane hl).symm

/-! ### What a completion does (R29, R31 to R33, R74, R76) -/

/-- QUEUE_FULL handed over for a frame that finds the queue full (R32). -/
def queueFullTold (i : Nat) (f : Frame) (s : State) : State :=
  emit .intakeQueueFull (subj i) (encNat f.scanner.toNat) (encNat f.seq.toNat) s

section
variable {i : Nat} {s : State}

/-- R31, R33: a frame offered with room in the queue joins it. -/
theorem offerFrame_joins (h : s.intake.queue.length < 32) (f : Frame) : offerFrame i f s = { s with
    intake := { s.intake with
      queue := s.intake.queue ++ [f]
      takeOk := if 28 ≤ s.intake.queue.length + 1 then false else s.intake.takeOk } } := by
  have joined : (s.intake.queue ++ [f]).length = s.intake.queue.length + 1 := List.length_append
  rw [← joined]
  exact if_pos h

/-- R31, R32, R65: a frame offered to a full queue is dropped, with a notice to its scanner where that is configured. -/
theorem offerFrame_drops (h : 32 ≤ s.intake.queue.length) (f : Frame) : offerFrame i f s = { s with
    conv := { s.conv with channels := Table.build 128 (lostChannel s f.scanner.toNat) }
    ev := takes (⟨.intakeQueueFull, BitVec.ofNat 16 i, s.life.clock, BitVec.ofNat 32 f.scanner.toNat,
        BitVec.ofNat 32 f.seq.toNat⟩ ::
      if f.scanner.toNat < s.life.params.scannerCount then lostEvents s f.scanner.toNat else []) s.ev } := by
  have drops : offerFrame i f s = if f.scanner.toNat < s.life.params.scannerCount
      then lostNotice f.scanner.toNat (queueFullTold i f s) else queueFullTold i f s := if_neg (Nat.not_lt.mpr h)
  rw [drops]
  split_ifs with configured
  · exact lostNotice_eq f.scanner.toNat (queueFullTold i f s)
  · have kept : lostChannel s f.scanner.toNat = s.conv.channels.get :=
      funext fun c => lostChannel_unconfigured (Nat.not_lt.mp configured) c
    rw [kept, Table.build_get]
    rfl

/-- R76: a line offered with room in the queue joins it. -/
theorem offerLine_joins (h : s.view.queue.length < 8) (l : Line) :
    offerLine i l s = { s with view := { s.view with queue := s.view.queue ++ [l] } } := if_pos h

/-- R76: a line offered to a full queue is dropped. -/
theorem offerLine_drops (h : 8 ≤ s.view.queue.length) (l : Line) : offerLine i l s = { s with
    ev := s.ev.take ⟨.pyroLineQueueFull, BitVec.ofNat 16 i, s.life.clock, BitVec.ofNat 32 l.view.toNat,
      BitVec.ofNat 32 l.seq.toNat⟩ } := if_neg (Nat.not_lt.mpr h)

theorem completeFrameSlot_whole {buf : Slot 18} (h : uncaptured buf 17 = []) :
    completeFrameSlot i buf s = offerFrame i (frameOf buf) (withFrameSlot i (Slot.empty 18) s) := by
  simp only [completeFrameSlot, h]

theorem completeFrameSlot_lacking {buf : Slot 18} {w : Nat} {rest : List Nat} (h : uncaptured buf 17 = w :: rest) :
    completeFrameSlot i buf s = emit .intakeIncomplete (subj i) (encNat (rest.length + 1)) (encNat w)
      (withFrameSlot i (Slot.empty 18) s) := by
  simp only [completeFrameSlot, h, List.length_cons]

theorem completeLineSlot_whole {buf : Slot 33} (h : uncaptured buf 32 = []) :
    completeLineSlot i buf s = offerLine i (lineOf buf) (withLineSlot i (Slot.empty 33) s) := by
  simp only [completeLineSlot, h]

theorem completeLineSlot_lacking {buf : Slot 33} {w : Nat} {rest : List Nat} (h : uncaptured buf 32 = w :: rest) :
    completeLineSlot i buf s = emit .pyroLineIncomplete (subj i) (encNat (rest.length + 1)) (encNat w)
      (withLineSlot i (Slot.empty 33) s) := by
  simp only [completeLineSlot, h, List.length_cons]

end

/-- Settles O24: the beat of the last word completes the slot; what follows is the offer of the frame or line that its
words spell, or the report of the words it lacks. -/
theorem completedSlotsAreQueuedOrReported : Obligations.CompletedSlotsAreQueuedOrReported := by
  intro off b word s hp hw h3
  constructor
  · intro last i slot earlier merged missing f cleared
    have runs : exec (.frameSlotWrite off b) s = .next (completeFrameSlot i (mergeBeat slot 17 b) s) :=
      (exec_frameSlotWrite hp hw off b).trans (congrArg _ (frameBeat_last last h3))
    have lacks : uncaptured (mergeBeat slot 17 b) 17 = missing := uncaptured_mergeBeat slot 17 b
    have spelled : frameOf (mergeBeat slot 17 b) = f := frameOf_spelled (mergeBeat_words_last earlier merged)
    refine ⟨fun whole room => ?_, fun whole full => ?_, fun w rest lacking => ?_⟩
    · rw [runs, completeFrameSlot_whole (lacks.trans whole), spelled]
      exact congrArg _ (offerFrame_joins (s := withFrameSlot i (Slot.empty 18) s) room f)
    · rw [completeFrameSlot_whole (lacks.trans whole), spelled,
        offerFrame_drops (s := withFrameSlot i (Slot.empty 18) s) full f] at runs
      exact ⟨_, runs, rfl, fun c hc => Table.get_build _ hc⟩
    · rw [runs, completeFrameSlot_lacking (lacks.trans lacking)]
      rfl
  · intro last i slot earlier merged missing l cleared
    have runs : exec (.lineSlotWrite off b) s = .next (completeLineSlot i (mergeBeat slot 32 b) s) :=
      (exec_lineSlotWrite hp hw off b).trans (congrArg _ (lineBeat_last last h3))
    have lacks : uncaptured (mergeBeat slot 32 b) 32 = missing := uncaptured_mergeBeat slot 32 b
    have spelled : lineOf (mergeBeat slot 32 b) = l := lineOf_spelled (mergeBeat_words_last earlier merged)
    refine ⟨fun whole room => ?_, fun whole full => ?_, fun w rest lacking => ?_⟩
    · rw [runs, completeLineSlot_whole (lacks.trans whole), spelled]
      exact congrArg _ (offerLine_joins (s := withLineSlot i (Slot.empty 33) s) room l)
    · rw [runs, completeLineSlot_whole (lacks.trans whole), spelled]
      exact congrArg _ (offerLine_drops (s := withLineSlot i (Slot.empty 33) s) full l)
    · rw [runs, completeLineSlot_lacking (lacks.trans lacking)]
      rfl

end Sys2Proof.Machine
end

section
/-! The take of the head frame (O25). -/

namespace Sys2Proof.Machine

/-- The gap that a frame's sequence leaves behind the remembered one; none where it is in order or none is remembered
(R37, R38). -/
def sequenceGap (remembered : Option Byte) (seq : Byte) : Option Byte :=
  remembered.bind fun m => if seq = m + 1 then none else some (seq - m - 1)

/-- The events of an acceptance before its notice: RESUMED and SEQ_GAP (R38, R42). -/
def acceptEvents (s : State) (f : Frame) (gap : Option Byte) : List Event :=
  (if (s.intake.scanners.get f.scanner.toNat).silent = true then
    [⟨.scannerResumed, BitVec.ofNat 16 f.scanner.toNat, s.life.clock, BitVec.ofNat 32 f.seq.toNat, 0⟩] else []) ++
  match gap with
    | some g => [⟨.scannerSeqGap, BitVec.ofNat 16 f.scanner.toNat, s.life.clock, BitVec.ofNat 32 g.toNat,
        BitVec.ofNat 32 f.seq.toNat⟩]
    | none => []

section
variable {s : State} {f : Frame}

/-- A frame of no configured scanner is discarded (R35). -/
theorem checkFrame_badScanner (h : s.life.params.scannerCount ≤ f.scanner.toNat) : checkFrame f s =
    emit .intakeBadScanner (subj f.scanner.toNat) (encNat f.seq.toNat) 0 s := if_pos h

/-- A frame that repeats the remembered sequence is discarded (R36). -/
theorem checkFrame_duplicate (h : f.scanner.toNat < s.life.params.scannerCount)
    (hr : (s.intake.scanners.get f.scanner.toNat).remembered = some f.seq) : checkFrame f s =
    emit .intakeDuplicate (subj f.scanner.toNat) (encNat f.seq.toNat) 0 s := by
  simp only [checkFrame, scannerCount, Nat.not_le.mpr h, if_false, hr, if_true]

/-- Any other frame is accepted, with the gap of its sequence (R37, R38). -/
theorem checkFrame_accepts (h : f.scanner.toNat < s.life.params.scannerCount)
    (hr : (s.intake.scanners.get f.scanner.toNat).remembered ≠ some f.seq) : checkFrame f s =
    acceptFrame f ((sequenceGap (s.intake.scanners.get f.scanner.toNat).remembered f.seq).map BitVec.toNat) s := by
  simp only [checkFrame, scannerCount, Nat.not_le.mpr h, if_false]
  cases hm : (s.intake.scanners.get f.scanner.toNat).remembered with
  | none => rfl
  | some m =>
    have other : f.seq ≠ m := fun e => hr (e ▸ hm)
    simp only [other, if_false, sequenceGap, Option.bind_some]
    split_ifs <;> rfl

/-- An acceptance up to its notice: the sequence is remembered, the freshness timer restarts, and RESUMED and SEQ_GAP are
handed over (R37, R38, R42). -/
def acceptTold (f : Frame) (gap : Option Byte) (s : State) : State := { s with
  intake := { s.intake with
    scanners := s.intake.scanners.set f.scanner.toNat
      ⟨some f.seq, some ⟨s.life.clock, s.life.params.freshnessS * 1000⟩, false⟩ }
  ev := takes (acceptEvents s f gap) s.ev }

theorem acceptFrame_told_first (f : Frame) (gap : Option Byte) (s : State) : acceptFrame f (gap.map BitVec.toNat) s =
    beginFrame f (if (gap.isSome || f.overrun) = true then lostNotice f.scanner.toNat (acceptTold f gap s)
      else acceptTold f gap s) := by
  unfold acceptFrame
  dsimp only
  rw [Option.isSome_map]
  refine congrArg (fun t => beginFrame f (if (gap.isSome || f.overrun) = true then lostNotice f.scanner.toNat t else t)) ?_
  unfold acceptTold acceptEvents
  cases gap <;> cases (s.intake.scanners.get f.scanner.toNat).silent <;> rfl

/-- What an acceptance leaves (R37, R38, R39, R42, R49, R65). -/
theorem acceptFrame_eq (f : Frame) (gap : Option Byte) (s : State) : acceptFrame f (gap.map BitVec.toNat) s = { s with
    intake := (acceptTold f gap s).intake
    conv := { s.conv with
      channels := if (gap.isSome || f.overrun) = true then Table.build 128 (lostChannel s f.scanner.toNat)
        else s.conv.channels
      inHand := some ⟨f, Table.build 16 fun k => (s.conv.channels.get (f.scanner.toNat * 16 + k)).cfg⟩ }
    ev := takes (acceptEvents s f gap ++
      if (gap.isSome || f.overrun) = true then lostEvents s f.scanner.toNat else []) s.ev } := by
  rw [acceptFrame_told_first]
  split_ifs
  · have cfgs c : ((lostNotice f.scanner.toNat (acceptTold f gap s)).conv.channels.get c).cfg =
        (s.conv.channels.get c).cfg := (lostNotice_kept _ _).channels c
    simp only [beginFrame, cfgs, channelAt]
    rw [lostNotice_eq, takes_append]
    rfl
  · rw [List.append_nil]
    rfl

end

/-- Settles O25: the head frame leaves the queue and is checked in the order of R34's table. -/
theorem framesAreTakenInTurn : Obligations.FramesAreTakenInTurn := by
  intro f rest s hp hh hq i sc popped
  have runs : exec .frameTake s = .next (checkFrame f (popFrame rest s)) := by
    simp only [exec, execFrameTake, hp, hh, hq]
  refine ⟨fun bad => ?_, fun good again => ?_, fun good fresh => ?_⟩
  · rw [runs, checkFrame_badScanner (s := popFrame rest s) bad]
    rfl
  · rw [runs, checkFrame_duplicate (s := popFrame rest s) good again]
    rfl
  · intro gap lost
    refine ⟨_, runs.trans (congrArg _ ((checkFrame_accepts (s := popFrame rest s) good fresh).trans
      (acceptFrame_eq f gap _))), ?_, fun c hc => ?_⟩
    · rfl
    · dsimp only
      split_ifs
      · exact Table.get_build _ hc
      · rfl

end Sys2Proof.Machine
end

section
/-! Temperatures in their range (O59): what the arithmetic of spec 04 to 07 leaves in a value, part by part. -/

namespace Sys2Proof.Machine

/-! ### Values -/

theorem inTempRange_none : inTempRange none := nofun

theorem inTempRange_some {x : Int} : inTempRange (some x) ↔ -5000 ≤ x ∧ x ≤ 15000 := by simp [inTempRange]

/-- Saturation leaves a value in the range (spec 00). -/
theorem inTempRange_satTemp (x : Int) : inTempRange (some (satTemp x)) := by
  rw [inTempRange_some, satTemp, saturate, tempMin, tempMax]
  split_ifs <;> omega

/-- The rounded mean of two values in the range lies in it (R1, R102). -/
theorem inTempRange_mean {x y : Int} (hx : inTempRange (some x)) (hy : inTempRange (some y)) :
    inTempRange (some (q (x + y) 2)) := by
  rw [inTempRange_some] at hx hy ⊢
  unfold q
  omega

/-! ### Channels (R47, R60 to R62) -/

/-- A channel's temperatures lie in the range, and one is supplied exactly in GOOD and SUSPECT. -/
def Channel.Ranged (ch : Channel) : Prop :=
  inTempRange ch.supplied ∧ inTempRange ch.lastConv ∧
    (ch.supplied.isSome = true ↔ ch.quality = .good ∨ ch.quality = .suspect)

/-- What `Channel.Ranged` reads. -/
def Channel.temps (ch : Channel) : Quality × Option Int × Option Int := (ch.quality, ch.supplied, ch.lastConv)

theorem Channel.Ranged.congr {x y : Channel} (h : x.Ranged) (e : y.temps = x.temps) : y.Ranged := by
  obtain ⟨hq, hs, hl⟩ : y.quality = x.quality ∧ y.supplied = x.supplied ∧ y.lastConv = x.lastConv := by
    simpa [Channel.temps] using e
  unfold Channel.Ranged
  rw [hq, hs, hl]
  exact h

theorem channel_default_ranged : (default : Channel).Ranged := ⟨nofun, nofun, by decide⟩

theorem freshChannel_ranged (below : Bool) (ch : Channel) : (freshChannel below ch).Ranged := by
  refine ⟨nofun, nofun, ?_⟩
  unfold freshChannel
  dsimp only
  split_ifs <;> simp

/-- A GOOD verdict supplies its temperature or none, by the quality it leaves (R60). -/
theorem debounceGood_ranged (full : Bool) {t : Int} (ht : inTempRange (some t)) (quality : Quality) :
    inTempRange (debounceGood full t quality).2 ∧ ((debounceGood full t quality).2.isSome = true ↔
      (debounceGood full t quality).1 = .good ∨ (debounceGood full t quality).1 = .suspect) := by
  cases quality <;> cases full <;> simp [debounceGood, ht, inTempRange_none]

/-- A bad verdict holds the temperature supplied or supplies none, by the quality it leaves (R61). -/
theorem debounceBad_ranged (full : Bool) {held : Option Int} {quality : Quality} (hr : inTempRange held)
    (hs : held.isSome = true ↔ quality = .good ∨ quality = .suspect) :
    inTempRange (debounceBad full held quality).2 ∧ ((debounceBad full held quality).2.isSome = true ↔
      (debounceBad full held quality).1 = .good ∨ (debounceBad full held quality).1 = .suspect) := by
  cases quality <;> cases full <;> simp_all [debounceBad, inTempRange_none]

/-- One reading leaves a channel in range (R55, R60, R61). -/
theorem readChannel_ranged {ch : Channel} (h : ch.Ranged) (c d : Nat) (f : Frame) (rd : Reading) (cfg : ChannelCfg)
    (curve : List Breakpoint) (clock : W32) : (readChannel c d f rd cfg curve clock ch).1.Ranged := by
  obtain ⟨hs, hl, hq⟩ := h
  unfold readChannel
  dsimp only
  generalize judge f.fault f.cj rd cfg curve ch.lastConv = o
  have converted : inTempRange (match o.sum with | some x => some (satTemp x) | none => ch.lastConv) := by
    cases o.sum
    · exact hl
    · exact inTempRange_satTemp _
  cases ho : o.verdict with
  | none =>
    obtain ⟨hr, hi⟩ := debounceGood_ranged (fullRun d true (pushVerdict d true ch.history))
      (inTempRange_satTemp (o.sum.getD 0)) ch.quality
    exact ⟨hr, converted, hi⟩
  | some k =>
    obtain ⟨hr, hi⟩ := debounceBad_ranged (fullRun d false (pushVerdict d false ch.history)) hs hq
    exact ⟨hr, converted, hi⟩

theorem silenceChannel_ranged (c : Nat) (ch : Channel) : (silenceChannel c ch).1.Ranged := by
  refine ⟨nofun, nofun, ?_⟩
  simp [silenceChannel]

/-! ### The image of a recompute (R98) -/

/-- The temperatures of one cell's image lie in the range. -/
def CellImage.Ranged (i : CellImage) : Prop :=
  inTempRange (i.a.bind ChanImage.supplied) ∧ inTempRange (i.b.bind ChanImage.supplied) ∧
    inTempRange (i.spot.map SpotImage.value)

/-- The image in the workspace lies in the range. -/
def WorkRanged (w : Option Work) : Prop := ∀ x, w = some x → ∀ i ∈ x.image, i.Ranged

theorem cellImage_default_ranged : (default : CellImage).Ranged := ⟨nofun, nofun, nofun⟩

theorem image_getD_ranged {image : List CellImage} (h : ∀ i ∈ image, i.Ranged) (k : Nat) :
    (image.getD k default).Ranged := by
  rw [List.getD_eq_getElem?_getD]
  cases hk : image[k]? with
  | none => exact cellImage_default_ranged
  | some i => exact h i (List.mem_of_getElem? hk)

/-! ### Cells (R92, R102 to R106) -/

/-- A cell's temperatures lie in the range, and it is without one exactly where it is VOID or OOS. -/
def Cell.Ranged (c : Cell) : Prop :=
  (inTempRange c.temp ∧ (c.temp = none ↔ c.source = .void ∨ c.source = .oos)) ∧
    inTempRange c.tcComp ∧ inTempRange (c.snap.map Snapshot.value)

/-- What `Cell.Ranged` reads. -/
def Cell.temps (c : Cell) : Option Int × Source × Option Int × Option Snapshot := (c.temp, c.source, c.tcComp, c.snap)

theorem Cell.Ranged.congr {x y : Cell} (h : x.Ranged) (e : y.temps = x.temps) : y.Ranged := by
  obtain ⟨ht, hs, hc, hn⟩ : y.temp = x.temp ∧ y.source = x.source ∧ y.tcComp = x.tcComp ∧ y.snap = x.snap := by
    simpa [Cell.temps] using e
  unfold Cell.Ranged
  rw [ht, hs, hc, hn]
  exact h

theorem cell_default_ranged : (default : Cell).Ranged := ⟨⟨nofun, by decide⟩, nofun, nofun⟩

theorem emptiedCell_ranged {src : Source} (h : src = .void ∨ src = .oos) (c : Cell) : (emptiedCell src c).Ranged :=
  ⟨⟨nofun, ⟨fun _ => h, fun _ => rfl⟩⟩, nofun, nofun⟩

theorem heldCell_ranged {c : Cell} (h : c.Ranged) (ht : c.temp.isSome = true) (direct : Option W32) :
    (heldCell direct c).Ranged := by
  obtain ⟨⟨hr, -⟩, -⟩ := h
  refine ⟨⟨hr, ?_⟩, nofun, nofun⟩
  simpa [heldCell] using Option.isSome_iff_ne_none.mp ht

theorem loadCell_ranged {cell : Cell} (h : cell.Ranged) (s : State) (x : Pass) (c : Nat) :
    (loadCell s x c cell).Ranged := by
  unfold loadCell
  split_ifs with _ _ ht
  · exact emptiedCell_ranged (.inr rfl) cell
  · exact heldCell_ranged h ht _
  · exact emptiedCell_ranged (.inl rfl) cell
  · exact emptiedCell_ranged (.inl rfl) cell

theorem failCell_ranged {cell : Cell} (h : cell.Ranged) (e : Extent) (c : Nat) : (failCell e c cell).Ranged := by
  unfold failCell
  split_ifs with _ ht
  · exact heldCell_ranged h ht _
  · have absent : cell.temp = none := by simpa using ht
    exact ⟨⟨h.1.1, by simp [absent]⟩, nofun, nofun⟩
  · exact h

/-- What fusion gives lies in the range, and is without a temperature exactly where it is VOID or OOS. -/
def Fused.Ranged (d : Fused) : Prop :=
  (inTempRange d.temp ∧ (d.temp = none ↔ d.source = .void ∨ d.source = .oos)) ∧ inTempRange d.tc

theorem fused_default_ranged : (default : Fused).Ranged := ⟨⟨nofun, by decide⟩, nofun⟩

/-- A saturated temperature under a source that has one. -/
theorem fused_ranged {d : Fused} {x : Int} (hx : d.temp = some (satTemp x)) (hs : d.source ≠ .void ∧ d.source ≠ .oos)
    (ht : inTempRange d.tc) : d.Ranged := by
  refine ⟨⟨hx ▸ inTempRange_satTemp x, ?_⟩, ht⟩
  simp [hx, hs]

theorem fused_void_ranged (disagree clamped : Bool) : (⟨none, .void, disagree, clamped, none⟩ : Fused).Ranged :=
  ⟨⟨nofun, by simp⟩, nofun⟩

/-- The value of the channels lies in the range: one of them, their mean or the higher (R102). -/
theorem tcOf_ranged {ci : CellImage} (h : ci.Ranged) (limit : Int) : inTempRange (tcOf limit ci).1 := by
  obtain ⟨ha, hb, -⟩ := h
  have supplied : ∀ t ∈ suppliedOf ci, inTempRange (some t) := by
    intro t ht
    obtain ⟨ch, hch, he⟩ := List.mem_filterMap.mp ht
    rw [← he]
    obtain rfl | rfl : ch = ci.a ∨ ch = ci.b := by simpa using hch
    · exact ha
    · exact hb
  unfold tcOf
  split
  · exact inTempRange_none
  next t he => exact supplied t (by simp [he])
  next ta tb _ he =>
    have hta := supplied ta (by simp [he])
    have htb := supplied tb (by simp [he])
    split
    · dsimp only
      obtain e | e := max_choice ta tb
      · rw [e]; exact hta
      · rw [e]; exact htb
    · exact inTempRange_mean hta htb

theorem direct_ranged {ci : CellImage} (h : ci.Ranged) (cfg : PassCfg) : (direct cfg ci).Ranged := by
  have tc := tcOf_ranged h cfg.disagreeLimit
  unfold direct
  dsimp only
  split
  · exact fused_ranged rfl (by simp) tc
  · exact fused_ranged rfl (by simp) tc
  · exact fused_ranged rfl (by simp) inTempRange_none
  · exact fused_void_ranged _ _

theorem interpolated_ranged {d : Fused} (h : d.Ranged) (cfg : PassCfg) (ds : List Fused) (k : Nat) :
    (interpolated cfg ds k d).Ranged := by
  unfold interpolated
  split
  · exact h
  · split
    · split
      · split
        · exact fused_ranged rfl (by simp) inTempRange_none
        · exact h
      · exact h
    · exact h

theorem heldOrVoid_ranged {d : Fused} (h : d.Ranged) {old : Cell} (ho : inTempRange old.temp) (holdS : Nat) (clock : W32) :
    (heldOrVoid holdS clock old d).Ranged := by
  unfold heldOrVoid
  split
  · exact h
  · split
    next t _ he _ =>
      split
      · exact ⟨⟨he ▸ ho, by simp⟩, nofun⟩
      · exact fused_void_ranged _ _
    next => exact fused_void_ranged _ _

theorem fuseAt_ranged {image : List CellImage} (h : ∀ i ∈ image, i.Ranged) {old : Cell} (ho : old.Ranged)
    (cfg : PassCfg) (clock : W32) (k : Nat) : (fuseAt cfg clock image k old).Ranged := by
  refine heldOrVoid_ranged (interpolated_ranged ?_ cfg _ k) ho.1.1 _ clock
  rw [List.getD_eq_getElem?_getD, List.getElem?_map]
  cases hk : image[k]? with
  | none => exact fused_default_ranged
  | some i => exact direct_ranged (h i (List.mem_of_getElem? hk)) cfg

/-- A cell record after its commit (R99). -/
theorem commitCell_ranged {ci : CellImage} (hi : ci.Ranged) {d : Fused} (hd : d.Ranged) (clock : W32) (old : Cell) :
    (commitCell clock ci d old).Ranged := by
  refine ⟨hd.1, hd.2, ?_⟩
  have same : (snapshotOf ci).map Snapshot.value = ci.spot.map SpotImage.value := by
    unfold snapshotOf
    cases ci.spot <;> rfl
  simpa only [commitCell, same] using hi.2.2

/-! ### Spots, pairings and rate references (R81, R84, R125) -/

def SpotRanged (sp : Option Spot) : Prop := inTempRange (sp.map Spot.value)

theorem spotRanged_none : SpotRanged none := inTempRange_none

theorem spotRanged_of_value {sp : Spot} {x : Int} (h : sp.value = satTemp x) : SpotRanged (some sp) := by
  unfold SpotRanged
  rw [Option.map_some, h]
  exact inTempRange_satTemp x

def PairingRanged (p : Option Pairing) : Prop := inTempRange (p.map Pairing.tc)

def RefRanged (r : AlarmRec) : Prop := inTempRange (r.ref.map RateRef.temp)

theorem refRanged_default : RefRanged default := nofun

theorem RefRanged.congr {x y : AlarmRec} (h : RefRanged x) (e : y.ref = x.ref) : RefRanged y := by
  unfold RefRanged
  rw [e]
  exact h

theorem refRanged_of_none {r : AlarmRec} (h : r.ref = none) : RefRanged r := by
  unfold RefRanged
  rw [h]
  exact inTempRange_none

theorem pairingOf_ranged {ci : CellImage} (h : ci.Ranged) (cfg : PassCfg) (clock : W32) :
    PairingRanged (pairingOf cfg clock ci) := by
  have tc := tcOf_ranged h cfg.disagreeLimit
  unfold pairingOf
  dsimp only
  split
  next t _ ht _ =>
    rw [ht] at tc
    split
    · exact tc
    · exact inTempRange_none
  next => exact inTempRange_none

/-- The reference is kept, or taken anew from the cell's temperature (R125). -/
theorem rateStep_ref_ranged {r : AlarmRec} (h : RefRanged r) {i : AlarmIn} (hi : inTempRange i.temp) :
    RefRanged (rateStep i r).1 := by
  unfold rateStep
  split
  next t _ ht =>
    rw [ht] at hi
    split
    · exact hi
    · split
      · exact h
      · exact hi
  · exact h
  · exact h

theorem levelStep_ref (i : AlarmIn) (r : AlarmRec) : (levelStep i r).1.ref = r.ref := by
  unfold levelStep
  split
  · rfl
  · dsimp only
    split
    · split <;> rfl
    · split <;> rfl

theorem exposureStep_ref (i : AlarmIn) (r : AlarmRec) : (exposureStep i r).ref = r.ref := by
  unfold exposureStep addExposure
  split
  · split
    · split <;> rfl
    · rfl
  · rfl
  · rfl

theorem alarmCell_ref_ranged {r : AlarmRec} (h : RefRanged r) {i : AlarmIn} (hi : inTempRange i.temp) :
    RefRanged (alarmCell i r).1 :=
  (rateStep_ref_ranged (r := marginStep i r) h hi).congr ((exposureStep_ref _ _).trans (levelStep_ref _ _))

end Sys2Proof.Machine
end

section
/-! Every step keeps the temperatures in their range (O59): what leaves them alone, and the moves that write them. -/

namespace Sys2Proof.Machine

section
variable {s t u : State}

/-! ### InRange, table by table -/

theorem State.inRange_iff (s : State) : s.InRange ↔
    s.map.cells.All Cell.Ranged ∧ s.conv.channels.All Channel.Ranged ∧ s.view.spots.All SpotRanged ∧
      s.view.pairings.All PairingRanged ∧ s.alarm.recs.All RefRanged ∧ WorkRanged s.map.work :=
  ⟨fun h => ⟨fun c hc => ⟨h.cells c hc, h.parts c hc⟩, h.channels, h.spots, h.pairings, h.references, h.image⟩,
    fun ⟨hc, hch, hs, hp, hr, hw⟩ =>
      ⟨fun c hl => (hc c hl).1, fun c hl => (hc c hl).2, hch, hs, hp, hr, hw⟩⟩

/-- The temperatures of two states are the same: the cells' and the channels' with their sources and qualities, the rate
references and the recompute's image. -/
structure SameTemps (s t : State) : Prop where
  cells : ∀ c, (t.map.cells.get c).temps = (s.map.cells.get c).temps
  channels : ∀ c, (t.conv.channels.get c).temps = (s.conv.channels.get c).temps
  spots : t.view.spots = s.view.spots
  pairings : t.view.pairings = s.view.pairings
  references : ∀ c, (t.alarm.recs.get c).ref = (s.alarm.recs.get c).ref
  image : t.map.work.map Work.image = s.map.work.map Work.image

theorem SameTemps.inRange (e : SameTemps s t) (h : s.InRange) : t.InRange := by
  obtain ⟨hc, hch, hs, hp, hr, hw⟩ := s.inRange_iff.mp h
  refine t.inRange_iff.mpr ⟨fun c hl => (hc c hl).congr (e.cells c), fun c hl => (hch c hl).congr (e.channels c),
    e.spots ▸ hs, e.pairings ▸ hp, fun c hl => (hr c hl).congr (e.references c), fun w hw' => ?_⟩
  have image := e.image
  rw [hw', Option.map_some] at image
  obtain ⟨v, hv, hi⟩ := Option.map_eq_some_iff.mp image.symm
  exact hi ▸ hw v hv

/-! ### What writes one table -/

theorem State.InRange.withCells (h : s.InRange) {x : Table Cell 512} (hx : x.All Cell.Ranged) : (withCells x s).InRange := by
  obtain ⟨-, hch, hs, hp, hr, hw⟩ := s.inRange_iff.mp h
  exact (State.inRange_iff _).mpr ⟨hx, hch, hs, hp, hr, hw⟩

theorem State.InRange.withChannels (h : s.InRange) {x : Table Channel 128} (hx : x.All Channel.Ranged) :
    (withChannels x s).InRange := by
  obtain ⟨hc, -, hs, hp, hr, hw⟩ := s.inRange_iff.mp h
  exact (State.inRange_iff _).mpr ⟨hc, hx, hs, hp, hr, hw⟩

theorem State.InRange.withSpots (h : s.InRange) {x : Table (Option Spot) 512} (hx : x.All SpotRanged) :
    (withSpots x s).InRange := by
  obtain ⟨hc, hch, -, hp, hr, hw⟩ := s.inRange_iff.mp h
  exact (State.inRange_iff _).mpr ⟨hc, hch, hx, hp, hr, hw⟩

theorem State.InRange.withPairings (h : s.InRange) {x : Table (Option Pairing) 512} (hx : x.All PairingRanged) :
    (withPairings x s).InRange := by
  obtain ⟨hc, hch, hs, -, hr, hw⟩ := s.inRange_iff.mp h
  exact (State.inRange_iff _).mpr ⟨hc, hch, hs, hx, hr, hw⟩

theorem State.InRange.withRecs (h : s.InRange) {x : Table AlarmRec 512} (hx : x.All RefRanged) : (withRecs x s).InRange := by
  obtain ⟨hc, hch, hs, hp, -, hw⟩ := s.inRange_iff.mp h
  exact (State.inRange_iff _).mpr ⟨hc, hch, hs, hp, hx, hw⟩

theorem State.InRange.withWork (h : s.InRange) {x : Option Work} (hx : WorkRanged x) : (withWork x s).InRange := by
  obtain ⟨hc, hch, hs, hp, hr, -⟩ := s.inRange_iff.mp h
  exact (State.inRange_iff _).mpr ⟨hc, hch, hs, hp, hr, hx⟩

theorem State.InRange.cellTable (h : s.InRange) : s.map.cells.All Cell.Ranged := (s.inRange_iff.mp h).1

theorem State.InRange.channelTable (h : s.InRange) : s.conv.channels.All Channel.Ranged := (s.inRange_iff.mp h).2.1

theorem State.InRange.cell (h : s.InRange) (c : Nat) : (s.map.cells.get c).Ranged :=
  h.cellTable.get cell_default_ranged c

theorem State.InRange.channel (h : s.InRange) (c : Nat) : (s.conv.channels.get c).Ranged :=
  h.channelTable.get channel_default_ranged c

theorem State.InRange.ref (h : s.InRange) (c : Nat) : RefRanged (s.alarm.recs.get c) :=
  Table.All.get (P := RefRanged) h.references refRanged_default c

theorem State.InRange.spot (h : s.InRange) (c : Nat) : SpotRanged (s.view.spots.get c) :=
  Table.All.get (P := SpotRanged) h.spots inTempRange_none c

/-! ### What leaves the temperatures (R64, R65, R73 to R79, R108 to R116) -/

/-- A lost-frame notice works on the sticky sets alone (R65). -/
@[simp] theorem lostNotice_temps (i : Nat) (s : State) (c : Nat) :
    ((lostNotice i s).conv.channels.get c).temps = (s.conv.channels.get c).temps := by
  unfold lostNotice
  refine forIdx_same (fun u : State => (u.conv.channels.get c).temps) (fun j u => ?_) s
  dsimp only
  split
  · rw [putChannel_channels]
    exact Table.get_set_same Channel.temps (by rfl) c
  · rfl

@[simp] theorem frameBeat_temps (off : Nat) (b : Beat) (s : State) (c : Nat) :
    ((frameBeat off b s).conv.channels.get c).temps = (s.conv.channels.get c).temps := by
  have offered (i : Nat) (f : Frame) (u : State) :
      ((offerFrame i f u).conv.channels.get c).temps = (u.conv.channels.get c).temps := by
    unfold offerFrame
    dsimp only
    split
    · rfl
    · split <;> simp
  unfold frameBeat completeFrameSlot
  dsimp only
  split
  · rfl
  · split
    · split <;> simp [offered]
    · simp

@[simp] theorem acceptFrame_temps (f : Frame) (gap : Option Nat) (s : State) (c : Nat) :
    ((acceptFrame f gap s).conv.channels.get c).temps = (s.conv.channels.get c).temps := by
  unfold acceptFrame
  dsimp only
  cases gap <;> dsimp only <;> split <;> split <;> simp [beginFrame]

@[simp] theorem checkFrame_temps (f : Frame) (s : State) (c : Nat) :
    ((checkFrame f s).conv.channels.get c).temps = (s.conv.channels.get c).temps := by
  unfold checkFrame
  dsimp only
  split
  · rfl
  · split
    · simp
    · split
      · rfl
      · split <;> simp

@[simp] theorem clearFaultRange_temps (first last : Nat) (s : State) (c : Nat) :
    ((clearFaultRange first last s).conv.channels.get c).temps = (s.conv.channels.get c).temps :=
  Table.get_mapIdx_same Channel.temps (fun i ch => by split <;> rfl) s.conv.channels c

@[simp] theorem setChannelOffset_temps (i : Nat) (v : Int) (s : State) (c : Nat) :
    ((setChannelOffset i v s).conv.channels.get c).temps = (s.conv.channels.get c).temps :=
  Table.get_set_same Channel.temps (by rfl) c

@[simp] theorem lineBeat_spots (off : Nat) (b : Beat) (s : State) :
    (lineBeat off b s).view.spots = s.view.spots ∧ (lineBeat off b s).view.pairings = s.view.pairings := by
  unfold lineBeat completeLineSlot offerLine
  dsimp only
  split
  · exact ⟨rfl, rfl⟩
  · split
    · split
      · split <;> exact ⟨rfl, rfl⟩
      · exact ⟨rfl, rfl⟩
    · exact ⟨rfl, rfl⟩

@[simp] theorem checkLine_spots (l : Line) (s : State) :
    (checkLine l s).view.spots = s.view.spots ∧ (checkLine l s).view.pairings = s.view.pairings := by
  unfold checkLine
  dsimp only
  split
  · exact ⟨rfl, rfl⟩
  · split
    · exact ⟨rfl, rfl⟩
    · split <;> exact ⟨rfl, rfl⟩

/-- Where each round's work leaves a cell's rate reference, a run over the positions of a pass leaves them all. -/
theorem forIdx_putAlarm_ref {n : Nat} {cell : Nat → Nat} {g : Nat → AlarmRec → AlarmRec × List EventData}
    (hg : ∀ c r, (g c r).1.ref = r.ref) (s : State) (c : Nat) :
    ((forIdx n (fun i u => putAlarm (cell i) (g (cell i) (u.alarm.recs.get (cell i))) u) s).alarm.recs.get c).ref =
      (s.alarm.recs.get c).ref := by
  refine forIdx_same (fun u : State => (u.alarm.recs.get c).ref) (fun i u => ?_) s
  rw [putAlarm_recs]
  exact Table.get_set_same AlarmRec.ref (hg _ _) c

theorem evalAlm_recs (s : State) : (evalAlm s).alarm.recs = s.alarm.recs := rfl

@[simp] theorem alarmOosEntry_ref (p : Nat) (s : State) (c : Nat) :
    ((alarmOosEntry p s).alarm.recs.get c).ref = (s.alarm.recs.get c).ref := by
  unfold alarmOosEntry
  rw [evalAlm_recs]
  exact forIdx_putAlarm_ref (cell := cellAt p) (g := alarmCellOos) (fun _ _ => rfl) s c

@[simp] theorem alarmInhibit_ref (p : Nat) (s : State) (c : Nat) :
    ((alarmInhibit p s).alarm.recs.get c).ref = (s.alarm.recs.get c).ref := by
  refine forIdx_putAlarm_ref (cell := cellAt p) (g := alarmCellInhibit) (fun i r => ?_) s c
  unfold alarmCellInhibit
  split <;> rfl

@[simp] theorem ackCell_ref (i : Nat) (s : State) (c : Nat) :
    ((ackCell i s).alarm.recs.get c).ref = (s.alarm.recs.get c).ref :=
  Table.get_set_same AlarmRec.ref (by rfl) c

@[simp] theorem ackPassCells_ref (p : Nat) (s : State) (c : Nat) :
    ((ackPassCells p s).alarm.recs.get c).ref = (s.alarm.recs.get c).ref :=
  Table.get_mapIdx_same AlarmRec.ref (fun i r => by split <;> rfl) s.alarm.recs c

@[simp] theorem resetExposureOf_ref (i : Nat) (s : State) (c : Nat) :
    ((resetExposureOf i s).alarm.recs.get c).ref = (s.alarm.recs.get c).ref :=
  Table.get_set_same AlarmRec.ref (by rfl) c

@[simp] theorem alarmLoadFail_ref (s : State) (c : Nat) :
    ((alarmLoadFail s).alarm.recs.get c).ref = (s.alarm.recs.get c).ref :=
  Table.get_mapIdx_same AlarmRec.ref (fun i r => by split <;> rfl) s.alarm.recs c

/-- A freeze marks the recompute in flight and leaves its image (R113). -/
@[simp] theorem freezePass_image (p : Nat) (s : State) :
    (freezePass p s).map.work.map Work.image = s.map.work.map Work.image := by
  unfold freezePass
  dsimp only
  split
  · rfl
  · split
    next w hw => split <;> simp [hw]
    next hw => simp

@[simp] theorem freezePasses_image (ps : List Nat) (s : State) :
    (freezePasses ps s).map.work.map Work.image = s.map.work.map Work.image :=
  foldl_same (fun u : State => u.map.work.map Work.image) (fun u p => freezePass_image p u) ps s

@[simp] theorem carryOutUrgent_image (c : Urgent) (s : State) :
    (carryOutUrgent c s).map.work.map Work.image = s.map.work.map Work.image := by
  cases hp : s.life.phase
  case run => cases c <;> simp [carryOutUrgent, hp]
  all_goals simp [carryOutUrgent, hp]

@[simp] theorem acceptUrgent_image (s : State) :
    (acceptUrgent s).map.work.map Work.image = s.map.work.map Work.image := by
  unfold acceptUrgent
  dsimp only
  split
  · rfl
  · split <;> simp

@[simp] theorem acceptAtOnce_image (s : State) :
    (acceptAtOnce s).map.work.map Work.image = s.map.work.map Work.image := by
  unfold acceptAtOnce
  split <;> simp

@[simp] theorem cmdWriteEnded_image (s : State) :
    (cmdWriteEnded s).map.work.map Work.image = s.map.work.map Work.image := by
  obtain ⟨-, h⟩ | ⟨-, -, h⟩ | ⟨-, h⟩ := cmdWriteEnded_cases s <;> simp [h]

@[simp] theorem urgentWrite_image (reg : Option Urgent) (s : State) :
    (urgentWrite reg s).map.work.map Work.image = s.map.work.map Work.image := by
  unfold urgentWrite
  dsimp only
  split <;> simp

@[simp] theorem urgentRefused_image (v : W32) (s : State) :
    (urgentRefused v s).map.work.map Work.image = s.map.work.map Work.image := by
  simp [urgentRefused]

@[simp] theorem ringFetchFailed_image (s : State) :
    (ringFetchFailed s).map.work.map Work.image = s.map.work.map Work.image := by
  unfold ringFetchFailed
  dsimp only
  split <;> simp

@[simp] theorem finishEntry_image (s : State) :
    (finishEntry s).map.work.map Work.image = s.map.work.map Work.image := by
  simp [finishEntry]

/-! ### Frames and silence (R49, R66) -/

theorem State.InRange.putChannel (h : s.InRange) (c : Nat) {out : Channel × List EventData} (ho : out.1.Ranged) :
    (putChannel c out s).InRange :=
  SameTemps.inRange (s := Machine.withChannels (s.conv.channels.set c out.1) s) (by constructor <;> simp [Machine.putChannel])
    (h.withChannels (h.channelTable.set ho c))

theorem State.InRange.convertFrame (h : s.InRange) (job : FrameJob) : (convertFrame job s).InRange := by
  unfold Machine.convertFrame
  refine forIdx_keeps (P := State.InRange) (fun i u hu => ?_) (SameTemps.inRange (s := s) (by constructor <;> simp) h)
  dsimp only
  split
  · exact hu.putChannel _ (readChannel_ranged (hu.channel _) ..)
  · exact hu

theorem State.InRange.fallSilent (h : s.InRange) (i : Nat) : (fallSilent i s).InRange := by
  have noticed (u : State) (hu : u.InRange) : (silenceNotice i u).InRange := by
    unfold silenceNotice
    refine forIdx_keeps (P := State.InRange) (fun j v hv => ?_) hu
    dsimp only
    split
    · exact hv.putChannel _ (silenceChannel_ranged _ _)
    · exact hv
  have marked : (withScanners (s.intake.scanners.set i ⟨none, none, true⟩) s).InRange :=
    SameTemps.inRange (by constructor <;> simp) h
  exact SameTemps.inRange (by constructor <;> simp [Machine.fallSilent]) (noticed _ marked)

/-! ### Lines (R82) -/

theorem State.InRange.completeLine (h : s.InRange) (job : LineJob) : (completeLine job s).InRange := by
  unfold Machine.completeLine
  refine foldl_keeps (Q := State.InRange) (fun u sp hu => ?_) _ (SameTemps.inRange (s := s) (by constructor <;> simp) h)
  unfold writeSpot
  split
  · exact hu.withSpots (Table.All.set (P := SpotRanged) hu.spots (spotRanged_of_value rfl) _)
  · exact hu

/-! ### Recomputes (R97 to R99) -/

/-- The image takes a supplied temperature from the channels in GOOD and SUSPECT (R98). -/
theorem chanImage_ranged (h : s.InRange) (c : Nat) : inTempRange (chanImage s c).supplied := by
  have supplied := (h.channel c).1
  unfold chanImage
  dsimp only
  split
  · exact supplied
  · exact supplied
  all_goals exact inTempRange_none

theorem cellImage_ranged (h : s.InRange) (maxAgeS c : Nat) : (cellImage s maxAgeS c).Ranged := by
  have channel (o : Option Nat) : inTempRange ((o.map (chanImage s)).bind ChanImage.supplied) := by
    cases o
    · exact inTempRange_none
    · exact chanImage_ranged h _
  refine ⟨channel _, channel _, ?_⟩
  have spot := h.spot c
  unfold SpotRanged at spot
  unfold cellImage
  dsimp only
  rw [Option.map_map]
  exact spot

theorem imageOf_ranged (h : s.InRange) (p : Nat) : WorkRanged (some ⟨p, imageOf s p, false⟩) := by
  intro w hw i hi
  cases hw
  obtain ⟨pos, -, rfl⟩ := List.mem_map.mp hi
  exact cellImage_ranged h _ _

theorem State.InRange.putAlarm (h : s.InRange) (c : Nat) {out : AlarmRec × List EventData} (ho : RefRanged out.1) :
    (putAlarm c out s).InRange :=
  SameTemps.inRange (s := Machine.withRecs (s.alarm.recs.set c out.1) s) (by constructor <;> simp [Machine.putAlarm])
    (h.withRecs (Table.All.set (P := RefRanged) h.references ho c))

theorem State.InRange.alarmCommit (h : s.InRange) (p credit : Nat) : (alarmCommit p credit s).InRange := by
  have worked := forIdx_keeps (P := State.InRange) (n := (s.map.passes.get p).cfg.cellCount)
    (f := fun pos u => Machine.putAlarm (cellAt p pos) (alarmCell (alarmIn u p (cellAt p pos) credit)
      (u.alarm.recs.get (cellAt p pos))) u)
    (fun pos u hu => hu.putAlarm _ (alarmCell_ref_ranged (hu.ref _) (hu.cell _).1.1)) h
  exact SameTemps.inRange (by constructor <;> simp [Machine.alarmCommit]) worked

/-- A commit writes what fusion gives the pass's cells, their pairings and rate references (R84, R99, R125). -/
theorem State.InRange.commitPass (h : s.InRange) {w : Work} (hw : ∀ i ∈ w.image, i.Ranged) : (commitPass w s).InRange := by
  have cells : (commitCells s w).All Cell.Ranged := h.cellTable.mapIdx fun c old ho => by
    split
    · exact commitCell_ranged (image_getD_ranged hw _) (fuseAt_ranged hw ho _ _ _) _ _
    · exact ho
  have pairings : (commitPairings s w).All PairingRanged := Table.All.mapIdx (P := PairingRanged) h.pairings fun c old ho => by
    split
    · exact pairingOf_ranged (image_getD_ranged hw _) _ _
    · exact ho
  have written : (Machine.withPairings (commitPairings s w) (setPass w.pass (commitPassState s (passAt s w.pass))
      (Machine.withCells (commitCells s w) s))).InRange :=
    State.InRange.withPairings (SameTemps.inRange (by constructor <;> simp) (h.withCells cells)) pairings
  exact SameTemps.inRange (by constructor <;> simp [Machine.commitPass])
    (written.alarmCommit w.pass (exposureCredit (passAt s w.pass) (now s)))

/-! ### Modes (R108 to R112) -/

theorem State.InRange.abandon (h : s.InRange) (p : Nat) : (abandon p s).InRange := by
  unfold Machine.abandon
  split
  · exact h.withWork nofun
  · exact h

theorem State.InRange.emptyCells (h : s.InRange) (p : Nat) {src : Source} (hs : src = .void ∨ src = .oos) :
    (emptyCells p src s).InRange := by
  refine h.withCells (h.cellTable.mapIdx fun c cell hc => ?_)
  split
  · exact emptiedCell_ranged hs cell
  · exact hc

theorem State.InRange.dropPairings (h : s.InRange) (p : Nat) : (dropPairings p s).InRange := by
  refine h.withPairings (Table.All.mapIdx (P := PairingRanged) h.pairings fun c old ho => ?_)
  split
  · exact inTempRange_none
  · exact ho

theorem State.InRange.alarmOosExit (h : s.InRange) (p : Nat) : (alarmOosExit p s).InRange := by
  refine h.withRecs (Table.All.mapIdx (P := RefRanged) h.references fun c r hr => ?_)
  split
  · exact refRanged_of_none rfl
  · exact hr

theorem State.InRange.enterOos (h : s.InRange) (p : Nat) : (enterOos p s).InRange := by
  have changed : (putMode p .oos s).InRange := SameTemps.inRange (by constructor <;> simp) h
  have off : (removeQueued p (Machine.abandon p (putMode p .oos s))).InRange :=
    SameTemps.inRange (by constructor <;> simp) (changed.abandon p)
  exact SameTemps.inRange (by constructor <;> simp [Machine.enterOos]) ((off.emptyCells p (.inr rfl)).dropPairings p)

theorem State.InRange.exitOos (h : s.InRange) (p : Nat) (m : Mode) : (exitOos p m s).InRange := by
  have changed : (putMode p m s).InRange := SameTemps.inRange (by constructor <;> simp) h
  exact SameTemps.inRange (by constructor <;> simp [Machine.exitOos])
    ((changed.emptyCells p (.inl rfl)).alarmOosExit p)

theorem State.InRange.switchMode (h : s.InRange) (p : Nat) (m : Mode) : (switchMode p m s).InRange := by
  have changed : (Machine.abandon p (putMode p m s)).InRange :=
    State.InRange.abandon (SameTemps.inRange (by constructor <;> simp) h) p
  refine SameTemps.inRange ?_ changed
  unfold Machine.switchMode
  dsimp only
  split <;> split <;> constructor <;> simp

theorem State.InRange.setModeEffect (h : s.InRange) (p m : Byte) : (setModeEffect p m s).InRange := by
  unfold Machine.setModeEffect changeMode
  split
  · split_ifs
    · exact h
    · exact h.enterOos _
    · exact h.exitOos _ _
    · exact h.switchMode _ _
  · exact h

/-! ### Loads (R70, R90, R118, R120) -/

theorem work_none_ranged : WorkRanged none := nofun

/-- A load's end leaves cells held or emptied, channels fresh or as they were, and no spot of an earlier configuration. -/
theorem State.InRange.endLoad (h : s.InRange) (r : LoadResult) : (endLoad r s).InRange := by
  obtain e | ⟨j, -, ⟨-, e⟩ | ⟨hr, hk, e⟩ | ⟨-, -, e⟩⟩ := endLoad_cases r s <;> rw [e]
  · exact h
  · have entered : (loadEntered r j s).InRange := SameTemps.inRange (by constructor <;> simp) h
    rw [State.inRange_iff, adoptConfig_conv, adoptConfig_view, adoptConfig_work]
    refine ⟨fun i hi => ?_, ?_, Table.all_fill inTempRange_none, Table.all_fill inTempRange_none, fun i hi => ?_,
      work_none_ranged⟩
    · rw [adoptConfig_cell _ hi]
      exact loadCell_ranged (entered.cell i) _ _ _
    · exact entered.channelTable.mapIdx fun _ _ _ => freshChannel_ranged _ _
    · rw [adoptConfig_rec _ hi]
      exact refRanged_of_none rfl
  · have hhalt : (loadEntered r j s).life.phase ≠ .run := by simp [hk, phaseAfter_reload hr]
    obtain ⟨c, l, he⟩ := failReload_engineOnly hhalt r
    have failed : (mapLoadFail (loadEntered r j s)).InRange :=
      State.InRange.withCells (SameTemps.inRange (s := s) (by constructor <;> simp) h)
        (h.cellTable.mapIdx fun _ _ hc => failCell_ranged hc _ _)
    rw [he]
    exact SameTemps.inRange (by constructor <;> simp) failed
  · refine (State.inRange_iff _).mpr ?_
    simp only [failFirstLoad_frame, Conv.cleared, View.cleared, MapEngine.cleared, loadEntered_frame]
    exact ⟨Table.all_fill cell_default_ranged, Table.all_fill channel_default_ranged, Table.all_fill inTempRange_none,
      Table.all_fill inTempRange_none, h.references, work_none_ranged⟩

/-- A record touches configuration parts alone (R22). -/
theorem RecordTaken.sameTemps {ws : List W32} {j j' : LoadJob} (ht : RecordTaken ws j s j' t) : SameTemps s t := by
  cases ht
  case channel x _ _ =>
    constructor
    case channels => exact fun c => Table.get_set_same Channel.temps (by rfl) c
    all_goals simp
  case cell x _ _ =>
    constructor
    case cells => exact fun c => Table.get_set_same Cell.temps (by rfl) c
    all_goals simp
  all_goals constructor <;> simp

theorem State.InRange.configFetched (h : s.InRange) (reply : FetchReply) : (configFetched reply s).InRange :=
  configFetched_keeps (I := State.InRange) (P := State.InRange) (fun _ _ _ _ _ hi ht => ht.sameTemps.inRange hi)
    (fun _ => h) (fun _ _ hi => SameTemps.inRange (by constructor <;> simp) hi) (fun r _ hi => hi.endLoad r) h reply

theorem inRange_of_cleared (h : t.conv = Conv.cleared ∧ t.view = View.cleared ∧ t.map = MapEngine.cleared ∧
    t.alarm = Alarm.cleared) : t.InRange := by
  obtain ⟨hc, hv, hm, ha⟩ := h
  rw [State.inRange_iff, hc, hv, hm, ha]
  exact ⟨Table.all_fill cell_default_ranged, Table.all_fill channel_default_ranged, Table.all_fill inTempRange_none,
    Table.all_fill inTempRange_none, Table.all_fill refRanged_default, work_none_ranged⟩

/-! ### Moves -/

/-- Every move keeps every temperature in its range. -/
theorem Move.inRange (hm : Move s t) (h : s.InRange) : t.InRange := by
  cases hm
  case poweredOn | resetAsserted => exact inRange_of_cleared ⟨rfl, rfl, rfl, rfl⟩
  case reloadBegun =>
    have paused : (mapPause (viewPause (convPause (intakePause s)))).InRange :=
      State.InRange.withWork (SameTemps.inRange (s := s) (by constructor <;> simp [convPause, viewPause]) h) work_none_ranged
    exact SameTemps.inRange (by constructor <;> simp [beginReload]) paused
  case loadStopped => exact State.InRange.endLoad (SameTemps.inRange (by constructor <;> simp) h) _
  case configFetched reply => exact h.configFetched reply
  case frameConverted job _ => exact h.convertFrame job
  case scannerSilent i _ => exact h.fallSilent i.val
  case lineCompleted job _ => exact h.completeLine job
  case spotRetired c => exact h.withSpots (Table.All.set (P := SpotRanged) h.spots spotRanged_none _)
  case recomputeBegun p rest _ _ _ =>
    exact State.InRange.withWork (SameTemps.inRange (s := s) (by constructor <;> simp) h) (imageOf_ranged h p)
  case recomputeDropped => exact h.withWork work_none_ranged
  case recomputeCommitted w hw _ => exact (h.withWork work_none_ranged).commitPass (h.image w hw)
  case directTimeRetired c =>
    exact h.withCells (h.cellTable.set (a := { s.map.cells.get c.val with lastDirect := none }) (h.cell c.val) c.val)
  case referenceRetired c => exact h.withRecs (Table.All.set (P := RefRanged) h.references (refRanged_of_none rfl) _)
  case modeSet p m _ _ => exact h.setModeEffect p m
  all_goals exact SameTemps.inRange (by constructor <;> simp) h

end

/-- Settles O59: each move keeps the temperatures in range, and so does each step. -/
theorem everyStepKeepsTemperaturesInRange : Obligations.EveryStepKeepsTemperaturesInRange := fun _ _ h ht =>
  step_keeps (fun _ _ hm hs => hm.inRange hs)
    (fun _ _ hs => ⟨hs.cells, hs.parts, hs.channels, hs.spots, hs.pairings, hs.references, hs.image⟩) ht h

end Sys2Proof.Machine
end

section
/-! Ring commands refused by their own checks (O42), and CLEAR FAULTS, SET OFFSET and CALIBRATE VIEW (O43). -/

namespace Sys2Proof.Machine

section
variable {s : State} {op : Nat} {r : Reason} {inHalt : Bool} {check : State → Option Reason} {act : State → State}

/-! ### A command's own checks (R163) -/

theorem checkedEffect_refuses (hc : check s = some r) : checkedEffect op check act s = refuseEntry op r s := by
  rw [checkedEffect, hc]

theorem checkedEffect_acts (hc : check s = none) : checkedEffect op check act s = act s := by rw [checkedEffect, hc]

/-- In RUN every command comes to its own checks. -/
theorem executeEntry_run (hp : s.life.phase = .run) : executeEntry op inHalt check act s = checkedEffect op check act s := by
  simp [executeEntry, hp]

/-- In RUN an entry that its command's checks refuse ends with the refusal. -/
theorem runEntry_refused (hp : s.life.phase = .run) (h : entryFetched s) (hc : check (freePort s) = some r) :
    ringEntry (executeEntry op inHalt check act) s = .next (entryEnded s (refused op r.code s)) :=
  ringEntry_refused h ((executeEntry_run (s := freePort s) hp).trans (checkedEffect_refuses hc))

/-- So it does in HALT, for a command that runs there. -/
theorem haltEntry_refused (hp : s.life.phase = .run ∨ s.life.phase = .halt) (h : entryFetched s)
    (hc : check (freePort s) = some r) :
    ringEntry (executeEntry op true check act) s = .next (entryEnded s (refused op r.code s)) :=
  ringEntry_refused h ((executeEntry_runs (s := freePort s) hp).trans (checkedEffect_refuses hc))

/-- In RUN an entry that passes its command's checks ends with its effect. -/
theorem runEntry_acts (hp : s.life.phase = .run) (h : entryFetched s) (hc : check (freePort s) = none) :
    ringEntry (executeEntry op inHalt check act) s = .next (finishEntry (act (freePort s))) := by
  rw [ringEntry_of h.1, executeEntry_run (s := freePort s) hp, checkedEffect_acts hc]

/-! ### When a check refuses (R67, R68, R86, R108, R113 to R115, R136, R137, R141, R173) -/

theorem maskOk_eq_false {mask : Byte} {n : Nat} :
    maskOk mask n = false ↔ ∃ p < 8, mask.getLsbD p = true ∧ n ≤ p := by
  simp [maskOk, maskPasses]

theorem maskCheck_bad {mask : Byte} (h : ∃ p < 8, mask.getLsbD p = true ∧ s.life.params.passCount ≤ p) :
    maskCheck mask s = some .badArgument := by
  rw [maskCheck, passCount, maskOk_eq_false.mpr h, if_neg Bool.false_ne_true]

theorem modeCheck_bad {pass mode : Byte} (h : s.life.params.passCount ≤ pass.toNat ∨ 3 < mode.toNat) :
    modeCheck pass mode s = some .badArgument := by
  unfold modeCheck passCount
  split_ifs with hp hm
  · rfl
  · rfl
  · have named : mode.toNat ≤ 3 := by
      obtain ⟨m, hm⟩ := Option.ne_none_iff_exists'.mp (by simpa using hm)
      exact (Mode.ofCode_eq_some.mp hm).1
    omega

theorem exportCheck_bad {mask : Byte} {list : W32}
    (h : list.toNat % 16 ≠ 0 ∨ ∃ p < 8, mask.getLsbD p = true ∧ s.life.params.passCount ≤ p) :
    exportCheck mask list s = some .badArgument :=
  if_pos (h.imp_right maskOk_eq_false.mpr)

theorem faultsCheck_bad {first last : Byte} (h : 127 < last.toNat ∨ last.toNat < first.toNat) :
    faultsCheck first last s = some .badArgument := if_pos h

theorem faultsCheck_ok {first last : Byte} (hl : first.toNat ≤ last.toNat) (hu : last.toNat ≤ 127) :
    faultsCheck first last s = none := if_neg (by omega)

theorem offsetCheck_locked {channel : Byte} {value : W16} (hl : s.life.lock = true) :
    offsetCheck channel value s = some .locked := if_pos hl

/-- With the lock clear the channel and the value decide (R68). -/
theorem offsetCheck_unlocked {channel : Byte} {value : W16} (hl : s.life.lock = false) :
    offsetCheck channel value s =
      if usedChannel s channel.toNat = true ∧ -500 ≤ value.toInt ∧ value.toInt ≤ 500 then none
      else some .badArgument := by
  have asked : channelInUse s channel.toNat = usedChannel s channel.toNat := rfl
  rw [offsetCheck, hl, if_neg Bool.false_ne_true, asked]
  simp only [Bool.or_eq_true, Bool.not_eq_true', ← Bool.not_eq_true, within_iff]
  split_ifs <;> tauto

theorem calibrateCheck_locked {view : Byte} (hl : s.life.lock = true) : calibrateCheck view s = some .locked := if_pos hl

theorem calibrateCheck_bad {view : Byte} (hl : s.life.lock = false) (h : s.life.params.viewCount ≤ view.toNat) :
    calibrateCheck view s = some .badArgument := by
  rw [calibrateCheck, hl, if_neg Bool.false_ne_true, viewCount, if_pos h]

/-- With the lock clear, for a configured view, the pairings decide (R86). -/
theorem calibrateCheck_configured {view : Byte} (hl : s.life.lock = false) (h : view.toNat < s.life.params.viewCount) :
    calibrateCheck view s = if (viewPairings s view.toNat).length < 3 then some .insufficient else none := by
  rw [calibrateCheck, hl, if_neg Bool.false_ne_true, viewCount, if_neg (by omega)]

theorem exposureCheck_bad {cell : W16} (hl : s.life.lock = false) (h : 511 < cell.toNat) :
    exposureCheck cell s = some .badArgument := by
  rw [exposureCheck, hl, if_neg Bool.false_ne_true, cellCheck, if_pos h]

end

/-! ### The obligations -/

/-- Settles O42: each command comes to its checks, and its check refuses. -/
theorem badArgumentsAreRefused : Obligations.BadArgumentsAreRefused := by
  refine ⟨fun s hp h => ⟨fun mask hm => ?_, fun pass mode hb => ?_, fun mask flagByte list hb => ?_, fun hl => ?_,
    fun hl view => ?_⟩, fun s hp h => ⟨fun cell hb => ?_, fun pass hb => ?_⟩⟩
  · have unknown : maskCheck mask (freePort s) = some .badArgument := maskCheck_bad hm
    exact ⟨runEntry_refused hp h (r := .badArgument) unknown, runEntry_refused hp h (r := .badArgument) unknown,
      runEntry_refused hp h (r := .badArgument) unknown,
      fun _ _ => runEntry_refused hp h (r := .badArgument) (exportCheck_bad (.inr hm))⟩
  · exact runEntry_refused hp h (r := .badArgument) (modeCheck_bad hb)
  · exact runEntry_refused hp h (r := .badArgument) (exportCheck_bad (.inl hb))
  · refine ⟨fun channel value hb => ?_, fun view hb => ?_, fun cell hb => ?_⟩
    · refine runEntry_refused hp h (r := .badArgument) ((offsetCheck_unlocked hl).trans (if_neg ?_))
      rintro ⟨hu, hlo, hhi⟩
      obtain hn | hn | hn := hb
      · exact Bool.false_ne_true (hn.symm.trans hu)
      · omega
      · omega
    · exact runEntry_refused hp h (r := .badArgument) (calibrateCheck_bad hl hb)
    · exact runEntry_refused hp h (r := .badArgument) (exposureCheck_bad hl hb)
  · exact runEntry_refused hp h (r := .locked) (calibrateCheck_locked hl)
  · exact haltEntry_refused hp h (r := .badArgument) (if_pos hb)
  · exact haltEntry_refused hp h (r := .badArgument) (if_pos hb)

/-- Settles O43: each check passed leads to its command's effect, and the head moves. -/
theorem channelAndViewCommandsAct : Obligations.ChannelAndViewCommandsAct := by
  refine ⟨fun first last s hp h => ⟨fun hl hu => ?_, fun hb => ?_⟩, fun channel value s hp h => ⟨fun hl hu hlo hhi => ?_,
    fun hl => ?_⟩, fun view s hp h hl hv => ⟨fun hn => ?_, fun hn => ?_⟩⟩
  · refine (runEntry_acts hp h (faultsCheck_ok hl hu)).trans ?_
    rw [finishEntry_none (by exact h.2)]
    rfl
  · exact runEntry_refused hp h (r := .badArgument) (faultsCheck_bad hb)
  · refine (runEntry_acts hp h ((offsetCheck_unlocked hl).trans (if_pos ⟨hu, hlo, hhi⟩))).trans ?_
    rw [finishEntry_none (by exact h.2)]
    rfl
  · exact runEntry_refused hp h (r := .locked) (offsetCheck_locked hl)
  · have enough : ¬ (viewPairings (freePort s) view.toNat).length < 3 := Nat.not_lt.mpr hn
    refine (runEntry_acts hp h ((calibrateCheck_configured hl hv).trans (if_neg enough))).trans ?_
    rw [finishEntry_none (by exact h.2)]
    rfl
  · exact runEntry_refused hp h (r := .insufficient) ((calibrateCheck_configured hl hv).trans (if_pos hn))

end Sys2Proof.Machine
end

section
/-! The curve conversions (R52 to R54) and the order of the verdicts (R56, R57) (O27). -/

namespace Sys2Proof.Machine

/-! ### The round function on a segment (R1) -/

/-- A part of a rise, rounded, stays between nothing and the whole rise. -/
theorem q_part_bounds {a d rise : Int} (ha : 0 ≤ a) (had : a < d) (hr : 0 ≤ rise) :
    0 ≤ q (a * rise) d ∧ q (a * rise) d ≤ rise := by
  have part : 0 ≤ a * rise ∧ a * rise ≤ d * rise :=
    ⟨Int.mul_nonneg ha hr, Int.mul_le_mul_of_nonneg_right had.le hr⟩
  refine ⟨Int.ediv_nonneg (by omega) (by omega), Int.le_of_lt_add_one ?_⟩
  refine Int.ediv_lt_of_lt_mul (by omega) ?_
  calc 2 * (a * rise) + d ≤ 2 * (d * rise) + d := by omega
    _ < 2 * (d * rise) + 2 * d := by omega
    _ = (rise + 1) * (2 * d) := by ring

/-! ### Along a curve (R52, R53) -/

section
variable {x y : Breakpoint → Int} {v : Int} {curve : List Breakpoint} {lo hi p r : Breakpoint}

/-- The breakpoints of a curve rise in `x`. -/
def Rises (x : Breakpoint → Int) (curve : List Breakpoint) : Prop := (curve.map x).Pairwise (· < ·)

theorem rises_cons : Rises x (p :: curve) ↔ (∀ b ∈ curve, x p < x b) ∧ Rises x curve := by
  simp [Rises]

theorem rises_of_increasing (hx : ∀ a b, Breakpoint.Below a b → x a < x b) (h : increasing curve = true) :
    Rises x curve :=
  (List.isChain_iff_pairwise (R := (· < ·))).mp ((List.isChain_map x).mpr ((increasing_iff.mp h).imp hx))

theorem rises_emf (h : increasing curve = true) : Rises Breakpoint.emf curve := rises_of_increasing (fun _ _ hb => hb.1) h

theorem rises_temp (h : increasing curve = true) : Rises Breakpoint.temp curve :=
  rises_of_increasing (fun _ _ hb => hb.2) h

/-- No breakpoint lies below the first. -/
theorem Rises.first_le (h : Rises x curve) (hlo : curve.head? = some lo) (hp : p ∈ curve) : x lo ≤ x p := by
  cases curve with
  | nil => cases hp
  | cons a rest =>
    obtain rfl : a = lo := by simpa using hlo
    obtain rfl | hp := List.mem_cons.mp hp
    · exact le_rfl
    · exact ((rises_cons.mp h).1 p hp).le

/-- No breakpoint lies above the last. -/
theorem Rises.le_last (h : Rises x curve) (hhi : curve.getLast? = some hi) (hp : p ∈ curve) : x p ≤ x hi := by
  obtain ⟨init, rfl⟩ := List.getLast?_eq_some_iff.mp hhi
  obtain hp | hp := List.mem_append.mp hp
  · have apart : ∀ b ∈ init, x b < x hi := by
      rw [Rises, List.map_append, List.pairwise_append] at h
      obtain ⟨-, -, below⟩ := h
      exact fun b hb => below _ (List.mem_map_of_mem hb) _ List.mem_cons_self
    exact (apart p hp).le
  · rw [List.mem_singleton.mp hp]

/-- On the segment from breakpoint `k` on the conversion interpolates between its ends. -/
theorem alongCurve_segment (h : Rises x curve) {k : Nat} (hp : curve[k]? = some p) (hr : curve[k + 1]? = some r)
    (hpv : x p ≤ v) (hvr : v < x r) :
    alongCurve x y v curve = y p + q ((v - x p) * (y r - y p)) (x r - x p) := by
  induction curve generalizing k with
  | nil => cases hp
  | cons a rest ih =>
    obtain ⟨-, hrest⟩ := rises_cons.mp h
    cases k with
    | zero =>
      obtain rfl : a = p := by simpa using hp
      cases rest with
      | nil => cases hr
      | cons b tail =>
        obtain rfl : b = r := by simpa using hr
        rw [alongCurve, if_pos hvr]
    | succ k =>
      have hp : rest[k]? = some p := by simpa using hp
      cases rest with
      | nil => cases hp
      | cons b tail =>
        have past : x b ≤ x p := hrest.first_le rfl (List.mem_of_getElem? hp)
        rw [alongCurve, if_neg (by omega)]
        exact ih hrest hp (by simpa using hr)

/-- From the last breakpoint on the conversion stays at its value. -/
theorem alongCurve_last (h : Rises x curve) (hhi : curve.getLast? = some hi) (hv : x hi ≤ v) :
    alongCurve x y v curve = y hi := by
  induction curve with
  | nil => cases hhi
  | cons a rest ih =>
    cases rest with
    | nil =>
      obtain rfl : a = hi := by simpa using hhi
      rfl
    | cons b tail =>
      obtain ⟨-, hrest⟩ := rises_cons.mp h
      have hhi : (b :: tail).getLast? = some hi := by simpa using hhi
      have below : x b ≤ x hi := hrest.le_last hhi List.mem_cons_self
      rw [alongCurve, if_neg (by omega)]
      exact ih hrest hhi

/-- From the first breakpoint on the conversion keeps between the values of the curve's ends. -/
theorem alongCurve_bounds (hx : Rises x curve) (hy : Rises y curve) (hlo : curve.head? = some lo)
    (hhi : curve.getLast? = some hi) (hv : x lo ≤ v) :
    y lo ≤ alongCurve x y v curve ∧ alongCurve x y v curve ≤ y hi := by
  induction curve generalizing lo with
  | nil => cases hhi
  | cons a rest ih =>
    obtain rfl : a = lo := by simpa using hlo
    cases rest with
    | nil =>
      obtain rfl : a = hi := by simpa using hhi
      exact ⟨le_rfl, le_rfl⟩
    | cons b tail =>
      obtain ⟨hax, hx⟩ := rises_cons.mp hx
      obtain ⟨hay, hy⟩ := rises_cons.mp hy
      have hhi : (b :: tail).getLast? = some hi := by simpa using hhi
      have up : x a < x b := hax b List.mem_cons_self
      have rise : y a < y b := hay b List.mem_cons_self
      have top : y b ≤ y hi := hy.le_last hhi List.mem_cons_self
      rw [alongCurve]
      split_ifs with hvb
      · obtain ⟨hl, hu⟩ := q_part_bounds (a := v - x a) (d := x b - x a) (rise := y b - y a) (by omega) (by omega)
          (by omega)
        omega
      · obtain ⟨hl, hu⟩ := ih hx hy rfl hhi (by omega)
        omega

/-! ### The junction temperature (R53, R54) -/

theorem junction_eq (hlo : curve.head? = some lo) (hhi : curve.getLast? = some hi) (e : Int) :
    junction e curve = if e < lo.emf then lo.temp else if hi.emf < e then hi.temp
      else alongCurve Breakpoint.emf Breakpoint.temp e curve := by
  simp only [junction, hlo, hhi]

theorem onCurve_iff (hlo : curve.head? = some lo) (hhi : curve.getLast? = some hi) :
    onCurve x v curve = true ↔ x lo ≤ v ∧ v ≤ x hi := by
  simp only [onCurve, hlo, hhi, within_iff]

theorem cjValid_iff (hlo : curve.head? = some lo) (hhi : curve.getLast? = some hi) {cj : Int} :
    cjValid cj curve = true ↔ -400 ≤ cj ∧ cj ≤ 1000 ∧ lo.temp ≤ cj ∧ cj ≤ hi.temp := by
  rw [cjValid, Bool.and_eq_true, within_iff, onCurve_iff hlo hhi, and_assoc]

theorem junction_below (hlo : curve.head? = some lo) (hhi : curve.getLast? = some hi) {e : Int} (he : e < lo.emf) :
    junction e curve = lo.temp := by
  rw [junction_eq hlo hhi, if_pos he]

theorem junction_above (h : increasing curve = true) (hlo : curve.head? = some lo) (hhi : curve.getLast? = some hi) {e : Int}
    (he : hi.emf ≤ e) : junction e curve = hi.temp := by
  have ends : lo.emf ≤ hi.emf := (rises_emf h).first_le hlo (List.mem_of_getLast? hhi)
  rw [junction_eq hlo hhi, if_neg (by omega), alongCurve_last (rises_emf h) hhi he, ite_self]

theorem junction_segment (h : increasing curve = true) (hlo : curve.head? = some lo) (hhi : curve.getLast? = some hi)
    {k : Nat} {e : Int} (hp : curve[k]? = some p) (hr : curve[k + 1]? = some r) (hpe : p.emf ≤ e) (her : e < r.emf) :
    junction e curve = p.temp + q ((e - p.emf) * (r.temp - p.temp)) (r.emf - p.emf) := by
  have low : lo.emf ≤ p.emf := (rises_emf h).first_le hlo (List.mem_of_getElem? hp)
  have high : r.emf ≤ hi.emf := (rises_emf h).le_last hhi (List.mem_of_getElem? hr)
  rw [junction_eq hlo hhi, if_neg (by omega), if_neg (by omega), alongCurve_segment (rises_emf h) hp hr hpe her]

/-- The junction temperature never leaves the curve. -/
theorem junction_bounds (h : increasing curve = true) (hlo : curve.head? = some lo) (hhi : curve.getLast? = some hi)
    (e : Int) : lo.temp ≤ junction e curve ∧ junction e curve ≤ hi.temp := by
  have ends : lo.temp ≤ hi.temp := (rises_temp h).first_le hlo (List.mem_of_getLast? hhi)
  rw [junction_eq hlo hhi]
  split_ifs with hl hu
  · exact ⟨le_rfl, ends⟩
  · exact ⟨ends, le_rfl⟩
  · exact alongCurve_bounds (rises_emf h) (rises_temp h) hlo hhi (by omega)

/-! ### The order of the verdicts (R56, R57) -/

theorem spikeFails_iff {t limit : Int} {last : Option Int} :
    spikeFails t limit last = true ↔ limit ≠ 0 ∧ ∃ x : Int, last = some x ∧ limit < |t - x| := by
  cases last <;> simp [spikeFails]

variable {cj : Int} {rd : Reading} {cfg : ChannelCfg} {last : Option Int}

theorem judge_cjBad (ho : rd.openFlag = false) (hr : rd.overrange = false) (hv : cjValid cj curve = false) :
    judge false cj rd cfg curve last = ⟨some .cjBad, none⟩ := by
  simp [judge, ho, hr, hv]

theorem judge_outOfCurve (ho : rd.openFlag = false) (hr : rd.overrange = false) (hv : cjValid cj curve = true)
    (hc : onCurve Breakpoint.emf (compensated rd.raw cj curve) curve = false) :
    judge false cj rd cfg curve last =
      ⟨some .outOfCurve, some (junction (compensated rd.raw cj curve) curve + cfg.offset)⟩ := by
  simp [judge, ho, hr, hv, hc]

/-- On the curve the step from the last converted temperature decides. -/
theorem judge_onCurve (ho : rd.openFlag = false) (hr : rd.overrange = false) (hv : cjValid cj curve = true)
    (hc : onCurve Breakpoint.emf (compensated rd.raw cj curve) curve = true) :
    judge false cj rd cfg curve last =
      ⟨if spikeFails (satTemp (junction (compensated rd.raw cj curve) curve + cfg.offset)) cfg.spike last
        then some .spike else none, some (junction (compensated rd.raw cj curve) curve + cfg.offset)⟩ := by
  simp only [judge, ho, hr, hv, hc, Bool.false_eq_true, Bool.not_true, if_false]
  split_ifs <;> rfl

end

/-- Settles O27: segment by segment, end by end, and verdict by verdict. -/
theorem verdictsFollowTheirOrder : Obligations.VerdictsFollowTheirOrder := by
  intro curve lo hi h hlo hhi
  refine ⟨⟨fun v => ⟨fun k p r hp hr => alongCurve_segment (rises_temp h) hp hr,
      fun hv => alongCurve_last (rises_temp h) hhi hv.ge⟩,
    fun e => ⟨junction_below hlo hhi, junction_above h hlo hhi, fun k p r hp hr => junction_segment h hlo hhi hp hr,
      junction_bounds h hlo hhi e⟩⟩, fun fault cj rd cfg last => ⟨?_, ?_, ?_, ?_⟩⟩
  · rintro rfl
    rfl
  · rintro rfl ho
    simp [judge, ho]
  · rintro rfl ho hr
    simp [judge, ho, hr]
  · rintro rfl ho hr
    refine ⟨fun hc => ?_, fun hc he => ?_, fun hc hl hu => ?_⟩
    · exact judge_cjBad ho hr (Bool.eq_false_iff.mpr fun hv => hc ((cjValid_iff hlo hhi).mp hv))
    · refine judge_outOfCurve ho hr ((cjValid_iff hlo hhi).mpr hc) (Bool.eq_false_iff.mpr fun hv => ?_)
      obtain ⟨hl, hu⟩ := (onCurve_iff hlo hhi).mp hv
      exact he.elim (not_lt.mpr hl) (not_lt.mpr hu)
    · have on := judge_onCurve (cfg := cfg) (last := last) ho hr ((cjValid_iff hlo hhi).mpr hc)
        ((onCurve_iff hlo hhi).mpr ⟨hl, hu⟩)
      exact ⟨fun hs => on.trans (congrArg (Outcome.mk · _) (if_pos (spikeFails_iff.mpr hs))),
        fun hs => on.trans (congrArg (Outcome.mk · _) (if_neg fun hf => hs (spikeFails_iff.mp hf)))⟩

end Sys2Proof.Machine
end

section
/-! The cell, channel and view records of the map window, word by word (O11). -/

namespace Sys2Proof.Machine

/-! ### Fields that fit their places (R178) -/

theorem place_of_lt {v lo width : Nat} (h : v < 2 ^ width) : place v lo width = 2 ^ lo * v := by
  rw [place, Nat.mod_eq_of_lt h, Nat.mul_comm]

theorem place_byte (b : Byte) (lo : Nat) : place b.toNat lo 8 = 2 ^ lo * b.toNat := place_of_lt b.isLt

theorem place_word16 (w : W16) (lo : Nat) : place w.toNat lo 16 = 2 ^ lo * w.toNat := place_of_lt w.isLt

theorem place_flag (b : Bool) (lo : Nat) : place (flag b) lo 1 = 2 ^ lo * one b :=
  place_of_lt (by cases b <;> decide)

theorem place_encOpt16 (x : Option Int) (lo : Nat) : place (encOpt16 x) lo 16 = 2 ^ lo * half x := by
  cases x with
  | none => exact place_of_lt (by decide)
  | some x => exact place_of_lt (show (x % 65536).toNat < 2 ^ 16 by omega)

theorem place_enc16 (x : Int) (lo : Nat) : place (enc16 x) lo 16 = 2 ^ lo * half (some x) := place_encOpt16 (some x) lo

theorem place_source (x : Source) (lo : Nat) : place x.code lo 8 = 2 ^ lo * x.code := place_of_lt (by cases x <;> decide)

theorem place_level (x : Level) (lo : Nat) : place x.code lo 2 = 2 ^ lo * x.code := place_of_lt (by cases x <;> decide)

theorem place_quality (x : Quality) (lo : Nat) : place x.code lo 8 = 2 ^ lo * x.code := place_of_lt (by cases x <;> decide)

theorem one_le (b : Bool) : one b ≤ 1 := by cases b <;> decide

/-- The sticky set is the sum of its flags, the kind of code `k` at bit `k − 1` (spec 10). -/
theorem flags_eq (f : FaultSet) : f.flags = one f.scannerFault + 2 * one f.openCircuit + 4 * one f.overrange +
    8 * one f.cjBad + 16 * one f.outOfCurve + 32 * one f.spike + 64 * one f.stale + 128 * one f.frameLost := by
  have bits : f.flags = [one f.scannerFault * 1, one f.openCircuit * 2, one f.overrange * 4, one f.cjBad * 8,
    one f.outOfCurve * 16, one f.spike * 32, one f.stale * 64, one f.frameLost * 128].sum := rfl
  rw [bits]
  simp only [List.sum_cons, List.sum_nil]
  omega

theorem place_flags (f : FaultSet) : place f.flags 8 8 = 0x100 * f.flags := by
  refine place_of_lt ?_
  have := one_le f.scannerFault
  have := one_le f.openCircuit
  have := one_le f.overrange
  have := one_le f.cjBad
  have := one_le f.outOfCurve
  have := one_le f.spike
  have := one_le f.stale
  have := one_le f.frameLost
  rw [flags_eq]
  omega

/-- The sticky set between two other fields of its word, flag by flag. -/
theorem mkWord_flags (f : FaultSet) (low high : Nat) : mkWord [low, 0x100 * f.flags, high] =
    wordOfSum [low, 0x100 * one f.scannerFault, 0x200 * one f.openCircuit, 0x400 * one f.overrange, 0x800 * one f.cjBad,
      0x1000 * one f.outOfCurve, 0x2000 * one f.spike, 0x4000 * one f.stale, 0x8000 * one f.frameLost, high] := by
  rw [mkWord, wordOfSum, flags_eq]
  simp only [List.sum_cons, List.sum_nil]
  congr 1
  omega

theorem encTime_eq (t : Option W32) : encTime t = t.getD 0xFFFF8000 := by cases t <;> rfl

/-! ### Records within the extent (R7) -/

section
variable {s : State}

theorem liveRecord_cell {c : Nat} (hp : c / 64 < s.path.extent.passCount)
    (hc : c % 64 < s.path.extent.cellCounts.getD (c / 64) 0) : liveRecord s (.cellRec c) = cellRecord s c := by
  have inside : inExtent s.path.extent (.cellRec c) = true := by
    rw [inExtent, extentCells, passOf, posOf, if_pos hp, decide_eq_true hc]
  rw [liveRecord, if_pos inside]

theorem liveRecord_channel {c : Nat} (h : c / 16 < s.path.extent.scannerCount) :
    liveRecord s (.channelRec c) = channelRecord s c :=
  if_pos (decide_eq_true h)

theorem liveRecord_view {v : Nat} (h : v < s.path.extent.viewCount) : liveRecord s (.viewRec v) = viewRecord s v :=
  if_pos (decide_eq_true h)

/-! ### Contents (R72, R91, R121) -/

/-- A history that ends in exactly `n` verdicts `g` has that newest run (R72). -/
theorem newestRun_append {old : List Bool} {n : Nat} {g : Bool} (ho : old.getLast? ≠ some g)
    (h0 : n = 0 → old = [] ∧ g = false) : newestRun (old ++ List.replicate n g) = (n, g) := by
  cases n with
  | zero =>
    obtain ⟨rfl, rfl⟩ := h0 rfl
    rfl
  | succ k =>
    have stops : (old.reverse.takeWhile (· == g)) = [] := by
      rw [List.takeWhile_eq_nil_iff]
      intro hl he
      refine ho ?_
      rw [← List.head?_reverse, List.head?_eq_some_head (List.ne_nil_of_length_pos hl), ← eq_of_beq he,
        List.head_eq_getElem]
      rfl
    rw [newestRun, List.reverse_append, List.reverse_replicate, List.replicate_succ, List.cons_append]
    simp [stops, Nat.add_comm]

/-- The pairings of a view are those of the spans whose cell has one (R84). -/
theorem length_viewPairings (v : Nat) : (viewPairings s v).length =
    ((s.view.views.get v).spans.filter fun sp => (s.view.pairings.get sp.cell).isSome).length := by
  rw [viewPairings, List.length_filterMap_eq_countP, List.countP_eq_length_filter]

end

/-- Settles O11: each record is the one its owning blocks hold, and each field fits its place. -/
theorem cellChannelAndViewRecords : Obligations.CellChannelAndViewRecords := by
  refine fun s => ⟨fun c _ hp hc => ?_, fun c _ hc old n g hh ho hn h0 => ?_, fun v _ hv hs => ?_⟩
  · rw [liveRecord_cell hp hc, cellRecord]
    cases hsp : s.view.spots.get c with
    | none =>
      simp only [place_byte, place_source, place_level, place_flag, place_encOpt16, pow_zero, one_mul, Nat.reducePow]
      rfl
    | some sp =>
      have short : min (spotAge sp (now s) / 1000) 255 < 2 ^ 8 := by omega
      simp only [place_byte, place_source, place_level, place_flag, place_encOpt16, place_of_lt short, pow_zero, one_mul,
        Nat.reducePow]
      rfl
  · rw [liveRecord_channel hc, channelRecord, hh, newestRun_append ho h0]
    have short : n < 2 ^ 4 := hn
    simp only [place_quality, place_flags, place_flag, place_encOpt16, place_enc16, place_of_lt short, pow_zero, one_mul,
      Nat.reducePow, mkWord_flags, encTime_eq]
    rfl
  · rw [liveRecord_view hv]
    have count : (s.view.views.get v).spans.length < 2 ^ 5 := by omega
    have paired : ((s.view.views.get v).spans.filter fun sp => (s.view.pairings.get sp.cell).isSome).length < 2 ^ 5 :=
      (List.length_filter_le _ _).trans_lt count
    rw [viewRecord, length_viewPairings]
    cases hr : (s.view.views.get v).remembered with
    | none =>
      simp only [place_word16, place_flag, place_enc16, place_of_lt count, place_of_lt paired, hr, pow_zero, one_mul,
        Nat.reducePow]
      rfl
    | some b =>
      simp only [place_word16, place_byte, place_flag, place_enc16, place_of_lt count, place_of_lt paired, hr, pow_zero,
        one_mul, Nat.reducePow]
      rfl

end Sys2Proof.Machine
end

section
/-! The completion of the frame in hand (O26): the debounce, one reading on one channel, and the inputs one after another. -/

namespace Sys2Proof.Machine

/-! ### The debounce (R59 to R61) -/

theorem pushVerdict_eq (d : Nat) (good : Bool) (h : List Bool) :
    pushVerdict d good h = (h ++ [good]).drop (h.length + 1 - d) := by
  simp [pushVerdict]

theorem fullRun_iff {d : Nat} {good : Bool} {h : List Bool} :
    fullRun d good h = true ↔ h.length = d ∧ ∀ v ∈ h, v = good := by
  simp [fullRun]

section
variable {quality : Quality} {full : Bool} {t : Int} {held : Option Int}

/-- A GOOD verdict supplies its temperature from GOOD and SUSPECT, and after a full run from any other quality (R60). -/
theorem debounceGood_converts
    (h : quality = .good ∨ quality = .suspect ∨
      ((quality ≠ .good ∧ quality ≠ .suspect ∧ quality ≠ .unused) ∧ full = true)) :
    debounceGood full t quality = (.good, some t) := by
  obtain rfl | rfl | ⟨⟨hg, hs, hu⟩, rfl⟩ := h
  · rfl
  · rfl
  · cases quality <;> simp_all [debounceGood]

/-- Short of a full run a GOOD verdict leaves any other quality, without a temperature (R60). -/
theorem debounceGood_waits (hg : quality ≠ .good) (hs : quality ≠ .suspect) (hf : full = false) :
    debounceGood full t quality = (quality, none) := by
  subst hf
  cases quality <;> simp_all [debounceGood]

/-- A full run of bad verdicts fails the channel (R61). -/
theorem debounceBad_fails (hu : quality ≠ .unused) (hf : full = true) :
    debounceBad full held quality = (.failed, none) := by
  subst hf
  cases quality <;> simp_all [debounceBad]

/-- Short of a full run a bad verdict makes GOOD and SUSPECT SUSPECT, with the value held (R61). -/
theorem debounceBad_holds (h : quality = .good ∨ quality = .suspect) (hf : full = false) :
    debounceBad full held quality = (.suspect, held) := by
  subst hf
  obtain rfl | rfl := h <;> rfl

/-- Short of a full run a bad verdict leaves any other quality, without a temperature (R61). -/
theorem debounceBad_waits (hg : quality ≠ .good) (hs : quality ≠ .suspect) (hf : full = false) :
    debounceBad full held quality = (quality, none) := by
  subst hf
  cases quality <;> simp_all [debounceBad]

end

/-! ### One reading on one channel (R49, R55, R58, R63, R64) -/

section
variable {c d : Nat} {f : Frame} {rd : Reading} {cfg : ChannelCfg} {curve : List Breakpoint} {clock : W32} {ch : Channel}

theorem readChannel_converted {x : Int} (h : (judge f.fault f.cj rd cfg curve ch.lastConv).sum = some x) :
    (readChannel c d f rd cfg curve clock ch).1.lastConv = some (satTemp x) ∧
      (readChannel c d f rd cfg curve clock ch).1.clamped = decide (satTemp x ≠ x) := by
  simp [readChannel, h]

theorem readChannel_unconverted (h : (judge f.fault f.cj rd cfg curve ch.lastConv).sum = none) :
    (readChannel c d f rd cfg curve clock ch).1.lastConv = ch.lastConv ∧
      (readChannel c d f rd cfg curve clock ch).1.clamped = ch.clamped := by
  simp [readChannel, h]

theorem readChannel_good (h : (judge f.fault f.cj rd cfg curve ch.lastConv).verdict = none) :
    ((readChannel c d f rd cfg curve clock ch).1.quality, (readChannel c d f rd cfg curve clock ch).1.supplied) =
        debounceGood (fullRun d (judge f.fault f.cj rd cfg curve ch.lastConv).verdict.isNone
            (readChannel c d f rd cfg curve clock ch).1.history)
          (satTemp ((judge f.fault f.cj rd cfg curve ch.lastConv).sum.getD 0)) ch.quality ∧
      (readChannel c d f rd cfg curve clock ch).1.sticky = ch.sticky := by
  simp [readChannel, h]

theorem readChannel_bad {k : FaultKind} (h : (judge f.fault f.cj rd cfg curve ch.lastConv).verdict = some k) :
    ((readChannel c d f rd cfg curve clock ch).1.quality, (readChannel c d f rd cfg curve clock ch).1.supplied) =
        debounceBad (fullRun d (judge f.fault f.cj rd cfg curve ch.lastConv).verdict.isNone
            (readChannel c d f rd cfg curve clock ch).1.history) ch.supplied ch.quality ∧
      (readChannel c d f rd cfg curve clock ch).1.sticky = ch.sticky.add k := by
  simp [readChannel, h]

/-- A channel whose table entry stands unused stays so (R60, R61). -/
theorem readChannel_unused (hq : ch.quality = .unused) :
    (readChannel c d f rd cfg curve clock ch).1.quality = .unused ∧
      (readChannel c d f rd cfg curve clock ch).1.supplied = none := by
  unfold readChannel
  rw [hq]
  dsimp only
  split <;> exact ⟨rfl, rfl⟩

/-- FAULT_SET for a kind newly in the sticky set, then QUALITY for a change (R63, R64). -/
theorem readChannel_events : stampedAt clock (readChannel c d f rd cfg curve clock ch).2 =
    ((judge f.fault f.cj rd cfg curve ch.lastConv).verdict.elim [] fun k =>
      if ch.sticky.has k = true then [] else
        [⟨.channelFaultSet, BitVec.ofNat 16 c, clock, BitVec.ofNat 32 k.code, BitVec.ofNat 32 f.seq.toNat⟩]) ++
    if (readChannel c d f rd cfg curve clock ch).1.quality = ch.quality then [] else
      [⟨.channelQuality, BitVec.ofNat 16 c, clock, BitVec.ofNat 32 ch.quality.code,
        BitVec.ofNat 32 (readChannel c d f rd cfg curve clock ch).1.quality.code⟩] := by
  have split : (readChannel c d f rd cfg curve clock ch).2 =
      ((judge f.fault f.cj rd cfg curve ch.lastConv).verdict.elim [] fun k => faultEvent c ch.sticky k (encNat f.seq.toNat)) ++
        qualityEvent c ch.quality (readChannel c d f rd cfg curve clock ch).1.quality := by
    cases h : (judge f.fault f.cj rd cfg curve ch.lastConv).verdict <;> simp [readChannel, h]
  rw [split, stampedAt, List.map_append]
  refine congrArg₂ (· ++ ·) ?_ ((stamped_qualityEvent clock _ _ _).trans (by simp only [eq_comm]))
  cases (judge f.fault f.cj rd cfg curve ch.lastConv).verdict with
  | none => rfl
  | some k => exact stamped_faultEvent clock c ch.sticky k _

end

/-! ### The inputs of a scanner, one after another -/

/-- The work of one input on the channel behind it. -/
def workInput (k : Nat) (work : State → Nat → Channel → Channel × List EventData) (s : State) (i : Nat) : State :=
  putChannel (channelAt k i) (work s i (s.conv.channels.get (channelAt k i))) s

/-- The work reads nothing that it writes but the channel it is given. -/
def SteadyWork (k : Nat) (work : State → Nat → Channel → Channel × List EventData) : Prop :=
  ∀ s i, work (workInput k work s i) = work s

section
variable {k : Nat} {work : State → Nat → Channel → Channel × List EventData} {s : State} {is : List Nat} {i c : Nat}

/-- One input's work touches the channel table and hands over its events (R167). -/
theorem workInput_eq (k : Nat) (work : State → Nat → Channel → Channel × List EventData) (s : State) (i : Nat) :
    workInput k work s i = { s with
      conv := { s.conv with channels := (workInput k work s i).conv.channels }
      ev := takes (stampedAt s.life.clock (work s i (s.conv.channels.get (channelAt k i))).2) s.ev } := by
  unfold workInput
  rw [putChannel_channels]
  exact emitAll_eq _ _

theorem workInput_get_same (h : channelAt k i < 128) : (workInput k work s i).conv.channels.get (channelAt k i) =
    (work s i (s.conv.channels.get (channelAt k i))).1 := by
  rw [workInput, putChannel_channels, Table.get_set, if_pos ⟨rfl, h⟩]

theorem workInput_get_of_ne (h : c ≠ channelAt k i) :
    (workInput k work s i).conv.channels.get c = s.conv.channels.get c := by
  rw [workInput, putChannel_channels, Table.get_set_ne h]

theorem channelAt_ne {j : Nat} (h : j ≠ i) : channelAt k j ≠ channelAt k i := by
  unfold channelAt
  omega

/-- A channel behind none of the inputs stays. -/
theorem workInputs_get_of_not_mem (hc : ∀ i ∈ is, c ≠ channelAt k i) :
    (is.foldl (workInput k work) s).conv.channels.get c = s.conv.channels.get c := by
  induction is generalizing s with
  | nil => rfl
  | cons j is ih =>
    obtain ⟨hj, his⟩ := List.forall_mem_cons.mp hc
    rw [List.foldl_cons, ih his, workInput_get_of_ne hj]

/-- The channel behind one of the inputs has its work done once. -/
theorem workInputs_get_of_mem (hw : SteadyWork k work) (hn : is.Nodup) (hi : i ∈ is) (hlt : channelAt k i < 128) :
    (is.foldl (workInput k work) s).conv.channels.get (channelAt k i) =
      (work s i (s.conv.channels.get (channelAt k i))).1 := by
  induction is generalizing s with
  | nil => cases hi
  | cons j is ih =>
    obtain ⟨hj, hn⟩ := List.nodup_cons.mp hn
    rw [List.foldl_cons]
    obtain rfl | hi := List.mem_cons.mp hi
    · rw [workInputs_get_of_not_mem fun a ha => channelAt_ne fun e => hj (by rwa [e]), workInput_get_same hlt]
    · have other : i ≠ j := fun e => hj (e ▸ hi)
      rw [ih hn hi, hw, workInput_get_of_ne (channelAt_ne other)]

/-- Beyond the channel table the inputs hand their events over, in order (R63). -/
theorem workInputs_eq (hw : SteadyWork k work) (hn : is.Nodup) : is.foldl (workInput k work) s = { s with
    conv := { s.conv with channels := (is.foldl (workInput k work) s).conv.channels }
    ev := takes (is.flatMap fun i => stampedAt s.life.clock (work s i (s.conv.channels.get (channelAt k i))).2) s.ev } := by
  induction is generalizing s with
  | nil => rfl
  | cons j is ih =>
    obtain ⟨hj, hn⟩ := List.nodup_cons.mp hn
    have life : (workInput k work s j).life = s.life := by rw [workInput_eq]
    have later : (is.flatMap fun i => stampedAt (workInput k work s j).life.clock
        (work (workInput k work s j) i ((workInput k work s j).conv.channels.get (channelAt k i))).2) =
        is.flatMap fun i => stampedAt s.life.clock (work s i (s.conv.channels.get (channelAt k i))).2 :=
      List.flatMap_congr fun i hi => by
        have other : i ≠ j := fun e => hj (e ▸ hi)
        rw [life, hw, workInput_get_of_ne (channelAt_ne other)]
    rw [List.foldl_cons, List.flatMap_cons, takes_append]
    refine (ih hn).trans ?_
    rw [later]
    generalize (is.foldl (workInput k work) (workInput k work s j)).conv.channels = table
    rw [workInput_eq k work s j]

end

/-! ### The frame in hand converted (R49) -/

/-- The work of a frame in hand on the channel of input `i`. -/
def conversion (job : FrameJob) (s : State) (i : Nat) (ch : Channel) : Channel × List EventData :=
  readChannel (channelAt job.frame.scanner.toNat i) s.life.params.debounce job.frame (job.frame.inputs.get i)
    (job.cfgs.get i) (s.conv.curves.get (job.cfgs.get i).curve) (now s) ch

theorem conversion_steady (job : FrameJob) : SteadyWork job.frame.scanner.toNat (conversion job) := fun s i => by
  rw [workInput_eq]
  rfl

/-- The inputs captured in use, ascending. -/
def convertedInputs (job : FrameJob) : List Nat := (List.range 16).filter fun i => (job.cfgs.get i).inUse

theorem mem_convertedInputs {job : FrameJob} {i : Nat} :
    i ∈ convertedInputs job ↔ i < 16 ∧ (job.cfgs.get i).inUse = true := by
  simp [convertedInputs]

theorem convertedInputs_nodup (job : FrameJob) : (convertedInputs job).Nodup := List.nodup_range.filter _

theorem convertFrame_eq_foldl (job : FrameJob) (s : State) : convertFrame job s =
    (convertedInputs job).foldl (workInput job.frame.scanner.toNat (conversion job))
      { s with conv := { s.conv with inHand := none } } := by
  rw [convertedInputs, List.foldl_filter]
  rfl

theorem flatMap_filter {α β : Type} (l : List α) (p : α → Bool) (e : α → List β) :
    (l.filter p).flatMap e = l.flatMap fun a => if p a = false then [] else e a := by
  induction l with
  | nil => rfl
  | cons a l ih => cases h : p a <;> simp [h, ih]

section
variable {job : FrameJob} {s : State} {i c : Nat}

theorem convertFrame_get_of_mem (hk : job.frame.scanner.toNat < 8) (hi : i < 16) (hu : (job.cfgs.get i).inUse = true) :
    (convertFrame job s).conv.channels.get (channelAt job.frame.scanner.toNat i) =
      (conversion job s i (s.conv.channels.get (channelAt job.frame.scanner.toNat i))).1 := by
  rw [convertFrame_eq_foldl, workInputs_get_of_mem (conversion_steady job) (convertedInputs_nodup job)
    (mem_convertedInputs.mpr ⟨hi, hu⟩) (by unfold channelAt; omega)]
  rfl

theorem convertFrame_get_of_not_mem (h : c / 16 ≠ job.frame.scanner.toNat ∨ (job.cfgs.get (c % 16)).inUse = false) :
    (convertFrame job s).conv.channels.get c = s.conv.channels.get c := by
  rw [convertFrame_eq_foldl, workInputs_get_of_not_mem]
  rintro i hi rfl
  obtain ⟨hi, hu⟩ := mem_convertedInputs.mp hi
  have home : channelAt job.frame.scanner.toNat i / 16 = job.frame.scanner.toNat ∧
      channelAt job.frame.scanner.toNat i % 16 = i := by
    unfold channelAt
    omega
  rw [home.1, home.2, hu] at h
  simp at h

theorem convertFrame_eq (job : FrameJob) (s : State) : convertFrame job s = { s with
    conv := { s.conv with inHand := none, channels := (convertFrame job s).conv.channels }
    ev := takes ((List.range 16).flatMap fun i => if (job.cfgs.get i).inUse = false then [] else
      stampedAt s.life.clock
        (conversion job s i (s.conv.channels.get (channelAt job.frame.scanner.toNat i))).2) s.ev } := by
  have whole := workInputs_eq (s := { s with conv := { s.conv with inHand := none } }) (conversion_steady job)
    (convertedInputs_nodup job)
  rw [← convertFrame_eq_foldl, convertedInputs, flatMap_filter] at whole
  exact whole

end

theorem satTemp_ne_iff {x : Int} : satTemp x ≠ x ↔ x < -5000 ∨ 15000 < x := by
  rw [satTemp, saturate, tempMin, tempMax]
  split_ifs <;> omega

/-- Settles O26: the events and the other channels from the fold over the inputs, each converted channel from its reading. -/
theorem conversionMovesEveryChannel : Obligations.ConversionMovesEveryChannel := by
  intro job s hj hk
  have runs : exec .frameConversionComplete s = .next (convertFrame job s) := by
    simp [exec, execFrameConversionComplete, hj]
  refine ⟨convertFrame job s, runs, ?_, fun c _ => convertFrame_get_of_not_mem, fun i hi hu => ?_⟩
  · refine (convertFrame_eq job s).trans ?_
    congr 2
    refine List.flatMap_congr fun i hi => ?_
    split
    · rfl
    next hu =>
      have entry := convertFrame_get_of_mem (s := s) hk (List.mem_range.mp hi) (by simpa using hu)
      rw [channelAt] at entry
      dsimp only
      rw [entry]
      refine readChannel_events.trans (congrArg (· ++ _) ?_)
      split
      next k hv => exact congrArg (Option.elim · [] _) hv
      next hv => exact congrArg (Option.elim · [] _) hv
  · dsimp only
    have entry := convertFrame_get_of_mem (s := s) hk hi hu
    rw [channelAt] at entry
    rw [entry, conversion]
    generalize s.conv.channels.get (job.frame.scanner.toNat * 16 + i) = old
    refine ⟨⟨rfl, rfl, rfl, rfl⟩, fun x hx => ?_, fun hx => readChannel_unconverted hx, pushVerdict_eq _ _ _, ?_,
      fun x hv hx => ?_, fun hv => ?_, fun hq => ?_⟩
    · obtain ⟨hconv, hclamped⟩ := readChannel_converted (c := channelAt job.frame.scanner.toNat i)
        (d := s.life.params.debounce) (clock := now s) hx
      exact ⟨hconv, by rw [hclamped, decide_eq_true_iff, satTemp_ne_iff]⟩
    · split
      next k hv => exact (readChannel_bad hv).2
      next hv => exact (readChannel_good hv).2
    · obtain ⟨moved, -⟩ := readChannel_good (c := channelAt job.frame.scanner.toNat i) (d := s.life.params.debounce)
        (clock := now s) hv
      rw [hx, Option.getD_some] at moved
      refine ⟨fun h => ?_, fun ⟨hg, hs, _⟩ hf => ?_⟩
      · rw [debounceGood_converts (h.imp_right (Or.imp_right (And.imp_right fullRun_iff.mpr)))] at moved
        exact Prod.mk.inj moved
      · rw [debounceGood_waits hg hs (Bool.eq_false_iff.mpr fun h => hf (fullRun_iff.mp h))] at moved
        exact Prod.mk.inj moved
    · obtain ⟨k, hv⟩ := Option.isSome_iff_exists.mp hv
      obtain ⟨moved, -⟩ := readChannel_bad (c := channelAt job.frame.scanner.toNat i) (d := s.life.params.debounce)
        (clock := now s) hv
      refine ⟨fun hu hf => ?_, fun hq hf => ?_, fun ⟨hg, hs, _⟩ hf => ?_⟩
      · rw [debounceBad_fails hu (fullRun_iff.mpr hf)] at moved
        exact Prod.mk.inj moved
      · rw [debounceBad_holds hq (Bool.eq_false_iff.mpr fun h => hf (fullRun_iff.mp h))] at moved
        exact Prod.mk.inj moved
      · rw [debounceBad_waits hg hs (Bool.eq_false_iff.mpr fun h => hf (fullRun_iff.mp h))] at moved
        exact Prod.mk.inj moved
    · exact readChannel_unused hq

end Sys2Proof.Machine
end

section
/-! Lines: the take of the head line, and the spots that a line's completion writes (O29). -/

namespace Sys2Proof.Machine

section
variable {s : State} {l : Line} {job : LineJob} {sp : Span} {sps : List Span} {c p : Nat}

/-! ### The head checks (R77 to R79) -/

/-- A line of no configured view is discarded (R77). -/
theorem checkLine_badView (h : s.life.params.viewCount ≤ l.view.toNat) : checkLine l s =
    emit .pyroBadView (subj l.view.toNat) (encNat l.seq.toNat) (encNat s.life.params.viewCount) s := if_pos h

/-- A line of a configured view is discarded where it repeats the remembered sequence or carries a fault, and accepted
otherwise (R77, R78). -/
theorem checkLine_configured (h : l.view.toNat < s.life.params.viewCount) : checkLine l s =
    if (s.view.views.get l.view.toNat).remembered = some l.seq then
      emit .pyroDuplicate (subj l.view.toNat) (encNat l.seq.toNat) 0 s
    else if l.fault then emit .pyroFault (subj l.view.toNat) (encNat l.seq.toNat) 0 s
    else acceptLine l s := if_neg (Nat.not_le.mpr h)

/-! ### Brightness (R80, R81) -/

/-- The pixel lies in the span's run and is valid (R80, R81). -/
def litPixel (l : Line) (sp : Span) (p : Nat) : Prop :=
  sp.first ≤ p ∧ p ≤ sp.last ∧ p < l.count ∧ p < 64 ∧ 1 ≤ l.pixels.get p ∧ l.pixels.get p ≤ 16000

theorem mem_runPixels {x : Nat} : x ∈ runPixels l sp ↔ ∃ p, litPixel l sp p ∧ l.pixels.get p = x := by
  simp only [runPixels, litPixel, pixelValid, List.mem_map, List.mem_filter, List.mem_range, Bool.and_eq_true,
    decide_eq_true_eq]
  exact exists_congr fun p => and_congr_left' (by tauto)

theorem brightness_eq_max? (l : Line) (sp : Span) : brightness l sp = (runPixels l sp).max? := by
  unfold brightness
  cases runPixels l sp with
  | nil => rfl
  | cons p ps => rw [List.max?_cons']

/-- Without a valid pixel there is no brightness (R81). -/
theorem brightness_absent (h : ∀ p, ¬litPixel l sp p) : brightness l sp = none := by
  rw [brightness_eq_max?, List.max?_eq_none_iff, List.eq_nil_iff_forall_not_mem]
  intro x hx
  obtain ⟨p, hp, -⟩ := mem_runPixels.mp hx
  exact h p hp

/-- The brightness is the largest valid pixel of the run (R81). -/
theorem brightness_largest (hp : litPixel l sp p) (hmax : ∀ p', litPixel l sp p' → l.pixels.get p' ≤ l.pixels.get p) :
    brightness l sp = some (l.pixels.get p) := by
  rw [brightness_eq_max?, List.max?_eq_some_iff]
  refine ⟨mem_runPixels.mpr ⟨p, hp, rfl⟩, fun x hx => ?_⟩
  obtain ⟨p', hp', rfl⟩ := mem_runPixels.mp hx
  exact hmax p' hp'

/-! ### The spots of a line (R82) -/

/-- The spot of a span's cell behind the span: written where the span has a brightness, else as it was (R82). -/
def spotAfter (job : LineJob) (sp : Span) (clock : W32) (old : Option Spot) : Option Spot :=
  match brightness job.line sp with
  | some b => some (spotOf b job.correction clock)
  | none => old

theorem writeSpot_get (h : sp.cell < 512) : (writeSpot job sp s).view.spots.get sp.cell =
    spotAfter job sp s.life.clock (s.view.spots.get sp.cell) := by
  unfold writeSpot spotAfter
  cases brightness job.line sp with
  | none => rfl
  | some b => exact Table.get_set_self (t := s.view.spots) h

theorem writeSpot_get_of_ne (h : c ≠ sp.cell) : (writeSpot job sp s).view.spots.get c = s.view.spots.get c := by
  unfold writeSpot
  split
  · exact Table.get_set_ne (t := s.view.spots) h
  · rfl

/-- The spans, one after another, leave the spot of a cell that none of them names. -/
theorem writeSpots_get_of_not_mem (h : ∀ sp ∈ sps, sp.cell ≠ c) :
    (sps.foldl (fun u sp => writeSpot job sp u) s).view.spots.get c = s.view.spots.get c := by
  induction sps generalizing s with
  | nil => rfl
  | cons a sps ih =>
    obtain ⟨ha, hrest⟩ := List.forall_mem_cons.mp h
    rw [List.foldl_cons, ih hrest, writeSpot_get_of_ne ha.symm]

/-- Where no two of them name the same cell, each writes its cell's spot once. -/
theorem writeSpots_get_of_mem (hn : (sps.map Span.cell).Nodup) (hm : sp ∈ sps) (hc : sp.cell < 512) :
    (sps.foldl (fun u sp => writeSpot job sp u) s).view.spots.get sp.cell =
      spotAfter job sp s.life.clock (s.view.spots.get sp.cell) := by
  induction sps generalizing s with
  | nil => cases hm
  | cons a sps ih =>
    obtain ⟨ha, hrest⟩ := List.nodup_cons.mp hn
    rw [List.foldl_cons]
    obtain rfl | hm := List.mem_cons.mp hm
    · rw [writeSpots_get_of_not_mem fun b hb e => ha (List.mem_map.mpr ⟨b, hb, e⟩), writeSpot_get hc]
    · have other : sp.cell ≠ a.cell := fun e => ha (List.mem_map.mpr ⟨sp, hm, e⟩)
      rw [ih hrest hm, writeSpot_get_of_ne other, (writeSpot_frame job a s).1]

/-- Beyond the line in hand and the spots, the completion of a line changes nothing (R82). -/
theorem completeLine_eq (job : LineJob) (s : State) : completeLine job s =
    { s with view := { s.view with inHand := none, spots := (completeLine job s).view.spots } } := by
  unfold completeLine
  refine foldl_keeps (Q := fun u : State =>
    u = { s with view := { s.view with inHand := none, spots := u.view.spots } }) (fun u sp hu => ?_) _ rfl
  unfold writeSpot
  split
  · exact congrArg (withSpots _) hu
  · exact hu

end

/-- Settles O29: the head line is checked in the order of R77's table; the completion is the fold over its view's spans. -/
theorem linesAreTakenAndGiveSpots : Obligations.LinesAreTakenAndGiveSpots := by
  refine ⟨fun l rest s hp hh hq => ?_, fun job s hj => ?_⟩
  · have runs : exec .lineTake s = .next (checkLine l { s with view := { s.view with queue := rest } }) := by
      simp only [exec, execLineTake, hp, hh, hq]
    rw [runs]
    refine ⟨fun bad => ?_, fun good => ⟨fun again => ?_, fun fresh faulty => ?_, fun fresh sound => ?_⟩⟩
    · rw [checkLine_badView (by exact bad)]
      rfl
    · rw [checkLine_configured (by exact good), if_pos (by exact again)]
      rfl
    · rw [checkLine_configured (by exact good), if_neg (by exact fresh), if_pos faulty]
      rfl
    · rw [checkLine_configured (by exact good), if_neg (by exact fresh), if_neg (by simp [sound])]
      rfl
  · intro spans
    have runs : exec .lineCompletion s = .next (completeLine job s) := by simp only [exec, execLineCompletion, hj]
    refine ⟨_, runs, completeLine_eq job s, fun c hc => writeSpots_get_of_not_mem hc, fun hn sp hm hc => ?_⟩
    have written : (completeLine job s).view.spots.get sp.cell =
        spotAfter job sp s.life.clock (s.view.spots.get sp.cell) := writeSpots_get_of_mem hn hm hc
    refine ⟨fun dark => ?_, fun p hv hmax => ?_⟩
    · rw [written, spotAfter, brightness_absent dark]
    · rw [written, spotAfter, brightness_largest hv hmax]
      rfl

end Sys2Proof.Machine
end

section
/-! What runs out with the heater clock: spots, rate references, last direct times, refresh timers and commit ages
(O30). -/

namespace Sys2Proof.Machine

section
variable {s : State}

/-! ### Retirements (R83, R105, R127) -/

theorem exec_spotRetirement {c : Fin 512} {sp : Spot} (h : s.view.spots.get c.val = some sp) :
    exec (.spotRetirement c) s = if 3600000 ≤ (s.life.clock - sp.time).toNat then
      .next (withSpots (s.view.spots.set c.val none) s) else .next s := by
  simp only [exec, execSpotRetirement, h]
  rfl

theorem exec_rateReferenceRetirement {c : Fin 512} {ref : RateRef} (h : (s.alarm.recs.get c.val).ref = some ref) :
    exec (.rateReferenceRetirement c) s = if 3600000 ≤ (s.life.clock - ref.time).toNat then
      .next (withRecs (s.alarm.recs.set c.val { s.alarm.recs.get c.val with ref := none }) s) else .next s := by
  simp only [exec, execRateReferenceRetirement, h]
  rfl

theorem exec_lastDirectTimeRetirement {c : Fin 512} {d : W32} (h : (s.map.cells.get c.val).lastDirect = some d) :
    exec (.lastDirectTimeRetirement c) s = if 3600000 < (s.life.clock - d).toNat then
      .next (withCells (s.map.cells.set c.val { s.map.cells.get c.val with lastDirect := none }) s) else .next s := by
  simp only [exec, execLastDirectTimeRetirement, h]
  rfl

/-! ### Refresh timers (R94, R95) -/

/-- A request to append a pass, in one expression (R95). -/
theorem appendPass_eq (p : Nat) (s : State) : appendPass p s = withQueue
    (if s.map.queue.contains p = true ∨ (s.map.passes.get p).frozen = true ∨ (s.map.passes.get p).mode = .oos then
      s.map.queue else s.map.queue ++ [p]) s := by
  simp only [ite_or, apply_ite (withQueue · s)]
  rfl

theorem exec_refreshTimerExpiry {p : Fin 8} {tm : Timer} (h : (s.map.passes.get p.val).timer = some tm) :
    exec (.refreshTimerExpiry p) s = if tm.len ≤ (s.life.clock - tm.start).toNat then
      .next (appendPass p.val (setPass p.val { s.map.passes.get p.val with
        timer := some ⟨s.life.clock, (s.map.passes.get p.val).cfg.refreshMs⟩ } s)) else .next s := by
  simp only [exec, execRefreshTimerExpiry, passAt, h, timerDue, Timer.due, decide_eq_true_eq]
  rfl

/-! ### Commit ages (R93) -/

theorem exec_commitAgeAdvance {p : Fin 8} {age : Nat} (h : (s.map.passes.get p.val).commitAge = some age) :
    exec (.commitAgeAdvance p) s = if 1000 ≤ (s.life.clock - (s.map.passes.get p.val).ageRef).toNat then
      .next (setPass p.val { s.map.passes.get p.val with
        commitAge := some (if 65535 ≤ age + 1 then 65535 else age + 1)
        ageRef := (s.map.passes.get p.val).ageRef + 1000 } s) else .next s := by
  simp only [exec, execCommitAgeAdvance, passAt, h]
  rfl

end

/-- Settles O30: each row asks whether its age or timer has run out. -/
theorem agesAndTimersRunOut : Obligations.AgesAndTimersRunOut := by
  refine ⟨fun c s => ⟨fun sp h => ?_, fun ref h => ?_, fun d h => ?_⟩, fun p tm s h => ?_,
    fun p s => ⟨fun age h => ?_, fun h => ?_⟩⟩
  · rw [exec_spotRetirement h]
    exact ⟨fun old => if_pos old, fun young => if_neg young.not_ge⟩
  · rw [exec_rateReferenceRetirement h]
    exact ⟨fun old => if_pos old, fun young => if_neg young.not_ge⟩
  · rw [exec_lastDirectTimeRetirement h]
    exact ⟨fun old => if_pos old, fun young => if_neg young.not_gt⟩
  · rw [exec_refreshTimerExpiry h]
    refine ⟨fun due => (if_pos due).trans ?_, fun early => if_neg early.not_ge⟩
    have restarted (x : Pass) : (setPass p.val x s).map.passes.get p.val = x := Table.get_set_self p.isLt
    rw [appendPass_eq, restarted]
    rfl
  · rw [exec_commitAgeAdvance h]
    exact ⟨fun whole => if_pos whole, fun early => if_neg early.not_ge⟩
  · simp only [exec, execCommitAgeAdvance, passAt, h]

end Sys2Proof.Machine
end

section
/-! The four steps of fusion, one after another (O32). -/

namespace Sys2Proof.Machine

/-! ### The channels of an image (R102) -/

section
variable {ci : CellImage} {limit : Int} {x y : Int}

/-- The supplied temperatures are channel A's, then channel B's (R102). -/
theorem suppliedOf_eq (ci : CellImage) :
    suppliedOf ci = (ci.a.bind ChanImage.supplied).toList ++ (ci.b.bind ChanImage.supplied).toList := by
  unfold suppliedOf
  cases ha : ci.a.bind ChanImage.supplied <;> cases hb : ci.b.bind ChanImage.supplied <;> simp [ha, hb]

theorem tcOf_none (ha : ci.a.bind ChanImage.supplied = none) (hb : ci.b.bind ChanImage.supplied = none) :
    tcOf limit ci = (none, false) := by
  simp [tcOf, suppliedOf_eq, ha, hb]

/-- One channel's value is taken as it is (R102). -/
theorem tcOf_one (h : ci.a.bind ChanImage.supplied = some x ∧ ci.b.bind ChanImage.supplied = none ∨
    ci.a.bind ChanImage.supplied = none ∧ ci.b.bind ChanImage.supplied = some x) : tcOf limit ci = (some x, false) := by
  obtain ⟨ha, hb⟩ | ⟨ha, hb⟩ := h <;> simp [tcOf, suppliedOf_eq, ha, hb]

/-- Of two values the higher is taken where they disagree, else their mean (R102). -/
theorem tcOf_two (ha : ci.a.bind ChanImage.supplied = some x) (hb : ci.b.bind ChanImage.supplied = some y) :
    tcOf limit ci =
      if limit ≠ 0 ∧ limit < |x - y| then (some (max x y), true) else (some (q (x + y) 2), false) := by
  simp [tcOf, suppliedOf_eq, ha, hb]

/-- Without a thermocouple value nothing disagrees (R102). -/
theorem tcOf_agrees_of_none (h : (tcOf limit ci).1 = none) : (tcOf limit ci).2 = false := by
  unfold tcOf at h ⊢
  split at h
  · rfl
  · rfl
  · split at h <;> cases h

/-- A channel contributes that supplies a value (R102). -/
theorem mem_contributors {ch : ChanImage} :
    ch ∈ contributors ci ↔ (ci.a = some ch ∨ ci.b = some ch) ∧ ch.supplied.isSome = true := by
  simp [contributors, Option.filter_eq_some_iff, or_and_right, exists_or]

theorem goodClamped_iff : goodClamped ci = true ↔ ∃ ch, (ci.a = some ch ∨ ci.b = some ch) ∧ ch.supplied.isSome = true ∧
    ch.quality = .good ∧ ch.clamped = true := by
  simp [goodClamped, mem_contributors, and_assoc]

theorem contributors_good_iff : (contributors ci).all (fun c => decide (c.quality = .good)) = true ↔
    ∀ ch, ci.a = some ch ∨ ci.b = some ch → ch.supplied.isSome = true → ch.quality = .good := by
  simp [mem_contributors]

end

/-! ### The spot of an image, and the second step (R103, R106) -/

section
variable {cfg : PassCfg} {ci : CellImage} {clock : W32} {t : Int} {sp : SpotImage}

theorem freshSpot_some (h : ci.spot = some sp) (hf : sp.fresh = true) : freshSpot ci = some sp := by
  simp [freshSpot, h, hf]

theorem freshSpot_none (h : ∀ sp, ci.spot = some sp → sp.fresh = false) : freshSpot ci = none := by
  cases hs : ci.spot with
  | none => simp [freshSpot, hs]
  | some sp => simp [freshSpot, hs, h sp hs]

theorem direct_fused (ht : (tcOf cfg.disagreeLimit ci).1 = some t) (hs : freshSpot ci = some sp) : direct cfg ci =
    ⟨some (satTemp (t + q (cfg.weight * (sp.value - t)) 16)), .fused, (tcOf cfg.disagreeLimit ci).2,
      decide (satTemp (t + q (cfg.weight * (sp.value - t)) 16) ≠ t + q (cfg.weight * (sp.value - t)) 16) ||
        goodClamped ci || sp.clamped, some t⟩ := by
  simp only [direct, ht, hs]

theorem direct_tc (ht : (tcOf cfg.disagreeLimit ci).1 = some t) (hs : freshSpot ci = none) : direct cfg ci =
    ⟨some (satTemp t), .tc, (tcOf cfg.disagreeLimit ci).2, decide (satTemp t ≠ t) || goodClamped ci, some t⟩ := by
  simp only [direct, ht, hs]

theorem direct_pyro (ht : (tcOf cfg.disagreeLimit ci).1 = none) (hs : freshSpot ci = some sp) : direct cfg ci =
    ⟨some (satTemp sp.value), .pyro, (tcOf cfg.disagreeLimit ci).2, decide (satTemp sp.value ≠ sp.value) || sp.clamped,
      none⟩ := by
  simp only [direct, ht, hs]

theorem direct_void (ht : (tcOf cfg.disagreeLimit ci).1 = none) (hs : freshSpot ci = none) :
    direct cfg ci = ⟨none, .void, false, false, none⟩ := by
  simp only [direct, ht, hs, tcOf_agrees_of_none ht]

/-- A combined value is clamped where saturation changed it, or for what it was made of (R106). -/
theorem clamped_iff {x : Int} {b : Bool} {P : Prop} (h : b = true ↔ P) :
    (decide (satTemp x ≠ x) || b) = true ↔ x < -5000 ∨ 15000 < x ∨ P := by
  rw [Bool.or_eq_true, decide_eq_true_eq, satTemp_ne_iff, h, or_assoc]

/-! ### Pairings (R84) -/

/-- A pairing stands where every contributing channel is GOOD, they agree, and the spot was not clamped (R84). -/
theorem pairingOf_stands (ht : (tcOf cfg.disagreeLimit ci).1 = some t) (hs : freshSpot ci = some sp)
    (hg : ∀ ch, ci.a = some ch ∨ ci.b = some ch → ch.supplied.isSome = true → ch.quality = .good)
    (ha : (tcOf cfg.disagreeLimit ci).2 = false) (hc : sp.clamped = false) :
    pairingOf cfg clock ci = some ⟨t, sp.brightness, clock⟩ := by
  simp only [pairingOf, ht, hs, contributors_good_iff.mpr hg, ha, hc]
  rfl

/-- Otherwise it is removed (R84). -/
theorem pairingOf_removed (ht : (tcOf cfg.disagreeLimit ci).1 = some t) (hs : freshSpot ci = some sp)
    (h : (¬∀ ch, ci.a = some ch ∨ ci.b = some ch → ch.supplied.isSome = true → ch.quality = .good) ∨
      (tcOf cfg.disagreeLimit ci).2 = true ∨ sp.clamped = true) : pairingOf cfg clock ci = none := by
  rw [← contributors_good_iff, Bool.not_eq_true] at h
  simp only [pairingOf, ht, hs]
  obtain h | h | h := h <;> simp [h]

theorem pairingOf_no_tc (ht : (tcOf cfg.disagreeLimit ci).1 = none) : pairingOf cfg clock ci = none := by
  simp only [pairingOf, ht]

theorem pairingOf_no_spot (hs : freshSpot ci = none) : pairingOf cfg clock ci = none := by
  cases ht : (tcOf cfg.disagreeLimit ci).1 <;> simp only [pairingOf, ht, hs]

end

/-! ### Neighbours, and the third step (R104) -/

section
variable {cfg : PassCfg} {ds : List Fused} {i j k : Nat} {d : Fused}

theorem measuredBelow_eq_none (h : ∀ i < k, measuredAt ds i = none) : measuredBelow ds k = none := by
  simpa [measuredBelow] using h

/-- The highest measured position below `k` (R104). -/
theorem measuredBelow_eq (hi : i < k) (hm : (measuredAt ds i).isSome = true)
    (hgap : ∀ n, i < n → n < k → measuredAt ds n = none) : measuredBelow ds k = some i := by
  unfold measuredBelow
  induction k with
  | zero => omega
  | succ k ih =>
    rw [List.range_succ, List.reverse_append, List.reverse_singleton, List.singleton_append, List.find?_cons]
    obtain rfl | hlt := (Nat.lt_succ_iff_lt_or_eq.mp hi).symm
    · rw [hm]
    · rw [hgap k hlt (Nat.lt_succ_self k)]
      exact ih hlt fun n hn hk => hgap n hn (by omega)

theorem lt_length_of_measuredAt (hm : (measuredAt ds j).isSome = true) : j < ds.length := by
  by_contra h
  simp [measuredAt, List.getElem?_eq_none (Nat.not_lt.mp h)] at hm

theorem measuredAbove_eq_none (h : ∀ j, k < j → measuredAt ds j = none) : measuredAbove ds k = none := by
  rw [measuredAbove, List.find?_eq_none]
  intro j _
  rw [Bool.and_eq_true, decide_eq_true_eq]
  rintro ⟨hk, hm⟩
  simp [h j hk] at hm

/-- The lowest measured position above `k` (R104). -/
theorem measuredAbove_eq (hj : k < j) (hm : (measuredAt ds j).isSome = true)
    (hgap : ∀ n, k < n → n < j → measuredAt ds n = none) : measuredAbove ds k = some j := by
  rw [measuredAbove, List.find?_range_eq_some]
  refine ⟨by simp [hj, hm], List.mem_range.mpr (lt_length_of_measuredAt hm), fun n hn => ?_⟩
  by_cases hk : k < n
  · simp [hgap n hk hn]
  · simp [hk]

theorem interpolated_of_temp (h : d.temp.isSome = true) : interpolated cfg ds k d = d := by
  obtain ⟨t, ht⟩ := Option.isSome_iff_exists.mp h
  simp only [interpolated, ht]

/-- Between two measured neighbours the span limit decides (R104). -/
theorem interpolated_between {ti tj : Int} {ci cj : Bool} (h : d.temp = none) (hb : measuredBelow ds k = some i)
    (ha : measuredAbove ds k = some j) (hi : measuredAt ds i = some (ti, ci)) (hj : measuredAt ds j = some (tj, cj)) :
    interpolated cfg ds k d = if j - i ≤ cfg.spanLimit then
      ⟨some (satTemp (interpolate ti tj i j k)), .interp, false,
        decide (satTemp (interpolate ti tj i j k) ≠ interpolate ti tj i j k) || ci || cj, none⟩ else d := by
  simp only [interpolated, h, hb, ha, hi, hj]

theorem interpolated_alone (h : measuredBelow ds k = none ∨ measuredAbove ds k = none) : interpolated cfg ds k d = d := by
  unfold interpolated
  obtain h | h := h <;> cases d.temp <;> simp [h]

end

/-! ### The fourth step (R105) -/

section
variable {holdS : Nat} {clock : W32} {old : Cell} {d : Fused}

theorem heldOrVoid_of_temp (h : d.temp.isSome = true) : heldOrVoid holdS clock old d = d := by
  obtain ⟨t, ht⟩ := Option.isSome_iff_exists.mp h
  simp only [heldOrVoid, ht]

theorem heldOrVoid_holds {t : Int} {ld : W32} (h : d.temp = none) (ht : old.temp = some t)
    (hl : old.lastDirect = some ld) (hold : (clock - ld).toNat ≤ holdS * 1000) :
    heldOrVoid holdS clock old d = ⟨some t, .held, false, old.clamped, none⟩ := by
  simp only [heldOrVoid, h, ht, hl]
  exact if_pos hold

theorem heldOrVoid_voids (h : d.temp = none)
    (hn : ¬∃ t ld, old.temp = some t ∧ old.lastDirect = some ld ∧ (clock - ld).toNat ≤ holdS * 1000) :
    heldOrVoid holdS clock old d = ⟨none, .void, false, false, none⟩ := by
  simp only [heldOrVoid, h]
  split
  next t ld ht hl => exact if_neg fun hold => hn ⟨t, ld, ht, hl, hold⟩
  next => rfl

end

/-! ### The steps together (R102 to R106) -/

/-- What a step of fusion leaves: a temperature in the range, absent exactly where the source is VOID, and no OOS. -/
def Fused.Sound (d : Fused) : Prop :=
  inTempRange d.temp ∧ (d.temp = none ↔ d.source = .void) ∧ d.source ≠ .oos

section
variable {d : Fused}

theorem fused_sound {t : Int} (ht : d.temp = some t) (hr : inTempRange (some t)) (hv : d.source ≠ .void)
    (ho : d.source ≠ .oos) : d.Sound := by
  refine ⟨ht ▸ hr, ?_, ho⟩
  simp [ht, hv]

theorem void_sound (disagree clamped : Bool) : (⟨none, .void, disagree, clamped, none⟩ : Fused).Sound :=
  ⟨inTempRange_none, by simp, by simp⟩

theorem direct_sound (cfg : PassCfg) (ci : CellImage) : (direct cfg ci).Sound := by
  unfold direct
  dsimp only
  split
  · exact fused_sound rfl (inTempRange_satTemp _) nofun nofun
  · exact fused_sound rfl (inTempRange_satTemp _) nofun nofun
  · exact fused_sound rfl (inTempRange_satTemp _) nofun nofun
  · exact void_sound _ _

theorem interpolated_sound (h : d.Sound) (cfg : PassCfg) (ds : List Fused) (k : Nat) :
    (interpolated cfg ds k d).Sound := by
  unfold interpolated
  split
  · exact h
  · split
    · split
      · split
        · exact fused_sound rfl (inTempRange_satTemp _) nofun nofun
        · exact h
      · exact h
    · exact h

theorem heldOrVoid_sound (h : d.Sound) {old : Cell} (ho : inTempRange old.temp) (holdS : Nat) (clock : W32) :
    (heldOrVoid holdS clock old d).Sound := by
  unfold heldOrVoid
  split
  · exact h
  · split
    next ht _ =>
      split
      · exact fused_sound rfl (ht ▸ ho) nofun nofun
      · exact void_sound _ _
    next => exact void_sound _ _

end

theorem fuseAt_eq {image : List CellImage} {k : Nat} (hk : k < image.length) (cfg : PassCfg) (clock : W32) (old : Cell) :
    fuseAt cfg clock image k old = heldOrVoid cfg.holdS clock old
      (interpolated cfg (image.map (direct cfg)) k (direct cfg (image.getD k default))) := by
  have at_k : (image.map (direct cfg)).getD k default = direct cfg (image.getD k default) := by
    simp [List.getD_eq_getElem?_getD, hk]
  rw [← at_k]
  rfl

/-- Settles O32: the four steps in turn, each by its own lemmas. -/
theorem fusionFollowsItsFourSteps : Obligations.FusionFollowsItsFourSteps := by
  refine ⟨fun limit ci => ⟨tcOf_none, fun x => tcOf_one, fun x y ha hb => ⟨fun hl hd => ?_, fun h => ?_⟩⟩,
    fun cfg ci clock => ⟨fun t sp ht hs hf => ⟨?_, fun hg ha hc => ?_, fun h => ?_⟩, fun sp ht hs hf => ?_,
      fun stale => ?_⟩,
    fun cfg ds k d => ⟨interpolated_of_temp, fun ht => ⟨fun i j ti tj ci cj hi hj hmi hmj hgap => ?_, fun h => ?_⟩⟩,
    fun holdS clock old d => ⟨heldOrVoid_of_temp, ?_, heldOrVoid_voids⟩,
    fun cfg clock image k old hk ho => ?_⟩
  · rw [tcOf_two ha hb, if_pos ⟨hl, hd⟩]
  · rw [tcOf_two ha hb, if_neg (by omega)]
  · rw [direct_fused ht (freshSpot_some hs hf)]
    refine ⟨rfl, rfl, rfl, ht.symm, ?_⟩
    dsimp only
    rw [Bool.or_assoc]
    exact clamped_iff (by rw [Bool.or_eq_true, goodClamped_iff])
  · exact pairingOf_stands ht (freshSpot_some hs hf) hg ha hc
  · exact pairingOf_removed ht (freshSpot_some hs hf) h
  · rw [direct_pyro ht (freshSpot_some hs hf)]
    exact ⟨⟨rfl, rfl, rfl, ht.symm, clamped_iff Iff.rfl⟩, pairingOf_no_tc ht⟩
  · have none_fresh := freshSpot_none stale
    refine ⟨pairingOf_no_spot none_fresh, fun t ht => ?_, fun ht => direct_void ht none_fresh⟩
    rw [direct_tc ht none_fresh]
    exact ⟨rfl, rfl, rfl, ht.symm, clamped_iff goodClamped_iff⟩
  · have below : measuredBelow ds k = some i :=
      measuredBelow_eq hi (by simp [hmi]) fun n hn hk => hgap n hn (by omega) (by omega)
    have above : measuredAbove ds k = some j :=
      measuredAbove_eq hj (by simp [hmj]) fun n hk hn => hgap n (by omega) hn (by omega)
    rw [interpolated_between ht below above hmi hmj]
    exact ⟨fun near => if_pos near, fun far => if_neg far.not_ge⟩
  · exact interpolated_alone (h.imp measuredBelow_eq_none measuredAbove_eq_none)
  · rintro hd ⟨t, ld, ht, hl, hold⟩
    rw [heldOrVoid_holds hd ht hl hold, ht]
  · exact ⟨fuseAt_eq hk cfg clock old, fuseAt_eq hk cfg clock old ▸
      heldOrVoid_sound (interpolated_sound (direct_sound _ _) _ _ _) ho _ _⟩

end Sys2Proof.Machine
end

section
/-! The Alarm Unit's work on the cells of a pass, one after another, and what follows it (R129, R135, R138, R142, R151). -/

namespace Sys2Proof.Machine

/-! ### The work, cell by cell -/

/-- The work of one cell on its alarm record. -/
def workCell (work : State → Nat → AlarmRec → AlarmRec × List EventData) (s : State) (c : Nat) : State :=
  putAlarm c (work s c (s.alarm.recs.get c)) s

/-- The work reads nothing that it writes but the record it is given. -/
def SteadyAlarm (work : State → Nat → AlarmRec → AlarmRec × List EventData) : Prop :=
  ∀ s c, work (workCell work s c) = work s

/-- The records behind the work on the cells `cs`. -/
def workedRec (work : State → Nat → AlarmRec → AlarmRec × List EventData) (cs : List Nat) (s : State) (c : Nat) :
    AlarmRec :=
  if c ∈ cs then (work s c (s.alarm.recs.get c)).1 else s.alarm.recs.get c

/-- The events of the work on the cells `cs`. -/
def workEvents (work : State → Nat → AlarmRec → AlarmRec × List EventData) (cs : List Nat) (s : State) : List Event :=
  cs.flatMap fun c => stampedAt s.life.clock (work s c (s.alarm.recs.get c)).2

section
variable {work : State → Nat → AlarmRec → AlarmRec × List EventData} {s t : State} {c d p n : Nat} {cs : List Nat}

/-- The work of one cell touches its alarm record and hands over its events (R142, R167). -/
theorem workCell_eq (work : State → Nat → AlarmRec → AlarmRec × List EventData) (s : State) (c : Nat) :
    workCell work s c = { s with
      alarm := { s.alarm with recs := s.alarm.recs.set c (work s c (s.alarm.recs.get c)).1 }
      ev := takes (stampedAt s.life.clock (work s c (s.alarm.recs.get c)).2) s.ev } := emitAll_eq _ _

theorem workCell_life : (workCell work s c).life = s.life := by rw [workCell_eq]

theorem workCell_get (hd : d < 512) : (workCell work s c).alarm.recs.get d =
    if d = c then (work s c (s.alarm.recs.get c)).1 else s.alarm.recs.get d := by
  rw [workCell_eq]
  dsimp only
  rw [Table.get_set]
  exact if_congr (and_iff_left_of_imp fun e => e ▸ hd) rfl rfl

theorem workedRec_cons (hw : SteadyAlarm work) (hc : c ∉ cs) (hd : d < 512) :
    workedRec work cs (workCell work s c) d = workedRec work (c :: cs) s d := by
  simp only [workedRec, hw s c, workCell_get hd, List.mem_cons]
  obtain rfl | hdc := eq_or_ne d c
  · simp [hc]
  · simp [hdc]

theorem workEvents_cons (hw : SteadyAlarm work) (hc : c ∉ cs) (hlt : ∀ d ∈ cs, d < 512) :
    stampedAt s.life.clock (work s c (s.alarm.recs.get c)).2 ++ workEvents work cs (workCell work s c) =
      workEvents work (c :: cs) s := by
  have later : workEvents work cs (workCell work s c) = workEvents work cs s :=
    List.flatMap_congr fun d hd => by
      have other : d ≠ c := fun e => hc (e ▸ hd)
      rw [hw, workCell_life, workCell_get (hlt d hd), if_neg other]
  rw [later]
  rfl

/-- The work on distinct cells, in this order: each record has it done once, the events follow one another, and nothing
else changes. -/
theorem workCells_eq (hw : SteadyAlarm work) (hn : cs.Nodup) (hlt : ∀ c ∈ cs, c < 512) :
    cs.foldl (workCell work) s = { s with
      alarm := { s.alarm with recs := Table.build 512 (workedRec work cs s) }
      ev := takes (workEvents work cs s) s.ev } := by
  induction cs generalizing s with
  | nil =>
    have kept : workedRec work [] s = s.alarm.recs.get := funext fun c => by simp [workedRec]
    rw [kept, Table.build_get]
    rfl
  | cons c cs ih =>
    obtain ⟨hc, hn⟩ := List.nodup_cons.mp hn
    obtain ⟨-, hlt⟩ := List.forall_mem_cons.mp hlt
    rw [List.foldl_cons, ih hn hlt, ← workEvents_cons hw hc hlt, takes_append,
      Table.build_congr fun d hd => workedRec_cons (s := s) hw hc hd]
    generalize workEvents work cs (workCell work s c) = later
    rw [workCell_eq work s c]

/-! ### The cells of a pass -/

/-- The cells of a pass at its first `n` positions, ascending (spec 06). -/
def passCells (p n : Nat) : List Nat := (List.range n).map (cellAt p)

theorem mem_passCells (hn : n ≤ 64) : c ∈ passCells p n ↔ c / 64 = p ∧ c % 64 < n := by
  simp only [passCells, cellAt, List.mem_map, List.mem_range]
  exact ⟨fun ⟨k, hk, h⟩ => by omega, fun ⟨hp, hk⟩ => ⟨c % 64, hk, by omega⟩⟩

theorem passCells_nodup (p n : Nat) : (passCells p n).Nodup :=
  List.nodup_range.map fun _ _ h => Nat.add_left_cancel h

theorem passCells_lt (hp : p < 8) (hn : n ≤ 64) : ∀ c ∈ passCells p n, c < 512 := fun c hc => by
  obtain ⟨hcp, -⟩ := (mem_passCells hn).mp hc
  omega

theorem ofPass_iff : ofPass p n c = true ↔ c / 64 = p ∧ c % 64 < n := by
  rw [ofPass, Bool.and_eq_true, decide_eq_true_eq, decide_eq_true_eq]
  rfl

/-- The work on the first positions of a pass, ascending. -/
theorem passWork_eq (hw : SteadyAlarm work) (hp : p < 8) (hn : n ≤ 64) (s : State) :
    forIdx n (fun pos u => workCell work u (cellAt p pos)) s = { s with
      alarm := { s.alarm with recs := Table.build 512 (workedRec work (passCells p n) s) }
      ev := takes (workEvents work (passCells p n) s) s.ev } := by
  rw [← workCells_eq hw (passCells_nodup p n) (passCells_lt hp hn), passCells, List.foldl_map]
  rfl

theorem workEvents_passCells : workEvents work (passCells p n) s = (List.range n).flatMap fun k =>
    stampedAt s.life.clock (work s (p * 64 + k) (s.alarm.recs.get (p * 64 + k))).2 := by
  rw [workEvents, passCells, List.flatMap_map]
  rfl

/-- What the work on a pass leaves in a record. -/
theorem workedRec_passCells (hn : n ≤ 64) (c : Nat) : workedRec work (passCells p n) s c =
    if c / 64 = p ∧ c % 64 < n then (work s c (s.alarm.recs.get c)).1 else s.alarm.recs.get c :=
  if_congr (mem_passCells hn) rfl rfl

/-! ### ALM# and the hot list behind it (R138, R151) -/

/-- ALM# is true where the alarm block is the one evaluated (R138). -/
theorem almTrue_of_evalAlm (ha : t.alarm = (evalAlm s).alarm) (hl : t.life = s.life) : t.AlmTrue := by
  rw [State.AlmTrue, ← almCondition_iff, almCondition, ha, hl]
  rfl

/-- A rebuild writes the hot list and hands the leader event over (R151, R155). -/
theorem rebuildHot_eq (s : State) : rebuildHot s = { s with
    hot := hotOf s, ev := takes (leaderEvents s.hot (hotOf s) s.life.clock) s.ev } := by
  have told (before : Hot) (u : State) : leaderEvent before u = { u with ev := (leaderEvent before u).ev } := by
    unfold leaderEvent
    dsimp only
    split
    · split <;> rfl
    · split <;> rfl
  rw [rebuildHot, told, leaderEvent_ev]
  simp only [rebuildList]

end

end Sys2Proof.Machine
end

section
/-! A recompute's image at its start, and its commit (O31). -/

namespace Sys2Proof.Machine

section
variable {s : State} {w : Work} {c : Nat}

/-! ### The image (R97, R98) -/

/-- A channel's supplied temperature counts in GOOD and SUSPECT (R98). -/
theorem chanImage_eq (s : State) (c : Nat) : chanImage s c =
    ⟨(s.conv.channels.get c).quality,
      if (s.conv.channels.get c).quality = .good ∨ (s.conv.channels.get c).quality = .suspect then
        (s.conv.channels.get c).supplied else none, (s.conv.channels.get c).clamped⟩ := by
  unfold chanImage
  dsimp only
  cases (s.conv.channels.get c).quality <;> rfl

/-- With a recompute in flight, with an empty queue, or outside RUN, nothing starts (R97). -/
theorem exec_recomputeStart_idle (h : s.life.phase ≠ .run ∨ s.map.work.isSome = true ∨ s.map.queue = []) :
    exec .recomputeStart s = .next s := by
  simp only [exec, execRecomputeStart]
  split
  next hp hw hq => simp [hp, hw, hq] at h
  next => rfl

/-! ### The stages of a commit (R99) -/

/-- The cells, the pass and the pairings written, before the Alarm Unit's work (R84, R93, R99). -/
def commitWritten (w : Work) (s : State) : State := { s with
  map := { s.map with
    cells := commitCells s w
    passes := s.map.passes.set w.pass (commitPassState s (s.map.passes.get w.pass)) }
  view := { s.view with pairings := commitPairings s w } }

/-- The Alarm Unit's work on a cell at a commit that credits an exposed cell with `credit` (R142). -/
def commitWork (p credit : Nat) (s : State) (c : Nat) (r : AlarmRec) : AlarmRec × List EventData :=
  alarmCell (alarmIn s p c credit) r

theorem commitWork_steady (p credit : Nat) : SteadyAlarm (commitWork p credit) := fun s c => by
  rw [workCell_eq]
  rfl

/-- The commit's cells. -/
def committed (w : Work) (s : State) : List Nat := passCells w.pass (s.map.passes.get w.pass).cfg.cellCount

/-- The alarm records and the events behind the commit's alarm work (R142). -/
def commitWorked (w : Work) (s : State) : State :=
  let work := commitWork w.pass (exposureCredit (s.map.passes.get w.pass) s.life.clock)
  { commitWritten w s with
    alarm := { s.alarm with recs := Table.build 512 (workedRec work (committed w s) (commitWritten w s)) }
    ev := takes (workEvents work (committed w s) (commitWritten w s)) s.ev }

/-! ### What a commit leaves (R84, R93, R99, R142) -/

/-- The cell is one of the commit's. -/
def isCommitted (w : Work) (s : State) (c : Nat) : Prop :=
  c / 64 = w.pass ∧ c % 64 < (s.map.passes.get w.pass).cfg.cellCount

/-- What fusion gives a cell of the pass in flight (R102 to R106). -/
def committedFused (w : Work) (s : State) (c : Nat) : Fused :=
  fuseAt (s.map.passes.get w.pass).cfg s.life.clock w.image (c % 64) (s.map.cells.get c)

/-- What the Alarm Unit reads of a cell of the pass in flight (R142). -/
def committedAlarmIn (w : Work) (s : State) (c : Nat) : AlarmIn :=
  ⟨c, (s.map.passes.get w.pass).cfg, (s.map.passes.get w.pass).mode, (s.map.cells.get c).cfg.limit,
    (committedFused w s c).source, (committedFused w s c).temp, s.life.clock,
    exposureCredit (s.map.passes.get w.pass) s.life.clock⟩

theorem commitWritten_cell_of (hc : c < 512) (hi : isCommitted w s c) : (commitWritten w s).map.cells.get c =
    commitCell s.life.clock (w.image.getD (c % 64) default) (committedFused w s c) (s.map.cells.get c) :=
  (Table.get_mapIdx _ _ hc).trans (if_pos (ofPass_iff.mpr hi))

theorem commitWritten_cell_of_not (hc : c < 512) (ho : ¬isCommitted w s c) :
    (commitWritten w s).map.cells.get c = s.map.cells.get c :=
  (Table.get_mapIdx _ _ hc).trans (if_neg fun h => ho (ofPass_iff.mp h))

theorem commitWritten_pairing_of (hc : c < 512) (hi : isCommitted w s c) : (commitWritten w s).view.pairings.get c =
    pairingOf (s.map.passes.get w.pass).cfg s.life.clock (w.image.getD (c % 64) default) :=
  (Table.get_mapIdx _ _ hc).trans (if_pos (ofPass_iff.mpr hi))

theorem commitWritten_pairing_of_not (hc : c < 512) (ho : ¬isCommitted w s c) :
    (commitWritten w s).view.pairings.get c = s.view.pairings.get c :=
  (Table.get_mapIdx _ _ hc).trans (if_neg fun h => ho (ofPass_iff.mp h))

/-- The written pass has the configuration part and the mode that it had (R99). -/
theorem commitWritten_pass (hp : w.pass < 8) : (commitWritten w s).map.passes.get w.pass =
    commitPassState s (s.map.passes.get w.pass) := Table.get_set_self hp

/-- The Alarm Unit reads of a cell what fusion gave it (R142). -/
theorem alarmIn_commitWritten (hp : w.pass < 8) (hc : c < 512) (hi : isCommitted w s c) :
    alarmIn (commitWritten w s) w.pass c (exposureCredit (s.map.passes.get w.pass) s.life.clock) =
      committedAlarmIn w s c := by
  rw [alarmIn, commitWritten_pass hp, commitWritten_cell_of hc hi]
  rfl

section
variable (hp : w.pass < 8) (hn : (s.map.passes.get w.pass).cfg.cellCount ≤ 64)
include hp hn

/-- A commit writes its cells, works the alarm records, evaluates ALM# and rebuilds the hot list (R99). -/
theorem commitPass_eq_rebuildHot : commitPass w s = rebuildHot (evalAlm (commitWorked w s)) := by
  have works : forIdx ((commitWritten w s).map.passes.get w.pass).cfg.cellCount
      (fun pos u => workCell (commitWork w.pass (exposureCredit (s.map.passes.get w.pass) s.life.clock)) u
        (cellAt w.pass pos)) (commitWritten w s) = commitWorked w s := by
    rw [commitWritten_pass hp]
    exact passWork_eq (commitWork_steady _ _) hp hn _
  exact congrArg (fun u => rebuildHot (evalAlm u)) works

theorem commitPass_alarm : (commitPass w s).alarm = (evalAlm (commitWorked w s)).alarm := by
  rw [commitPass_eq_rebuildHot hp hn, rebuildHot_eq]

/-- The events of the cells' alarm work, ascending (R142). -/
theorem commitWorked_ev : (commitWorked w s).ev = takes ((List.range (s.map.passes.get w.pass).cfg.cellCount).flatMap
    fun k => stampedAt s.life.clock (alarmCell (committedAlarmIn w s (w.pass * 64 + k))
      (s.alarm.recs.get (w.pass * 64 + k))).2) s.ev := by
  refine congrArg (takes · s.ev) (workEvents_passCells.trans (List.flatMap_congr fun k hk => ?_))
  have at_k := List.mem_range.mp hk
  rw [commitWork, alarmIn_commitWritten hp (by omega) ⟨by omega, by omega⟩]
  rfl

/-- A commit in one expression (R93, R94, R99, R142, R155). -/
theorem commitPass_eq : commitPass w s = { commitWritten w s with
    alarm := (commitPass w s).alarm
    hot := (commitPass w s).hot
    ev := takes (((List.range (s.map.passes.get w.pass).cfg.cellCount).flatMap fun k =>
      stampedAt s.life.clock (alarmCell (committedAlarmIn w s (w.pass * 64 + k))
        (s.alarm.recs.get (w.pass * 64 + k))).2) ++ leaderEvents s.hot (commitPass w s).hot s.life.clock) s.ev } := by
  rw [takes_append, ← commitWorked_ev hp hn, commitPass_eq_rebuildHot hp hn, rebuildHot_eq]
  rfl

theorem commitPass_rec_of (hc : c < 512) (hi : isCommitted w s c) : (commitPass w s).alarm.recs.get c =
    (alarmCell (committedAlarmIn w s c) (s.alarm.recs.get c)).1 := by
  rw [commitPass_alarm hp hn, ← alarmIn_commitWritten hp hc hi]
  exact (Table.get_build _ hc).trans ((workedRec_passCells hn c).trans (if_pos hi))

theorem commitPass_rec_of_not (hc : c < 512) (ho : ¬isCommitted w s c) :
    (commitPass w s).alarm.recs.get c = s.alarm.recs.get c := by
  rw [commitPass_alarm hp hn]
  exact (Table.get_build _ hc).trans ((workedRec_passCells hn c).trans (if_neg ho))

theorem commitPass_almTrue : (commitPass w s).AlmTrue :=
  almTrue_of_evalAlm (commitPass_alarm hp hn) (commitPass_frame w s).1

/-- The hot list is the one that the written cells and the worked records give (R151). -/
theorem commitPass_hot : (commitPass w s).hot = hotOf (commitPass w s) := by
  rw [commitPass_eq_rebuildHot hp hn, rebuildHot_hot]
  exact (hotOf_congr (by simp) (by simp)).symm

end

theorem exec_recomputeCompletion (h : s.map.work = some w) : exec .recomputeCompletion s =
    .next (if w.discard = true then withWork none s else commitPass w (withWork none s)) := by
  simp only [exec, execRecomputeCompletion, h]

end

/-- Settles O31: the image read off the tables; the commit's writes, its alarm work along the pass, its rebuild. -/
theorem recomputesStartAndCommit : Obligations.RecomputesStartAndCommit := by
  refine ⟨fun s => ⟨fun p rest hp hw hq => ?_, exec_recomputeStart_idle⟩, fun w s hw => ⟨fun hd => ?_,
    fun hd hp hs => ?_⟩⟩
  · simp only [exec, execRecomputeStart, hp, hw, hq, imageOf, cellImage, funext (chanImage_eq s)]
    rfl
  · rw [exec_recomputeCompletion hw, if_pos hd]
    rfl
  · intro x inside fused alarmed
    have runs : exec .recomputeCompletion s = .next (commitPass w (withWork none s)) := by
      rw [exec_recomputeCompletion hw, if_neg (by simp [hd])]
    have hn : ((withWork none s).map.passes.get w.pass).cfg.cellCount ≤ 64 := (hs.cells w.pass hp).1
    have whole := commitPass_eq hp hn
    have cells : (commitPass w (withWork none s)).map.cells = (commitWritten w (withWork none s)).map.cells := by
      rw [whole]
    have pairings :
        (commitPass w (withWork none s)).view.pairings = (commitWritten w (withWork none s)).view.pairings := by
      rw [whole]
    refine ⟨_, runs, ?_, fun c hc hi => ⟨?_, ?_, commitPass_rec_of hp hn hc hi⟩,
      fun c hc ho => ⟨?_, ?_, commitPass_rec_of_not hp hn hc ho⟩, commitPass_almTrue hp hn, commitPass_hot hp hn⟩
    · rw [cells, pairings]
      exact whole
    · rw [cells]
      exact commitWritten_cell_of hc hi
    · rw [pairings]
      exact commitWritten_pairing_of hc hi
    · rw [cells]
      exact commitWritten_cell_of_not hc ho
    · rw [pairings]
      exact commitWritten_pairing_of_not hc ho

end Sys2Proof.Machine
end


section
/-! SET MODE to and from OOS (O35). -/

namespace Sys2Proof.Machine

theorem Table.set_set {α : Type} {n : Nat} (t : Table α n) (i : Nat) (a b : α) : (t.set i a).set i b = t.set i b :=
  Table.ext_data (List.set_set _)

section
variable {s t u : State} {p c : Nat} {m : Mode}

/-! ### What the entry and the exit share (R93, R110, R111) -/

/-- The cells of a pass emptied, the others as they are (R110, R111). -/
def emptiedCells (p : Nat) (src : Source) (s : State) : Table Cell 512 :=
  s.map.cells.mapIdx fun c cell => if ofPass p (s.map.passes.get p).cfg.cellCount c then emptiedCell src cell else cell

theorem emptiedCells_get (src : Source) (hc : c < 512) : (emptiedCells p src s).get c =
    if c / 64 = p ∧ c % 64 < (s.map.passes.get p).cfg.cellCount then emptiedCell src (s.map.cells.get c)
    else s.map.cells.get c :=
  (Table.get_mapIdx _ _ hc).trans (if_congr ofPass_iff rfl rfl)

theorem putMode_pass (hp : p < 8) (m : Mode) (s : State) :
    passAt (putMode p m s) p = { s.map.passes.get p with mode := m } := Table.get_set_self hp

theorem putMode_cellCount (hp : p < 8) (m : Mode) (s : State) :
    ((putMode p m s).map.passes.get p).cfg.cellCount = (s.map.passes.get p).cfg.cellCount := by
  rw [← passAt, putMode_pass hp]

/-- The passes with one of them in its new mode, its generation advanced (R93, R110, R111). -/
def modeChanged (p : Nat) (m : Mode) (s : State) : Table Pass 8 :=
  s.map.passes.set p { s.map.passes.get p with mode := m, gen := (s.map.passes.get p).gen + 1 }

theorem modeChanged_get (hp : p < 8) : (modeChanged p m s).get p =
    { s.map.passes.get p with mode := m, gen := (s.map.passes.get p).gen + 1 } := Table.get_set_self hp

/-- The generation advances behind a new mode. -/
theorem advanceGen_of_putMode (hp : p < 8) (hu : u.map.passes = (putMode p m s).map.passes) :
    advanceGen p u = withPasses (modeChanged p m s) u := by
  have pass : passAt u p = { s.map.passes.get p with mode := m } := by
    rw [passAt, hu]
    exact putMode_pass hp m s
  rw [advanceGen, pass, setPass, hu]
  exact congrArg (withPasses · u) (Table.set_set ..)

/-! ### The entry (R85, R110, R135) -/

/-- The Alarm Unit's work on a cell at the entry of its pass to OOS (R135). -/
def oosWork (_ : State) (c : Nat) (r : AlarmRec) : AlarmRec × List EventData := alarmCellOos c r

theorem oosWork_steady : SteadyAlarm oosWork := fun _ _ => rfl

/-- The pairings without those of the pass's cells (R85). -/
def droppedPairings (p : Nat) (s : State) : Table (Option Pairing) 512 :=
  s.view.pairings.mapIdx fun c old => if ofPass p (s.map.passes.get p).cfg.cellCount c then none else old

theorem droppedPairings_get (hc : c < 512) : (droppedPairings p s).get c =
    if c / 64 = p ∧ c % 64 < (s.map.passes.get p).cfg.cellCount then none else s.view.pairings.get c :=
  (Table.get_mapIdx _ _ hc).trans (if_congr ofPass_iff rfl rfl)

/-- The refresh queue without the pass, and the workspace without its recompute (R101, R110). -/
def oosUnscheduled (p : Nat) (s : State) : State := { s with map := { s.map with
  work := if s.map.work.any (fun w => decide (w.pass = p)) = true then none else s.map.work
  queue := s.map.queue.erase p } }

theorem unschedule_eq (p : Nat) (s : State) : removeQueued p (abandon p s) = oosUnscheduled p s := by
  have flying : passInFlight s p = s.map.work.any fun w => decide (w.pass = p) := by
    unfold passInFlight
    cases s.map.work <;> rfl
  rw [abandon, flying, oosUnscheduled]
  split <;> rfl

/-- The pass in its mode and out of the schedule, its cells and pairings emptied (R85, R110). -/
def oosEmptied (p : Nat) (s : State) : State := { oosUnscheduled p s with
  map := { (oosUnscheduled p s).map with cells := emptiedCells p .oos s, passes := (putMode p .oos s).map.passes }
  view := { s.view with pairings := droppedPairings p s } }

theorem dropPairings_emptyCells (hp : p < 8) (s : State) :
    dropPairings p (emptyCells p .oos (oosUnscheduled p (putMode p .oos s))) = oosEmptied p s := by
  unfold oosEmptied emptiedCells droppedPairings
  rw [← putMode_cellCount hp .oos]
  rfl

/-- All that the entry to OOS writes before it evaluates ALM# (R85, R110, R135). -/
def oosEntered (p : Nat) (s : State) : State := { oosEmptied p s with
  map := { (oosEmptied p s).map with passes := modeChanged p .oos s }
  alarm := { s.alarm with recs := Table.build 512 (workedRec oosWork (passCells p 64) s) }
  ev := takes (workEvents oosWork (passCells p 64) s) s.ev }

/-- The entry to OOS evaluates ALM# and rebuilds the hot list behind its writes (R110, R138, R152). -/
theorem enterOos_eq_rebuildHot (hp : p < 8) (s : State) : enterOos p s = rebuildHot (evalAlm (oosEntered p s)) := by
  have works (v : State) : alarmOosEntry p v = evalAlm { v with
      alarm := { v.alarm with recs := Table.build 512 (workedRec oosWork (passCells p 64) v) }
      ev := takes (workEvents oosWork (passCells p 64) v) v.ev } :=
    congrArg evalAlm (passWork_eq oosWork_steady hp le_rfl v)
  rw [enterOos, unschedule_eq, dropPairings_emptyCells hp, works, advanceGen_of_putMode (s := s) (m := .oos) hp]
  · rfl
  · rfl

theorem enterOos_alarm (hp : p < 8) : (enterOos p s).alarm = (evalAlm (oosEntered p s)).alarm := by
  rw [enterOos_eq_rebuildHot hp, rebuildHot_eq]

/-- The events of a cell at the entry of its pass to OOS: its rate alarm off, its level NORMAL (R135). -/
def oosEvents (clock : W32) (c : Nat) (r : AlarmRec) : List Event :=
  (if r.rateAlarm = true then
    [⟨.alarmRateOff, BitVec.ofNat 16 c, clock,
      match r.rate with | some v => BitVec.ofInt 32 v | none => 0xFFFF8000, 3⟩] else []) ++
  if r.level = .normal then [] else
    [⟨.alarmLevel, BitVec.ofNat 16 c, clock, BitVec.ofNat 32 r.level.code, 0⟩]

theorem stamped_alarmCellOos (clock : W32) (c : Nat) (r : AlarmRec) :
    stampedAt clock (alarmCellOos c r).2 = oosEvents clock c r := by
  unfold alarmCellOos stampedAt oosEvents
  dsimp only
  rw [List.map_append]
  refine congrArg₂ (· ++ ·) ?_ ?_
  · split
    · cases r.rate <;> rfl
    · rfl
  · split <;> rfl

/-- The entry to OOS in one expression (R85, R95, R110, R135, R155). -/
theorem enterOos_eq (hp : p < 8) (hq : s.map.queue.Nodup) : enterOos p s = { oosEntered p s with
    map := { (oosEntered p s).map with queue := s.map.queue.filter fun k => decide (k ≠ p) }
    alarm := (enterOos p s).alarm
    hot := (enterOos p s).hot
    ev := takes (((List.range 64).flatMap fun k => oosEvents s.life.clock (p * 64 + k)
      (s.alarm.recs.get (p * 64 + k))) ++ leaderEvents s.hot (enterOos p s).hot s.life.clock) s.ev } := by
  have queue : s.map.queue.filter (fun k => decide (k ≠ p)) = s.map.queue.erase p :=
    (List.filter_congr fun k _ => by simp [bne, beq_eq_decide]).trans (hq.erase_eq_filter p).symm
  have events : workEvents oosWork (passCells p 64) s =
      (List.range 64).flatMap fun k => oosEvents s.life.clock (p * 64 + k) (s.alarm.recs.get (p * 64 + k)) :=
    workEvents_passCells.trans (List.flatMap_congr fun k _ => stamped_alarmCellOos ..)
  rw [takes_append, ← events, queue, enterOos_eq_rebuildHot hp, rebuildHot_eq]
  rfl

theorem enterOos_cells (hp : p < 8) : (enterOos p s).map.cells = emptiedCells p .oos s := by
  rw [enterOos_eq_rebuildHot hp, rebuildHot_eq]
  rfl

theorem enterOos_pairings (hp : p < 8) : (enterOos p s).view.pairings = droppedPairings p s := by
  rw [enterOos_eq_rebuildHot hp, rebuildHot_eq]
  rfl

theorem enterOos_rec (hp : p < 8) (hc : c < 512) : (enterOos p s).alarm.recs.get c =
    if c / 64 = p then (alarmCellOos c (s.alarm.recs.get c)).1 else s.alarm.recs.get c := by
  rw [enterOos_alarm hp]
  refine (Table.get_build _ hc).trans ((workedRec_passCells le_rfl c).trans (if_congr ?_ rfl rfl))
  exact and_iff_left (by omega)

theorem enterOos_hot (p : Nat) (s : State) : (enterOos p s).hot = hotOf (enterOos p s) := by
  rw [enterOos, rebuildHot_hot]
  exact (hotOf_congr (by simp) (by simp)).symm

/-! ### The exit (R96, R111) -/

/-- The alarm records with the pass's cells without reference and margin (R111, R124, R125). -/
def exitedRecs (p : Nat) (s : State) : Table AlarmRec 512 :=
  s.alarm.recs.mapIdx fun c r =>
    if c / 64 = p ∧ c % 64 < (s.map.passes.get p).cfg.cellCount then { r with ref := none, margin := none } else r

/-- All that the exit from OOS writes before it rebuilds the hot list (R111). -/
def oosExited (p : Nat) (m : Mode) (s : State) : State := { s with
  map := { s.map with cells := emptiedCells p .void s, passes := modeChanged p m s }
  alarm := { s.alarm with recs := exitedRecs p s } }

theorem exitOos_eq_appendPass (hp : p < 8) (m : Mode) (s : State) :
    exitOos p m s = appendPass p (rebuildHot (oosExited p m s)) := by
  have written : alarmOosExit p (emptyCells p .void (putMode p m s)) =
      withPasses (putMode p m s).map.passes (oosExited p m s) := by
    unfold oosExited emptiedCells exitedRecs
    rw [← putMode_cellCount hp m]
    rfl
  rw [exitOos, written, advanceGen_of_putMode (s := s) (m := m) hp]
  · rfl
  · rfl

/-- The exit from OOS in one expression: the pass is appended unless it is frozen (R95, R96, R111). -/
theorem exitOos_eq (hp : p < 8) (hm : m ≠ .oos) (hq : p ∉ s.map.queue) : exitOos p m s = { oosExited p m s with
    map := { (oosExited p m s).map with
      queue := if (s.map.passes.get p).frozen = true then s.map.queue else s.map.queue ++ [p] }
    hot := (exitOos p m s).hot
    ev := takes (leaderEvents s.hot (exitOos p m s).hot s.life.clock) s.ev } := by
  have asked : (s.map.queue.contains p = true ∨ ((modeChanged p m s).get p).frozen = true ∨
      ((modeChanged p m s).get p).mode = .oos) ↔ (s.map.passes.get p).frozen = true := by
    rw [modeChanged_get hp]
    simp [hq, hm]
  rw [exitOos_eq_appendPass hp, appendPass_eq, rebuildHot_eq, ← if_congr asked rfl rfl]
  rfl

theorem exitOos_cells (hp : p < 8) : (exitOos p m s).map.cells = emptiedCells p .void s := by
  rw [exitOos_eq_appendPass hp]
  simp [oosExited]

theorem exitOos_view (p : Nat) (m : Mode) (s : State) : (exitOos p m s).view = s.view := by simp

theorem exitOos_alarm (hp : p < 8) : (exitOos p m s).alarm = { s.alarm with recs := exitedRecs p s } := by
  rw [exitOos_eq_appendPass hp]
  simp [oosExited]

theorem exitOos_hot (hp : p < 8) (m : Mode) (s : State) : (exitOos p m s).hot = hotOf (exitOos p m s) := by
  rw [exitOos_eq_appendPass hp, appendPass_eq, rebuildHot_eq]
  rfl

theorem exitedRecs_get (hc : c < 512) : (exitedRecs p s).get c =
    if c / 64 = p ∧ c % 64 < (s.map.passes.get p).cfg.cellCount then
      { s.alarm.recs.get c with ref := none, margin := none } else s.alarm.recs.get c :=
  Table.get_mapIdx _ _ hc

/-! ### SET MODE (R108) -/

/-- The end of an entry whose execution left the Command Engine and the path alone (R161). -/
theorem finishEntry_eq_entryEnded (h : s.cmd.urgent = none) (hc : u.cmd = s.cmd) (hl : u.life = s.life)
    (hp : u.path.memPort = none) : finishEntry u = entryEnded s u := by
  rw [finishEntry_none (hc ▸ h), entryEnded, nextHeadWrite, nextHead, nextHeadWrite, nextHead, hc, hl, ← hp]

/-- The end of an entry leaves the blocks that SET MODE works on (R161). -/
theorem entryEnded_frame (s u : State) : (entryEnded s u).map = u.map ∧ (entryEnded s u).view = u.view ∧
    (entryEnded s u).alarm = u.alarm ∧ (entryEnded s u).hot = u.hot ∧ (entryEnded s u).life = u.life :=
  ⟨rfl, rfl, rfl, rfl, rfl⟩

/-- SET MODE of a configured pass and a mode that R180 names changes the mode (R108). -/
theorem exec_setMode {pass mode : Byte} (hp : s.life.phase = .run) (h : entryFetched s)
    (hlt : pass.toNat < s.life.params.passCount) (hm : Mode.ofCode mode.toNat = some m) :
    exec (.setMode pass mode) s = .next (entryEnded s (changeMode pass.toNat m (freePort s))) := by
  have passes : modeCheck pass mode (freePort s) = none := by
    rw [modeCheck, if_neg (by exact Nat.not_le.mpr hlt), hm]
    rfl
  have effect : setModeEffect pass mode (freePort s) = changeMode pass.toNat m (freePort s) := by
    rw [setModeEffect, hm]
  refine (runEntry_acts hp h passes).trans (congrArg _ ?_)
  rw [effect, finishEntry_eq_entryEnded h.2 (by simp) (by simp) (by simp)]

end

/-- Settles O35: the entry and the exit, each written out, behind the end of their ring entry. -/
theorem outOfServiceEmptiesThePass : Obligations.OutOfServiceEmptiesThePass := by
  intro pass mode m s hp h hsch hcfg hlt hm p x inside hx
  obtain ⟨legal, -⟩ := hcfg.inForce (.inl hp)
  have hp8 : p < 8 := hlt.trans_le legal.passes.2
  have runs := exec_setMode hp h hlt hm
  by_cases ho : m = .oos
  · subst ho
    have enters : changeMode p .oos (freePort s) = enterOos p (freePort s) := by
      rw [changeMode, if_neg (by exact fun e => hx.mp e rfl), if_pos rfl]
    rw [enters] at runs
    have whole := enterOos_eq (s := freePort s) hp8 hsch.once
    obtain ⟨hmap, hview, halarm, hhot, hlife⟩ := entryEnded_frame s (enterOos p (freePort s))
    refine ⟨_, runs, ?_, ?_, fun _ => ?_, fun hn => absurd rfl hn, fun c hc => ⟨fun hi => ?_, fun hi => ?_, ?_, ?_⟩⟩
    · rw [hmap, hview, halarm, hhot, enterOos_cells hp8, enterOos_pairings hp8]
      refine (congrArg (entryEnded s) whole).trans ?_
      simp only [reduceIte, true_and]
      rfl
    · exact (hhot.trans (enterOos_hot p (freePort s))).trans (hotOf_congr hmap halarm).symm
    · exact almTrue_of_evalAlm (halarm.trans (enterOos_alarm hp8)) (hlife.trans (enterOos_frame p _).1)
    · rw [hmap, enterOos_cells hp8, emptiedCells_get _ hc]
      exact if_pos hi
    · rw [hmap, enterOos_cells hp8, emptiedCells_get _ hc]
      exact if_neg hi
    · rw [hview, enterOos_pairings hp8, droppedPairings_get hc]
      exact if_congr ⟨fun hi => ⟨rfl, hi⟩, And.right⟩ rfl rfl
    · rw [halarm, enterOos_rec hp8 hc]
      rfl
  · have back : x.mode = .oos := hx.mpr ho
    have exits : changeMode p m (freePort s) = exitOos p m (freePort s) := by
      rw [changeMode, if_neg (by exact fun e => ho (e.symm.trans back)), if_neg ho, if_pos (by exact back)]
    rw [exits] at runs
    have unqueued : p ∉ s.map.queue := fun hq => (hsch.runnable p hq).2 back
    have whole := exitOos_eq (s := freePort s) hp8 ho unqueued
    obtain ⟨hmap, hview, halarm, hhot, -⟩ := entryEnded_frame s (exitOos p m (freePort s))
    refine ⟨_, runs, ?_, ?_, fun hn => absurd hn ho, fun _ => ?_, fun c hc => ⟨fun hi => ?_, fun hi => ?_, ?_, ?_⟩⟩
    · rw [hmap, hview, halarm, hhot, exitOos_cells hp8, exitOos_view, exitOos_alarm hp8]
      refine (congrArg (entryEnded s) whole).trans ?_
      simp only [ho, reduceIte, false_and, List.nil_append]
      rfl
    · exact (hhot.trans (exitOos_hot hp8 m (freePort s))).trans (hotOf_congr hmap halarm).symm
    · rw [halarm, exitOos_alarm hp8]
      rfl
    · rw [hmap, exitOos_cells hp8, emptiedCells_get _ hc, if_neg ho]
      exact if_pos hi
    · rw [hmap, exitOos_cells hp8, emptiedCells_get _ hc]
      exact if_neg hi
    · rw [hview, exitOos_view, if_neg fun hb => ho hb.1]
      rfl
    · rw [halarm, exitOos_alarm hp8, if_neg ho]
      exact exitedRecs_get hc

end Sys2Proof.Machine
end

section
/-! Every step keeps the schedule (O57): the refresh queue and the workspace against the modes and freezes of the passes. -/

namespace Sys2Proof.Machine

section
variable {s t u : State} {m n : MapEngine} {p : Nat}

/-! ### What Scheduled reads -/

/-- What the schedule reads of a pass (R93). -/
def Pass.standing (x : Pass) : Bool × Mode := (x.frozen, x.mode)

/-- The schedule as the Map Engine holds it (R95, R110, R113). -/
structure MapEngine.Planned (m : MapEngine) : Prop where
  once : m.queue.Nodup
  runnable : ∀ p ∈ m.queue, (m.passes.get p).frozen = false ∧ (m.passes.get p).mode ≠ .oos
  inFlight : ∀ w, m.work = some w → (m.passes.get w.pass).mode ≠ .oos
  marked : ∀ w, m.work = some w → (m.passes.get w.pass).frozen = true → w.discard = true

theorem State.scheduled_iff (s : State) : s.Scheduled ↔ s.map.Planned :=
  ⟨fun h => ⟨h.once, h.runnable, h.inFlight, h.marked⟩, fun h => ⟨h.once, h.runnable, h.inFlight, h.marked⟩⟩

/-- Nothing queued and nothing in flight. -/
theorem planned_of_empty (hq : m.queue = []) (hw : m.work = none) : m.Planned :=
  ⟨by simp [hq], by simp [hq], by simp [hw], by simp [hw]⟩

/-- Passes may leave the queue and the workspace; the others stand as they stood. -/
theorem MapEngine.Planned.shrink (h : m.Planned) (hq : n.queue.Sublist m.queue)
    (hw : ∀ w, n.work = some w → m.work = some w)
    (hp : ∀ i, (n.passes.get i).standing = (m.passes.get i).standing) : n.Planned := by
  have frozen i : (n.passes.get i).frozen = (m.passes.get i).frozen := congrArg Prod.fst (hp i)
  have mode i : (n.passes.get i).mode = (m.passes.get i).mode := congrArg Prod.snd (hp i)
  refine ⟨hq.nodup h.once, fun p hmem => ?_, fun w hn => ?_, fun w hn hf => ?_⟩
  · rw [frozen, mode]
    exact h.runnable p (hq.subset hmem)
  · rw [mode]
    exact h.inFlight w (hw w hn)
  · exact h.marked w (hw w hn) (frozen _ ▸ hf)

theorem MapEngine.Planned.congr (h : m.Planned) (hq : n.queue = m.queue) (hw : n.work = m.work)
    (hp : ∀ i, (n.passes.get i).standing = (m.passes.get i).standing) : n.Planned :=
  h.shrink (hq ▸ List.Sublist.refl _) (fun _ hn => hw ▸ hn) hp

/-- A pass changes: it may not be queued or in flight in a standing that keeps it from running (R95, R110, R113). -/
theorem MapEngine.Planned.setPass (h : m.Planned) {x : Pass} (hq : p ∈ m.queue → x.frozen = false ∧ x.mode ≠ .oos)
    (hw : ∀ w, m.work = some w → w.pass = p → x.mode ≠ .oos ∧ (x.frozen = true → w.discard = true)) :
    { m with passes := m.passes.set p x }.Planned := by
  refine ⟨h.once, fun i hi => ?_, fun w hn => ?_, fun w hn hf => ?_⟩
  · rw [Table.get_set]
    split
    next e => exact hq (e.1 ▸ hi)
    next => exact h.runnable i hi
  · rw [Table.get_set]
    split
    next e => exact (hw w hn e.1).1
    next => exact h.inFlight w hn
  · rw [Table.get_set] at hf
    split at hf
    next e => exact (hw w hn e.1).2 hf
    next => exact h.marked w hn hf

/-- A recompute in flight gets the discard mark (R113). -/
theorem MapEngine.Planned.mark (h : m.Planned) {w : Work} (hw : m.work = some w) :
    { m with work := some { w with discard := true } }.Planned := by
  refine ⟨h.once, h.runnable, fun v hv => ?_, fun v hv _ => ?_⟩ <;> cases hv
  · exact h.inFlight w hw
  · rfl

/-! ### The queue (R95, R96) -/

theorem MapEngine.Planned.removeQueued (h : s.map.Planned) (p : Nat) : (removeQueued p s).map.Planned :=
  h.shrink List.erase_sublist (fun _ hw => hw) fun _ => rfl

/-- A request to append a pass respects its freeze and its mode (R95). -/
theorem MapEngine.Planned.appendPass (h : s.map.Planned) (p : Nat) : (appendPass p s).map.Planned := by
  rw [appendPass_eq]
  split
  next => exact h
  next hn =>
    obtain ⟨hmem, hfrozen, hmode⟩ : p ∉ s.map.queue ∧ (s.map.passes.get p).frozen = false ∧
        (s.map.passes.get p).mode ≠ .oos := by simpa using hn
    refine ⟨?_, fun i hi => ?_, h.inFlight, h.marked⟩
    · simpa [List.nodup_append] using ⟨h.once, fun i hi e => hmem (e ▸ hi)⟩
    · obtain hi | rfl : i ∈ s.map.queue ∨ i = p := by simpa using hi
      · exact h.runnable i hi
      · exact ⟨hfrozen, hmode⟩

theorem MapEngine.Planned.appendPasses (h : s.map.Planned) (ps : List Nat) : (appendPasses ps s).map.Planned :=
  foldl_keeps (Q := fun u : State => u.map.Planned) (fun _ p hu => hu.appendPass p) ps h

/-! ### Freezes (R113, R114) -/

/-- A pass frozen is out of the queue, and its recompute in flight is marked (R113). -/
theorem MapEngine.Planned.freezePass (h : s.map.Planned) (p : Nat) : (freezePass p s).map.Planned := by
  have removed := h.removeQueued p
  have out : p ∉ (Machine.removeQueued p s).map.queue := h.once.not_mem_erase
  unfold Machine.freezePass
  dsimp only
  split
  next => exact h
  next =>
    split
    next w hw =>
      split
      next hp =>
        have fly (v : Work) (hv : some { w with discard := true } = some v) (_ : v.pass = p) :
            (passAt s p).mode ≠ .oos ∧ (true = true → v.discard = true) := by
          cases hv
          exact ⟨hp ▸ h.inFlight w hw, fun _ => rfl⟩
        exact (removed.mark hw).setPass (fun hq => absurd hq out) fly
      next hp =>
        refine removed.setPass (fun hq => absurd hq out) fun v hv he => absurd he ?_
        cases hw.symm.trans hv
        exact hp
    next hw => exact removed.setPass (fun hq => absurd hq out) fun v hv _ => nomatch hw.symm.trans hv

/-- A pass thawed may be queued again (R114). -/
theorem MapEngine.Planned.thawPass (h : s.map.Planned) (p : Nat) : (thawPass p s).map.Planned := by
  unfold Machine.thawPass
  split
  · refine MapEngine.Planned.appendPass (s := Machine.setPass p { passAt s p with frozen := false } s) ?_ p
    exact h.setPass (fun hq => ⟨rfl, (h.runnable p hq).2⟩) fun w hw e => ⟨e ▸ h.inFlight w hw, nofun⟩
  · exact h

theorem MapEngine.Planned.freezePasses (h : s.map.Planned) (ps : List Nat) : (freezePasses ps s).map.Planned :=
  foldl_keeps (Q := fun u : State => u.map.Planned) (fun _ p hu => hu.freezePass p) ps h

theorem MapEngine.Planned.thawPasses (h : s.map.Planned) (ps : List Nat) : (thawPasses ps s).map.Planned :=
  foldl_keeps (Q := fun u : State => u.map.Planned) (fun _ p hu => hu.thawPass p) ps h

/-! ### The Command Engine (R116, R160 to R166) -/

/-- What the Command Engine's own acts do to the map: at most they carry out one urgent code (R116, R165). -/
def CodeCarried (s t : State) : Prop := t.map = s.map ∨ ∃ c u, u.map = s.map ∧ t.map = (carryOutUrgent c u).map

theorem CodeCarried.start (h : CodeCarried u t) (he : u.map = s.map) : CodeCarried s t := by
  unfold CodeCarried at h ⊢
  rwa [he] at h

theorem CodeCarried.finish (h : CodeCarried s u) (he : t.map = u.map) : CodeCarried s t := by
  unfold CodeCarried at h ⊢
  rwa [he]

theorem acceptUrgent_codeCarried (s : State) : CodeCarried s (acceptUrgent s) := by
  unfold acceptUrgent
  split
  · exact .inl rfl
  · split
    · exact .inl rfl
    · exact .inr ⟨_, codeLifted s, rfl, post_map ..⟩

theorem acceptAtOnce_codeCarried (s : State) : CodeCarried s (acceptAtOnce s) := by
  unfold acceptAtOnce
  split
  · exact acceptUrgent_codeCarried s
  · exact .inl rfl

theorem cmdWriteEnded_codeCarried (s : State) : CodeCarried s (cmdWriteEnded s) := by
  obtain ⟨-, hc⟩ | ⟨-, -, hc⟩ | ⟨-, hc⟩ := cmdWriteEnded_cases s <;> rw [hc]
  · exact .inl rfl
  · exact acceptUrgent_codeCarried s
  · exact .inl (by simp)

theorem urgentWrite_codeCarried (reg : Option Urgent) (s : State) : CodeCarried s (urgentWrite reg s) := by
  have accepted := acceptAtOnce_codeCarried (withdrawClear (withCmd { s.cmd with note := true, urgent := reg } s))
  unfold urgentWrite
  dsimp only
  split
  · exact (cmdWriteEnded_codeCarried _).start (by simp)
  · exact (accepted.start (by simp)).finish (by simp)

theorem urgentRefused_codeCarried (v : W32) (s : State) : CodeCarried s (urgentRefused v s) :=
  (cmdWriteEnded_codeCarried _).start (by simp)

theorem ringFetchFailed_codeCarried (s : State) : CodeCarried s (ringFetchFailed s) := by
  unfold ringFetchFailed
  dsimp only
  split
  · exact .inl (by simp)
  · exact (acceptAtOnce_codeCarried _).start (by simp)

theorem cmdResume_codeCarried (s : State) : CodeCarried s (cmdResume s) := by
  refine CodeCarried.finish
    (u := if outstanding (cmdWake s) .commandEngine then cmdWake s else acceptAtOnce (cmdWake s)) ?_ (by simp [cmdResume])
  split
  · exact .inl (by simp)
  · exact (acceptAtOnce_codeCarried _).start (by simp)

theorem cmdLoadOk_codeCarried (same : Bool) (s : State) : CodeCarried s (cmdLoadOk same s) := by
  unfold cmdLoadOk
  split
  · exact cmdResume_codeCarried s
  · exact (cmdResume_codeCarried _).start (by simp)

theorem finishEntry_codeCarried (s : State) : CodeCarried s (finishEntry s) :=
  (acceptUrgent_codeCarried _).start (by simp)

theorem MapEngine.Planned.carryOutUrgent (h : s.map.Planned) (c : Urgent) : (carryOutUrgent c s).map.Planned := by
  by_cases hp : s.life.phase = .run
  · cases c <;> simp only [Machine.carryOutUrgent, hp]
    · exact h.freezePasses _
    · exact h.thawPasses _
    · simpa using h
  · rw [carryOutUrgent_idle hp]
    exact h

theorem MapEngine.Planned.codeCarried (h : s.map.Planned) (hc : CodeCarried s t) : t.map.Planned := by
  obtain e | ⟨c, u, hu, e⟩ := hc <;> rw [e]
  · exact h
  · exact MapEngine.Planned.carryOutUrgent (hu ▸ h) c

/-! ### Modes (R101, R108 to R111) -/

/-- A new mode behind which a recompute of the pass is abandoned (R101). -/
theorem MapEngine.Planned.abandon_putMode (h : s.map.Planned) {x : Mode} (hx : p ∈ s.map.queue → x ≠ .oos) :
    (abandon p (putMode p x s)).map.Planned := by
  have queued (hq : p ∈ s.map.queue) : (passAt s p).frozen = false ∧ x ≠ .oos := ⟨(h.runnable p hq).1, hx hq⟩
  unfold Machine.abandon
  split
  next => exact (h.shrink (n := { s.map with work := none }) (.refl _) nofun fun _ => rfl).setPass queued nofun
  next hf =>
    refine h.setPass queued fun w hw e => absurd ?_ hf
    simp [passInFlight, hw, e]

/-- The generation plays no part in the schedule (R93). -/
theorem advanceGen_standing (p : Nat) (s : State) (i : Nat) :
    ((advanceGen p s).map.passes.get i).standing = (s.map.passes.get i).standing :=
  Table.get_set_same Pass.standing (t := s.map.passes) (by rfl) i

/-- A pass that enters OOS leaves the queue and is not in flight (R110). -/
theorem MapEngine.Planned.enterOos (h : s.map.Planned) (p : Nat) : (enterOos p s).map.Planned := by
  have out : p ∉ (Machine.removeQueued p s).map.queue := h.once.not_mem_erase
  have commutes : Machine.removeQueued p (abandon p (putMode p .oos s)) =
      abandon p (putMode p .oos (Machine.removeQueued p s)) := by
    change Machine.removeQueued p (if passInFlight s p then _ else _) = if passInFlight s p then _ else _
    split <;> rfl
  have left := (h.removeQueued p).abandon_putMode (x := .oos) fun hq => absurd hq out
  rw [← commutes] at left
  exact left.congr (by simp [Machine.enterOos]) (by simp [Machine.enterOos]) fun i => by
    simp [Machine.enterOos, advanceGen_standing]

theorem MapEngine.Planned.exitOos (h : s.map.Planned) (p : Nat) {x : Mode} (hx : x ≠ .oos) : (exitOos p x s).map.Planned := by
  have entered : (putMode p x s).map.Planned :=
    h.setPass (fun hq => ⟨(h.runnable p hq).1, hx⟩) fun w hw e => ⟨hx, e ▸ h.marked w hw⟩
  refine MapEngine.Planned.appendPass (entered.congr (by simp) (by simp) fun i => ?_) p
  simp [advanceGen_standing]

theorem MapEngine.Planned.switchMode (h : s.map.Planned) (p : Nat) {x : Mode} (hx : x ≠ .oos) :
    (switchMode p x s).map.Planned := by
  have changed : (abandon p (putMode p x s)).map.Planned := h.abandon_putMode fun _ => hx
  have inhibited : (if x = .spall ∨ x = .decoke then alarmInhibit p (abandon p (putMode p x s))
      else abandon p (putMode p x s)).map.Planned := by
    split
    · simpa using changed
    · exact changed
  unfold Machine.switchMode
  dsimp only
  split
  · exact inhibited.appendPass p
  · exact inhibited

theorem MapEngine.Planned.setModeEffect (h : s.map.Planned) (pass mode : Byte) :
    (setModeEffect pass mode s).map.Planned := by
  unfold Machine.setModeEffect changeMode
  split
  · split_ifs with _ ho
    · exact h
    · exact h.enterOos _
    · exact h.exitOos _ ho
    · exact h.switchMode _ ho
  · exact h

/-! ### Loads (R118 to R120) -/

/-- A configuration adopted finds nothing queued, and appends the passes in service (R96, R118). -/
theorem planned_adoptConfig (hq : s.map.queue = []) (k : LoadKind) (c : RootCfg) : (adoptConfig k c s).map.Planned := by
  unfold adoptConfig
  refine MapEngine.Planned.codeCarried ?_ (cmdLoadOk_codeCarried ..)
  simp only [leaderEvent_frame, loadEndEvent_frame, eventLoadOk_frame, rebuildList_map, alarmLoadOk_frame]
  refine MapEngine.Planned.appendPasses (planned_of_empty ?_ ?_) _
  · simpa [mapLoadOk] using hq
  · simp [mapLoadOk]

/-- A load ends with nothing queued and nothing in flight before it (R119). -/
theorem planned_endLoad (hq : s.map.queue = []) (hw : s.map.work = none) (r : LoadResult) :
    (endLoad r s).map.Planned := by
  obtain e | ⟨j, -, ⟨-, e⟩ | ⟨-, -, e⟩ | ⟨-, -, e⟩⟩ := endLoad_cases r s <;> rw [e]
  · exact planned_of_empty hq hw
  · exact planned_adoptConfig (by simpa using hq) ..
  · rw [failReload_eq]
    refine MapEngine.Planned.codeCarried (planned_of_empty ?_ ?_) (cmdResume_codeCarried _)
    · simpa using hq
    · simpa using hw
  · exact planned_of_empty (by simp [MapEngine.cleared]) (by simp [MapEngine.cleared])

/-- A record of a load touches no queue and no workspace (R22). -/
theorem RecordTaken.schedule {ws : List W32} {j j' : LoadJob} (ht : RecordTaken ws j s j' t) :
    t.map.queue = s.map.queue ∧ t.map.work = s.map.work := by
  cases ht <;> simp

theorem MapEngine.Planned.configFetched (h : s.map.Planned) (hs : s.Phased) (hp : s.Paused) (reply : FetchReply) :
    (configFetched reply s).map.Planned := by
  cases hl : s.life.load with
  | none => simpa [Machine.configFetched, hl] using h
  | some j =>
    have hload : s.life.phase ≠ .run := by simp [hs.phase_load hl]
    refine configFetched_keeps (I := fun u => u.map.queue = [] ∧ u.map.work = none) (P := fun u => u.map.Planned)
      (fun _ _ _ u u' hu ht => ?_) (fun _ => h) (fun _ u hu => ?_) (fun r u hu => planned_endLoad hu.1 hu.2 r)
      ⟨hp.refresh hload, hp.recompute hload⟩ reply
    · obtain ⟨hq, hw⟩ := ht.schedule
      exact ⟨hq.trans hu.1, hw.trans hu.2⟩
    · exact planned_of_empty (by simpa using hu.1) (by simpa using hu.2)

/-! ### Moves -/

/-- Every move keeps the schedule. -/
theorem Move.planned (hm : Move s t) (hs : s.Phased) (hp : s.Paused) (h : s.map.Planned) : t.map.Planned := by
  cases hm
  case poweredOn | resetAsserted => exact planned_of_empty rfl rfl
  case reloadBegun => exact planned_of_empty (by simp [beginReload, mapPause]) (by simp [beginReload, mapPause])
  case loadStopped hl =>
    have hload : s.life.phase ≠ .run := by simp [hl]
    exact planned_endLoad (by simpa using hp.refresh hload) (by simpa using hp.recompute hload) _
  case configFetched reply => exact h.configFetched hs hp reply
  case refreshDue p _ =>
    refine MapEngine.Planned.appendPass (s := setPass p.val _ s) (h.congr rfl rfl fun i => ?_) p.val
    exact Table.get_set_same Pass.standing (t := s.map.passes) (by rfl) i
  case commitAged p _ _ =>
    exact h.congr rfl rfl fun i => Table.get_set_same Pass.standing (t := s.map.passes) (by rfl) i
  case recomputeBegun p rest _ hw hq =>
    have tail : rest.Sublist s.map.queue := hq ▸ List.sublist_cons_self p rest
    obtain ⟨hf, hm⟩ := h.runnable p (by simp [hq])
    refine ⟨tail.nodup h.once, fun i hi => h.runnable i (tail.subset hi), fun w hw => ?_, fun w hw hwf => ?_⟩ <;> cases hw
    · exact hm
    · exact nomatch hf.symm.trans hwf
  case recomputeDropped => exact h.shrink (.refl _) nofun fun _ => rfl
  case recomputeCommitted w _ _ =>
    have dropped : (withWork none s).map.Planned := h.shrink (.refl _) nofun fun _ => rfl
    refine dropped.congr (by simp [commitPass]) (by simp [commitPass]) fun i => ?_
    simpa [commitPass, setPass] using Table.get_set_same Pass.standing (t := s.map.passes) (by rfl) i
  case urgentWritten reg => exact h.codeCarried (urgentWrite_codeCarried reg s)
  case urgentRefused v => exact h.codeCarried (urgentRefused_codeCarried v s)
  case urgentAccepted => exact h.codeCarried (acceptAtOnce_codeCarried s)
  case fetchFailed => exact h.codeCarried (ringFetchFailed_codeCarried s)
  case writeEnded => exact h.codeCarried (cmdWriteEnded_codeCarried s)
  case entryFinished => exact h.codeCarried (finishEntry_codeCarried s)
  case passesFrozen => exact h.freezePasses _
  case passesThawed => exact h.thawPasses _
  case refreshForced => exact h.appendPasses _
  case modeSet p m _ _ => exact h.setModeEffect p m
  all_goals exact h.congr (by simp) (by simp) fun _ => by simp

/-- Settles O57: each move keeps the schedule, Phased and Paused being kept beside it. -/
theorem everyStepKeepsTheSchedule : Obligations.EveryStepKeepsTheSchedule := by
  intro s t hs hp h ht
  refine t.scheduled_iff.mpr (step_keeps (P := fun u => (u.Phased ∧ u.Paused) ∧ u.map.Planned)
    (fun _ _ hm hu => ⟨⟨hm.phased hu.1.1, hm.paused hu.1.1 hu.1.2⟩, hm.planned hu.1.1 hu.1.2 hu.2⟩)
    (fun u rest hu => ⟨⟨hu.1.1.congr rfl rfl rfl rfl, ?_⟩, hu.2⟩) ht ⟨⟨hs, hp⟩, s.scheduled_iff.mp h⟩).2
  obtain ⟨-, hp⟩ := hu.1
  exact ⟨hp.frames, hp.takeOk, hp.frame, hp.lines, hp.line, hp.refresh, hp.recompute, hp.timers, hp.exporting⟩

end

end Sys2Proof.Machine
end

section
/-! FREEZE, THAW and FORCE REFRESH of the passes that a mask names, each written out (O33). -/

namespace Sys2Proof.Machine

section
variable {s : State} {m n : MapEngine} {p : Nat} {ps : List Nat}

/-- The Map Engine is its cells, its passes, its queue and its workspace. -/
theorem MapEngine.eq_of_parts (hc : m.cells = n.cells) (hp : m.passes = n.passes) (hq : m.queue = n.queue)
    (hw : m.work = n.work) : m = n := by
  cases m; cases n; cases hc; cases hp; cases hq; cases hw; rfl

/-! ### FREEZE (R113) -/

/-- The named passes frozen, out of the queue, their recompute in flight marked (R113). -/
def MapEngine.frozenWhere (named : Nat → Bool) (m : MapEngine) : MapEngine :=
  { m with
    passes := m.passes.mapIdx fun p x => { x with frozen := x.frozen || named p }
    queue := m.queue.filter fun p => !named p
    work := m.work.map fun w => { w with discard := w.discard || named w.pass } }

/-- Freezes of passes that stand frozen change nothing. -/
theorem frozenWhere_same {named : Nat → Bool} (hp : ∀ p < 8, named p = true → (m.passes.get p).frozen = true)
    (hq : ∀ p ∈ m.queue, named p = false) (hw : ∀ w, m.work = some w → named w.pass = true → w.discard = true) :
    m.frozenWhere named = m := by
  refine MapEngine.eq_of_parts rfl (Table.ext_get fun i hi => ?_) (List.filter_eq_self.mpr fun p hmem => ?_) ?_
  · rw [MapEngine.frozenWhere, Table.get_mapIdx _ _ hi]
    cases hn : named i with
    | false => simp
    | true => simp [← hp i hi hn]
  · simp [hq p hmem]
  · cases hwork : m.work with
    | none => simp [MapEngine.frozenWhere, hwork]
    | some w =>
      cases hn : named w.pass with
      | false => simp [MapEngine.frozenWhere, hwork, hn]
      | true => simp [MapEngine.frozenWhere, hwork, hn, ← hw w hwork hn]

theorem frozenWhere_frozenWhere (f g : Nat → Bool) (m : MapEngine) :
    (m.frozenWhere g).frozenWhere f = m.frozenWhere fun p => g p || f p := by
  refine MapEngine.eq_of_parts rfl (Table.ext_get fun i hi => ?_) ?_ ?_
  · simp only [MapEngine.frozenWhere, Table.get_mapIdx _ _ hi, Bool.or_assoc]
  · simp [MapEngine.frozenWhere, List.filter_filter, Bool.and_comm]
  · cases hw : m.work <;> simp [MapEngine.frozenWhere, hw, Bool.or_assoc]

/-- The freeze of one pass (R113). -/
theorem freezePass_eq (h : s.map.Planned) (p : Nat) :
    freezePass p s = { s with map := s.map.frozenWhere fun i => decide (i = p) } := by
  unfold freezePass
  dsimp only
  split
  next hf =>
    rw [frozenWhere_same]
    · exact fun i _ hi => of_decide_eq_true hi ▸ hf
    · exact fun i hi => decide_eq_false fun e => nomatch (e ▸ (h.runnable i hi).1).symm.trans hf
    · exact fun w hw hi => h.marked w hw (of_decide_eq_true hi ▸ hf)
  next =>
    have whole : s.map.frozenWhere (fun i => decide (i = p)) = { s.map with
        passes := s.map.passes.set p { passAt s p with frozen := true }
        queue := s.map.queue.erase p
        work := s.map.work.map fun w => if w.pass = p then { w with discard := true } else w } := by
      refine MapEngine.eq_of_parts rfl (Table.ext_get fun i hi => ?_) (h.once.erase_eq_filter p).symm
        (Option.map_congr fun w _ => ?_)
      · rw [MapEngine.frozenWhere, Table.get_mapIdx _ _ hi, Table.get_set]
        by_cases e : i = p
        · rw [if_pos ⟨e, e ▸ hi⟩]
          simp [passAt, e]
        · simp [e]
      · by_cases e : w.pass = p <;> simp [e]
    rw [whole]
    split
    next w hw =>
      rw [hw, Option.map_some]
      split
      · rfl
      · rw [← hw]
        rfl
    next hw =>
      rw [hw, Option.map_none, ← hw]
      rfl

/-- FREEZE of several passes in turn (R113). -/
theorem freezePasses_eq (h : s.map.Planned) (ps : List Nat) :
    freezePasses ps s = { s with map := s.map.frozenWhere fun i => decide (i ∈ ps) } := by
  induction ps generalizing s with
  | nil =>
    rw [frozenWhere_same]
    · rfl
    all_goals simp
  | cons p ps ih =>
    have step : freezePasses (p :: ps) s = freezePasses ps (freezePass p s) := rfl
    rw [step, ih (h.freezePass p), freezePass_eq h]
    simp [frozenWhere_frozenWhere, Bool.decide_or]

/-! ### THAW (R114) -/

/-- A frozen pass in service: its thaw appends it (R114). -/
def thawAppends (m : MapEngine) (p : Nat) : Bool := (m.passes.get p).frozen && decide ((m.passes.get p).mode ≠ .oos)

/-- The listed passes thawed, those that were frozen and are in service appended in turn (R114). -/
def MapEngine.thawedList (ps : List Nat) (m : MapEngine) : MapEngine :=
  { m with
    passes := m.passes.mapIdx fun p x => { x with frozen := x.frozen && !decide (p ∈ ps) }
    queue := m.queue ++ ps.filter (thawAppends m) }

theorem thawedList_get (ps : List Nat) (m : MapEngine) (i : Nat) : (m.thawedList ps).passes.get i =
    { m.passes.get i with frozen := (m.passes.get i).frozen && !decide (i ∈ ps) } := by
  by_cases hi : i < 8
  · exact Table.get_mapIdx _ _ hi
  · rw [Table.get_of_le _ (not_lt.mp hi), Table.get_of_le _ (not_lt.mp hi)]
    rfl

/-- Thaws of different passes, one after another. -/
theorem thawedList_cons (hp : p ∉ ps) (m : MapEngine) : (m.thawedList [p]).thawedList ps = m.thawedList (p :: ps) := by
  refine MapEngine.eq_of_parts rfl (Table.ext_get fun i _ => ?_) ?_ rfl
  · simp [thawedList_get, Bool.and_assoc]
  · have later : ps.filter (thawAppends (m.thawedList [p])) = ps.filter (thawAppends m) :=
      List.filter_congr fun i hi => by
        have other : i ≠ p := fun e => hp (e ▸ hi)
        simp [thawAppends, thawedList_get, other]
    change (m.queue ++ [p].filter (thawAppends m)) ++ ps.filter (thawAppends (m.thawedList [p])) =
      m.queue ++ (p :: ps).filter (thawAppends m)
    rw [later, List.append_assoc, ← List.filter_append, List.singleton_append]

/-- A pass that is not frozen is left as it is by its thaw (R114). -/
theorem thawedList_same (hf : (m.passes.get p).frozen = false) : m.thawedList [p] = m := by
  refine MapEngine.eq_of_parts rfl (Table.ext_get fun i _ => ?_) ?_ rfl
  · rw [thawedList_get]
    by_cases e : i = p
    · simp [e, ← hf]
    · simp [e]
  · simp [MapEngine.thawedList, thawAppends, hf]

/-- The thaw of a frozen pass (R114). -/
theorem thawedList_frozen (hf : (m.passes.get p).frozen = true) : m.thawedList [p] = { m with
    passes := m.passes.set p { m.passes.get p with frozen := false }
    queue := if (m.passes.get p).mode = .oos then m.queue else m.queue ++ [p] } := by
  refine MapEngine.eq_of_parts rfl (Table.ext_get fun i hi => ?_) ?_ rfl
  · rw [thawedList_get, Table.get_set]
    by_cases e : i = p
    · rw [if_pos ⟨e, e ▸ hi⟩]
      simp [e]
    · simp [e]
  · dsimp only [MapEngine.thawedList]
    split
    next hm => simp [thawAppends, hm]
    next hm => simp [thawAppends, hf, hm]

/-- The thaw of one pass: a frozen one is not queued, so it is appended where it is in service (R95, R114). -/
theorem thawPass_eq (h : s.map.Planned) (p : Nat) : thawPass p s = { s with map := s.map.thawedList [p] } := by
  unfold thawPass
  split
  next hf =>
    have unqueued : p ∉ s.map.queue := fun hq => nomatch (h.runnable p hq).1.symm.trans hf
    have hlt : p < 8 := by
      by_contra hle
      rw [passAt, Table.get_of_le _ (not_lt.mp hle)] at hf
      exact nomatch hf
    have thawed : (setPass p { passAt s p with frozen := false } s).map.passes.get p =
        { s.map.passes.get p with frozen := false } := Table.get_set_self hlt
    have asked : ((setPass p { passAt s p with frozen := false } s).map.queue.contains p = true ∨
        false = true ∨ (s.map.passes.get p).mode = .oos) ↔ (s.map.passes.get p).mode = .oos := by
      simp [setPass, unqueued]
    rw [appendPass_eq, thawed, if_congr asked rfl rfl, thawedList_frozen hf]
    rfl
  next hf => rw [thawedList_same (Bool.not_eq_true _ ▸ hf)]

/-- THAW of different passes in turn (R114). -/
theorem thawPasses_eq (h : s.map.Planned) (hn : ps.Nodup) :
    thawPasses ps s = { s with map := s.map.thawedList ps } := by
  induction ps generalizing s with
  | nil =>
    have same : s.map.thawedList [] = s.map :=
      MapEngine.eq_of_parts rfl (Table.ext_get fun i _ => by simp [thawedList_get]) (by simp [MapEngine.thawedList]) rfl
    rw [same]
    rfl
  | cons p ps ih =>
    obtain ⟨hp, hn⟩ := List.nodup_cons.mp hn
    have step : thawPasses (p :: ps) s = thawPasses ps (thawPass p s) := rfl
    rw [step, ih (h.thawPass p) hn, thawPass_eq h, thawedList_cons hp]

/-! ### FORCE REFRESH (R115) -/

/-- A request to append the pass would append it (R95). -/
def appendable (m : MapEngine) (p : Nat) : Bool :=
  !m.queue.contains p && !(m.passes.get p).frozen && decide ((m.passes.get p).mode ≠ .oos)

theorem appendPass_of_appendable (p : Nat) (s : State) :
    appendPass p s = withQueue (if appendable s.map p then s.map.queue ++ [p] else s.map.queue) s := by
  have asked : (s.map.queue.contains p = true ∨ (s.map.passes.get p).frozen = true ∨ (s.map.passes.get p).mode = .oos) ↔
      ¬appendable s.map p = true := by
    simp [appendable, imp_iff_not_or, or_assoc]
  rw [appendPass_eq, if_congr asked rfl rfl, ite_not]

/-- Requests to append different passes, in turn (R95, R96). -/
theorem appendPasses_eq (hn : ps.Nodup) (s : State) :
    appendPasses ps s = withQueue (s.map.queue ++ ps.filter (appendable s.map)) s := by
  induction ps generalizing s with
  | nil =>
    simp [appendPasses, withQueue]
  | cons p ps ih =>
    obtain ⟨hp, hn⟩ := List.nodup_cons.mp hn
    have step : appendPasses (p :: ps) s = appendPasses ps (appendPass p s) := rfl
    have later (q : List Nat) (hq : q = s.map.queue ++ [p] ∨ q = s.map.queue) :
        ps.filter (appendable (withQueue q s).map) = ps.filter (appendable s.map) :=
      List.filter_congr fun i hi => by
        have other : i ≠ p := fun e => hp (e ▸ hi)
        have contains : q.contains i = s.map.queue.contains i := by obtain rfl | rfl := hq <;> simp [other]
        rw [appendable, withQueue_map_queue, contains]
        rfl
    rw [step, ih hn, appendPass_of_appendable, List.filter_cons]
    split
    · rw [later _ (.inl rfl)]
      simp [withQueue]
    · rw [later _ (.inr rfl)]
      rfl

/-! ### The masks (R180) -/

theorem maskPasses_nodup (mask : Byte) : (maskPasses mask).Nodup := List.nodup_range.filter _

theorem mem_maskPasses (mask : Byte) (p : Nat) : decide (p ∈ maskPasses mask) = mask.getLsbD p := by
  by_cases hp : p < 8
  · simp [maskPasses, hp]
  · simp [maskPasses, hp, BitVec.getLsbD_of_ge mask p (not_lt.mp hp)]

theorem maskPasses_filter (mask : Byte) (f : Nat → Bool) :
    (maskPasses mask).filter f = (List.range 8).filter fun p => mask.getLsbD p && f p := by
  rw [maskPasses, List.filter_filter]
  exact List.filter_congr fun p _ => Bool.and_comm ..

/-- A mask command of configured passes, whose effect touches the map alone, in RUN (R113 to R115, R161). -/
theorem maskEntry_acts {mask : Byte} {op : Nat} {act : State → State} (hp : s.life.phase = .run) (h : entryFetched s)
    (hm : ∀ p < 8, mask.getLsbD p = true → p < s.life.params.passCount)
    (he : act (freePort s) = { freePort s with map := n }) :
    ringEntry (executeEntry op false (maskCheck mask) act) s = .next (entryEnded s { s with map := n }) := by
  have configured : maskOk mask (passCount (freePort s)) = true := by
    by_contra hbad
    obtain ⟨p, hp8, hbit, hle⟩ := maskOk_eq_false.mp (Bool.not_eq_true _ ▸ hbad)
    exact absurd (hm p hp8 hbit) (Nat.not_lt.mpr hle)
  rw [runEntry_acts hp h (if_pos configured), he]
  exact congrArg _ (finishEntry_eq_entryEnded (u := { freePort s with map := n }) h.2 rfl rfl rfl)

end

/-- Settles O33: each mask command's effect in one expression, behind the end of its ring entry. -/
theorem maskCommandsActOnTheNamedPasses : Obligations.MaskCommandsActOnTheNamedPasses := by
  intro mask s hp h hs hm
  have planned : (freePort s).map.Planned := s.scheduled_iff.mp hs
  have nodup := maskPasses_nodup mask
  refine ⟨maskEntry_acts hp h hm ?_, maskEntry_acts hp h hm ?_, maskEntry_acts hp h hm ?_⟩
  · rw [freezePasses_eq planned]
    simp only [mem_maskPasses]
    rfl
  · rw [thawPasses_eq planned nodup]
    simp only [MapEngine.thawedList, mem_maskPasses, maskPasses_filter, thawAppends, ← Bool.and_assoc]
    rfl
  · rw [appendPasses_eq nodup, maskPasses_filter]
    simp only [appendable, ← Bool.and_assoc]
    rfl

end Sys2Proof.Machine
end

section
/-! SET MODE between the modes in service (O34). -/

namespace Sys2Proof.Machine

/-- One value for each element that passes `p`. -/
theorem flatMap_if {α β : Type} (l : List α) (p : α → Bool) (e : α → β) :
    (l.flatMap fun c => if p c = true then [e c] else []) = (l.filter p).map e := by
  induction l with
  | nil => rfl
  | cons c l ih => cases hp : p c <;> simp [hp, ih]

section
variable {s : State} {p c n : Nat} {m : Mode} {r : AlarmRec}

/-! ### Rate alarms at a new mode (R129) -/

/-- A rate alarm that the entry to a mode in service turns off (R129). -/
def rateOff (m : Mode) (r : AlarmRec) : Bool := r.rateAlarm && decide (m ≠ .normal)

/-- The event of a rate alarm turned off at its pass's entry to SPALL or DECOKE (R129). -/
def rateOffEvent (clock : W32) (c : Nat) (r : AlarmRec) : Event :=
  ⟨.alarmRateOff, BitVec.ofNat 16 c, clock, match r.rate with | some x => BitVec.ofInt 32 x | none => 0xFFFF8000, 2⟩

/-- The Alarm Unit's work on a cell at the entry of its pass to a mode in service (R129). -/
def modeWork (m : Mode) (_ : State) (c : Nat) (r : AlarmRec) : AlarmRec × List EventData :=
  if m = .spall ∨ m = .decoke then alarmCellInhibit c r else (r, [])

theorem modeWork_steady (m : Mode) : SteadyAlarm (modeWork m) := fun _ _ => rfl

theorem modeWork_eq (hm : m ≠ .oos) : modeWork m s c r =
    if rateOff m r = true then ({ r with rateAlarm := false }, (alarmCellInhibit c r).2) else (r, []) := by
  cases hr : r.rateAlarm <;> cases m <;> simp_all [modeWork, alarmCellInhibit, rateOff]

theorem modeWork_rec (hm : m ≠ .oos) : (modeWork m s c r).1 =
    if rateOff m r = true then { r with rateAlarm := false } else r := by
  rw [modeWork_eq hm, apply_ite Prod.fst]

theorem modeWork_events (hm : m ≠ .oos) (clock : W32) : stampedAt clock (modeWork m s c r).2 =
    if rateOff m r = true then [rateOffEvent clock c r] else [] := by
  rw [modeWork_eq hm]
  split
  next h =>
    obtain ⟨hr, -⟩ := Bool.and_eq_true_iff.mp h
    rw [alarmCellInhibit, if_pos hr, rateOffEvent]
    cases r.rate <;> rfl
  next => rfl

/-- The Alarm Unit's work on the first `n` cells of a pass that enters a mode in service: active rate alarms turn off,
ascending, each with its event (R129). -/
def inhibited (m : Mode) (p n : Nat) (s : State) : State := { s with
  alarm := { s.alarm with recs := Table.build 512 (workedRec (modeWork m) (passCells p n) s) }
  ev := takes (((List.range n).filter fun k => rateOff m (s.alarm.recs.get (p * 64 + k))).map fun k =>
    rateOffEvent s.life.clock (p * 64 + k) (s.alarm.recs.get (p * 64 + k))) s.ev }

theorem modeWork_passEvents (hm : m ≠ .oos) : workEvents (modeWork m) (passCells p n) s =
    ((List.range n).filter fun k => rateOff m (s.alarm.recs.get (p * 64 + k))).map fun k =>
      rateOffEvent s.life.clock (p * 64 + k) (s.alarm.recs.get (p * 64 + k)) := by
  rw [workEvents_passCells, ← flatMap_if]
  exact List.flatMap_congr fun k _ => modeWork_events hm _

theorem inhibited_eq (hm : m ≠ .oos) (hp : p < 8) (hc : (s.map.passes.get p).cfg.cellCount = n) (hn : n ≤ 64) :
    (if m = .spall ∨ m = .decoke then alarmInhibit p s else s) = inhibited m p n s := by
  split
  next h =>
    have entry : modeWork m = fun _ c r => alarmCellInhibit c r := by
      funext _ c r
      exact if_pos h
    rw [inhibited, ← modeWork_passEvents hm, ← passWork_eq (modeWork_steady m) hp hn s, entry, alarmInhibit, hc]
    rfl
  next h =>
    have normal : m = .normal := by cases m <;> simp_all
    have kept : workedRec (modeWork m) (passCells p n) s = s.alarm.recs.get :=
      funext fun c => by simp [workedRec, modeWork, normal]
    have silent : ((List.range n).filter fun k => rateOff m (s.alarm.recs.get (p * 64 + k))) = [] := by
      simp [rateOff, normal]
    rw [inhibited, kept, Table.build_get, silent]
    rfl

/-! ### The new mode (R95, R101, R109) -/

/-- A recompute of the pass is in flight (R93). -/
def flying (p : Nat) (s : State) : Bool := s.map.work.any fun w => decide (w.pass = p)

theorem passInFlight_eq (p : Nat) (s : State) : passInFlight s p = flying p s := by
  unfold passInFlight flying
  cases s.map.work <;> rfl

/-- The pass in its new mode, its recompute in flight abandoned (R101, R109). -/
def modeSwitched (p : Nat) (m : Mode) (s : State) : State := { s with map := { s.map with
  passes := s.map.passes.set p { s.map.passes.get p with mode := m }
  work := if flying p s = true then none else s.map.work } }

theorem abandon_putMode_eq (p : Nat) (m : Mode) (s : State) : abandon p (putMode p m s) = modeSwitched p m s := by
  rw [abandon, passInFlight_eq, modeSwitched]
  change (if flying p s = true then _ else _) = _
  split <;> rfl

/-- A change between modes in service in one expression: an abandoned recompute has its pass appended (R95, R109). -/
theorem switchMode_eq (hm : m ≠ .oos) (hp : p < 8) (hn : (s.map.passes.get p).cfg.cellCount ≤ 64) :
    switchMode p m s = withQueue
      (if flying p s = true ∧ (s.map.passes.get p).frozen = false ∧ p ∉ s.map.queue then s.map.queue ++ [p]
        else s.map.queue) (inhibited m p (s.map.passes.get p).cfg.cellCount (modeSwitched p m s)) := by
  have pass : (modeSwitched p m s).map.passes.get p = { s.map.passes.get p with mode := m } := Table.get_set_self hp
  unfold switchMode
  dsimp only
  rw [abandon_putMode_eq, inhibited_eq hm hp (by rw [pass]) hn, passInFlight_eq]
  cases hf : flying p s with
  | false =>
    rw [if_neg Bool.false_ne_true, if_neg fun h => Bool.false_ne_true h.1]
    rfl
  | true =>
    have asked : (s.map.queue.contains p = true ∨ (s.map.passes.get p).frozen = true ∨ m = .oos) ↔
        ¬(true = true ∧ (s.map.passes.get p).frozen = false ∧ p ∉ s.map.queue) := by
      simp [hm, imp_iff_not_or, or_comm]
    have stays : (inhibited m p (s.map.passes.get p).cfg.cellCount (modeSwitched p m s)).map.passes.get p =
        { s.map.passes.get p with mode := m } := pass
    rw [if_pos rfl, appendPass_eq, stays]
    exact congrArg (withQueue · _) ((if_congr asked rfl rfl).trans (ite_not ..))

end

/-- Settles O34: the new mode, the rate alarms and the queue in one expression, behind the end of the ring entry. -/
theorem setModeChangesTheModeAlone : Obligations.SetModeChangesTheModeAlone := by
  intro pass mode m s hp h hcfg hlt hm p x flies off
  obtain ⟨legal, -⟩ := hcfg.inForce (.inl hp)
  have hp8 : p < 8 := hlt.trans_le legal.passes.2
  obtain ⟨fits, -⟩ := hcfg.cells p hp8
  have runs := exec_setMode hp h hlt hm
  refine ⟨fun same => ?_, fun other hx ho => ?_⟩
  · rw [runs, changeMode, if_pos (by exact same)]
    rfl
  · have switches : changeMode p m (freePort s) = switchMode p m (freePort s) := by
      rw [changeMode, if_neg (by exact other), if_neg ho, if_neg (by exact hx)]
    rw [switches, switchMode_eq (s := freePort s) ho hp8 fits] at runs
    refine ⟨_, runs, rfl, fun c hc => ?_⟩
    refine (Table.get_build _ hc).trans ((workedRec_passCells fits c).trans ?_)
    rw [modeWork_rec ho, ← ite_and]
    exact if_congr and_assoc rfl rfl

end Sys2Proof.Machine
end

section
/-! The hot list block, the pass header and the status record of the map window, word by word (O12). -/

namespace Sys2Proof.Machine

/-! ### Fields that fit their places (R178) -/

theorem place_mode (x : Mode) (lo : Nat) : place x.code lo 2 = 2 ^ lo * x.code := place_of_lt (by cases x <;> decide)

theorem place_phase (x : Phase) (lo : Nat) : place x.code lo 8 = 2 ^ lo * x.code := place_of_lt (by cases x <;> decide)

theorem place_loadResult (x : LoadResult) (lo : Nat) : place x.code lo 8 = 2 ^ lo * x.code :=
  place_of_lt (by cases x <;> decide)

theorem place_threshold (x : Threshold) (lo : Nat) : place x.code lo 2 = 2 ^ lo * x.code :=
  place_of_lt (by cases x <;> decide)

theorem place_engine (x : Engine) (lo : Nat) : place x.code lo 8 = 2 ^ lo * x.code := place_of_lt (by cases x <;> decide)

theorem place_level8 (x : Level) (lo : Nat) : place x.code lo 8 = 2 ^ lo * x.code := place_of_lt (by cases x <;> decide)

theorem place_outcome (x : ExportOutcome) (lo : Nat) : place x.code lo 8 = 2 ^ lo * x.code :=
  place_of_lt (by cases x <;> decide)

theorem place_urgent (x : Urgent) (lo : Nat) : place x.code lo 8 = 2 ^ lo * x.code := place_of_lt (by cases x <;> decide)

/-- The entries of a table are what it reads, with their indices. -/
theorem Table.entries_eq {α : Type} [Inhabited α] {n : Nat} (t : Table α n) :
    t.entries = (List.range n).map fun i => (i, t.get i) := by
  refine List.ext_getElem? fun i => ?_
  rw [Table.entries, getElem?_mapFrom, List.getElem?_map]
  by_cases hi : i < n
  · simp [Table.get, Table.getD, List.getD, t.size_eq, hi]
  · simp [t.size_eq, not_lt.mp hi]

section
variable {s : State} {n p : Nat}

/-! ### The hot list block (R157) -/

/-- A word of a block of records of two words each. -/
theorem getD_flatMap_pairs {f : Nat → List W32} (hf : ∀ i, (f i).length = 2) {k : Nat} (hk : k < 2) (hn : n < p) :
    ((List.range p).flatMap f).getD (2 * n + k) 0 = (f n).getD k 0 := by
  induction p with
  | zero => omega
  | succ p ih =>
    have length : ((List.range p).flatMap f).length = 2 * p := by simp [List.length_flatMap, hf, Nat.mul_comm]
    rw [List.range_succ, List.flatMap_append, List.flatMap_singleton]
    obtain h | rfl := Nat.lt_succ_iff_lt_or_eq.mp hn
    · rw [List.getD_append _ _ _ _ (by omega), ih h]
    · rw [List.getD_append_right _ _ _ _ (by omega), length, Nat.add_sub_cancel_left]

theorem hotEntryWords_length (e : Option HotEntry) : (hotEntryWords e).length = 2 := by cases e <;> rfl

/-- A cell and its margin in one word (R107, R157). -/
theorem mkWord_cellMargin {c : Nat} (hc : c < 2 ^ 16) (m : Int) :
    mkWord [place c 0 16, place (enc16 m) 16 16] = wordOfSum [c, 0x10000 * half (some m)] := by
  rw [place_of_lt hc, place_enc16, pow_zero, one_mul]
  rfl

theorem mkWord_sourceLevel (x : Source) (y : Level) :
    mkWord [place x.code 0 8, place y.code 8 8] = wordOfSum [x.code, 0x100 * y.code] := by
  rw [place_source, place_level8, pow_zero, one_mul]
  rfl

theorem hotList_word {k : Nat} (hk : k < 2) (hn : n < 16) :
    (liveRecord s .hotList).getD (2 * n + k) 0 = (hotEntryWords s.hot.list[n]?).getD k 0 :=
  getD_flatMap_pairs (fun _ => hotEntryWords_length _) hk hn

/-! ### The worst margin of a pass (R107) -/

/-- The worst-margin candidate behind the cells `l`. -/
def worstOf (margin : Nat → Option Int) (best : Option (Nat × Int)) (l : List Nat) : Option (Nat × Int) :=
  l.foldl (fun best c => worse best c (margin c)) best

section
variable {margin : Nat → Option Int} {l : List Nat} {best : Option (Nat × Int)} {c : Nat} {m : Int}

theorem worstOf_none (h : ∀ c ∈ l, margin c = none) : worstOf margin none l = none := by
  induction l with
  | nil => rfl
  | cons d l ih =>
    obtain ⟨hd, hl⟩ := List.forall_mem_cons.mp h
    rw [worstOf, List.foldl_cons, hd]
    exact ih hl

/-- The better of two candidates above a margin is above it. -/
theorem worse_above {x : Option Int} (hb : ∀ b, best = some b → m < b.2) (hx : ∀ k, x = some k → m < k) :
    ∀ b, worse best c x = some b → m < b.2 := by
  intro b h
  cases x with
  | none => cases best <;> exact hb b h
  | some k =>
    cases best with
    | none =>
      cases h
      exact hx k rfl
    | some a =>
      rw [worse] at h
      split at h
      · cases h
        exact hx k rfl
      · exact hb b h

/-- Cells above a margin leave a candidate above it. -/
theorem worstOf_above (h : ∀ d ∈ l, ∀ k, margin d = some k → m < k) (hb : ∀ b, best = some b → m < b.2) :
    ∀ b, worstOf margin best l = some b → m < b.2 := by
  induction l generalizing best with
  | nil => exact hb
  | cons d l ih =>
    obtain ⟨hd, hl⟩ := List.forall_mem_cons.mp h
    exact ih hl (worse_above hb hd)

/-- A candidate stands against cells at or above its margin. -/
theorem worstOf_stands (h : ∀ d ∈ l, ∀ k, margin d = some k → m ≤ k) : worstOf margin (some (c, m)) l = some (c, m) := by
  induction l with
  | nil => rfl
  | cons d l ih =>
    obtain ⟨hd, hl⟩ := List.forall_mem_cons.mp h
    have stands : worse (some (c, m)) d (margin d) = some (c, m) := by
      cases hk : margin d with
      | none => rfl
      | some k => exact if_neg (not_lt.mpr (hd k hk))
    rw [worstOf, List.foldl_cons, stands]
    exact ih hl

/-- The worst margin is the smallest one, at the lowest of the cells that have it (R107). -/
theorem worstOf_least (hs : l.Pairwise (· < ·)) (hc : c ∈ l) (hm : margin c = some m)
    (least : ∀ d ∈ l, ∀ k, margin d = some k → m < k ∨ (m = k ∧ c ≤ d)) : worstOf margin none l = some (c, m) := by
  obtain ⟨low, high, rfl⟩ := List.append_of_mem hc
  have below : ∀ d ∈ low, d < c := fun d hd => (List.pairwise_append.mp hs).2.2 d hd c (by simp)
  have above : ∀ b, worstOf margin none low = some b → m < b.2 :=
    worstOf_above (fun d hd k hk => (least d (by simp [hd]) k hk).resolve_right
      fun tie => absurd (below d hd) (Nat.not_lt.mpr tie.2)) nofun
  have taken : worse (worstOf margin none low) c (margin c) = some (c, m) := by
    rw [hm]
    cases e : worstOf margin none low with
    | none => rfl
    | some b => exact if_pos (above b e)
  have stands := worstOf_stands (margin := margin) (l := high) (c := c) (m := m) fun d hd k hk => by
    obtain h | ⟨h, -⟩ := least d (by simp [hd]) k hk
    · exact h.le
    · exact h.le
  rw [worstOf, List.foldl_append, List.foldl_cons]
  exact (congrArg (fun b => worstOf margin b high) taken).trans stands

end

/-! ### The pass header (R107) -/

theorem liveRecord_passHeader (h : p < s.path.extent.passCount) : liveRecord s (.passHeader p) = passHeader s p :=
  if_pos (decide_eq_true h)

theorem headerCells_eq (h : p < s.path.extent.passCount) :
    headerCells s p = passCells p (s.path.extent.cellCounts.getD p 0) := by
  rw [headerCells, extentCells, if_pos h]
  rfl

theorem passCells_sorted (p n : Nat) : (passCells p n).Pairwise (· < ·) :=
  List.pairwise_lt_range.map _ fun _ _ h => Nat.add_lt_add_left h _

/-- A count of a pass's cells fits a byte. -/
theorem countCells_lt (hn : n ≤ 64) (f : Nat → Bool) : ((passCells p n).filter f).length < 2 ^ 8 := by
  have := List.length_filter_le f (passCells p n)
  have : (passCells p n).length = n := by simp [passCells]
  omega

theorem passQueued_eq (s : State) (p : Nat) : passQueued s p = decide (p ∈ s.map.queue) := List.contains_eq_mem ..

theorem passInFlight_eq_decide (s : State) (p : Nat) : passInFlight s p = decide (s.map.work.map Work.pass = some p) := by
  rw [passInFlight_eq, flying]
  cases s.map.work <;> simp

/-- The header's fields in their places (R107, spec 10). -/
theorem passHeader_words (h : p < s.path.extent.passCount) (hn : s.path.extent.cellCounts.getD p 0 ≤ 64) :
    let x := s.map.passes.get p
    let cells := passCells p (s.path.extent.cellCounts.getD p 0)
    let count := fun src => (cells.filter fun c => decide ((s.map.cells.get c).source = src)).length
    passHeader s p =
      [wordOfSum [x.gen.toNat, 0x100 * x.mode.code, 0x400 * one x.frozen, 0x800 * one (decide (p ∈ s.map.queue)),
          0x1000 * one (decide (s.map.work.map Work.pass = some p)), 0x2000 * one x.lastCommit.isSome],
        x.lastCommit.getD 0xFFFF8000,
        match x.commitAge with | some a => BitVec.ofNat 32 a | none => 0xFFFF8000,
        wordOfSum [count .void, 0x100 * count .tc, 0x10000 * count .fused, 0x1000000 * count .pyro],
        wordOfSum [count .interp, 0x100 * count .held, 0x10000 * count .oos,
          0x1000000 * (cells.filter fun c => (s.map.cells.get c).disagree).length],
        match worstOf (fun c => (s.alarm.recs.get c).margin) none cells with
          | some w => mkWord [place w.1 0 16, place (enc16 w.2) 16 16]
          | none => 0x80008000,
        0, wordOfSum [0x1000000 * x.gen.toNat]] := by
  intro x cells count
  have sources (src : Source) : countSource s p src = count src := by rw [countSource, headerCells_eq h]
  have fits (src : Source) (lo : Nat) : place (count src) lo 8 = 2 ^ lo * count src := place_of_lt (countCells_lt hn _)
  have disagrees (lo : Nat) : place (countDisagree s p) lo 8 =
      2 ^ lo * (cells.filter fun c => (s.map.cells.get c).disagree).length := by
    rw [countDisagree, headerCells_eq h]
    exact place_of_lt (countCells_lt hn _)
  have worst : worstMargin s p = worstOf (fun c => (s.alarm.recs.get c).margin) none cells := by
    rw [worstMargin, headerCells_eq h]
    rfl
  rw [passHeader]
  simp only [sources, fits, disagrees, worst, place_byte, place_mode, place_flag, passQueued_eq, passInFlight_eq_decide,
    encTime_eq, pow_zero, one_mul, Nat.reducePow]
  cases worstOf (fun c => (s.alarm.recs.get c).margin) none cells <;> rfl

/-! ### The status record (R138, R147, R182) -/

/-- Eight flags, flag `i` at bit `i`, fill a byte. -/
theorem sum_flags_lt (f : Nat → Bool) : ((List.range 8).map fun i => flag (f i) * 2 ^ i).sum < 2 ^ 8 := by
  have bit (i : Nat) : flag (f i) ≤ 1 := by cases f i <;> decide
  have := bit 0
  have := bit 1
  have := bit 2
  have := bit 3
  have := bit 4
  have := bit 5
  have := bit 6
  have := bit 7
  simp only [List.range, List.range.loop, List.map_cons, List.map_nil, List.sum_cons, List.sum_nil]
  omega

theorem silentFlags_eq (s : State) :
    silentFlags s = ((List.range 8).map fun i => flag (s.intake.scanners.get i).silent * 2 ^ i).sum := by
  rw [silentFlags, Table.entries_eq, List.map_map]
  rfl

/-- The silent scanners at the top of their word, flag by flag (R46, R182). -/
theorem place_silentFlags (s : State) : place (silentFlags s) 24 8 =
    ((List.range 8).map fun i => 2 ^ (24 + i) * one (s.intake.scanners.get i).silent).sum := by
  rw [silentFlags_eq, place_of_lt (sum_flags_lt _), ← List.sum_map_mul_left]
  refine congrArg List.sum (List.map_congr_left fun i _ => ?_)
  rw [pow_add, Nat.mul_assoc, Nat.mul_comm (flag _)]
  rfl

/-- The cells that hold ALM# asserted (R138). -/
theorem almCells_eq (s : State) : almCells s = (List.range 512).filter fun c =>
    ((s.alarm.recs.get c).levelUnack && decide (s.life.params.threshold.level.code ≤ (s.alarm.recs.get c).peak.code)) ||
      ((s.alarm.recs.get c).rateUnack && s.life.params.routing) := by
  rw [almCells, Table.entries_eq, List.filter_map, List.map_map]
  exact List.map_id _

/-- The refresh queue holds no more than the eight passes (R95). -/
theorem QueueBounded.length_le {q : List Nat} (h : QueueBounded q) : q.length ≤ 8 := by
  have sub : q ⊆ List.range 8 := fun p hp => List.mem_range.mpr (h.2 p hp)
  simpa using (List.Nodup.subperm h.1 sub).length_le

/-- The cells that hold ALM# asserted and the lowest of them (R147). -/
theorem statusWord_alarms {holds : List Nat} {f : Nat → Bool} (h : holds = (List.range 512).filter f) :
    mkWord [place holds.length 0 16, place (match holds.head? with | some c => c | none => 0x8000) 16 16] =
      wordOfSum [holds.length, 0x10000 * holds.head?.getD 0x8000] := by
  have count : holds.length < 2 ^ 16 := by
    have := List.length_filter_le f (List.range 512)
    rw [← h, List.length_range] at this
    exact this.trans_lt (by decide)
  cases hh : holds.head? with
  | none =>
    rw [place_of_lt count, pow_zero, one_mul]
    rfl
  | some c =>
    have mem : c ∈ List.range 512 := List.mem_of_mem_filter (h ▸ List.mem_of_mem_head? hh)
    have lowest : c < 2 ^ 16 := (List.mem_range.mp mem).trans (by decide)
    simp only [place_of_lt count, place_of_lt lowest, pow_zero, one_mul, Nat.reducePow]
    rfl

/-- The lengths of the three queues and the pass in flight (R182). -/
theorem statusWord_queues (hb : s.Bounded) :
    mkWord [place s.intake.queue.length 0 8, place s.view.queue.length 8 8, place s.map.queue.length 16 8,
        place (match s.map.work with | some w => w.pass | none => 0xFF) 24 8] =
      wordOfSum [s.intake.queue.length, 0x100 * s.view.queue.length, 0x10000 * s.map.queue.length,
        0x1000000 * (s.map.work.map Work.pass).getD 0xFF] := by
  have frames : s.intake.queue.length < 2 ^ 8 := hb.frames.trans_lt (by decide)
  have lines : s.view.queue.length < 2 ^ 8 := hb.lines.trans_lt (by decide)
  have refresh : s.map.queue.length < 2 ^ 8 := (QueueBounded.length_le hb.refresh).trans_lt (by decide)
  rw [place_of_lt frames, place_of_lt lines, place_of_lt refresh, pow_zero, one_mul]
  cases hw : s.map.work with
  | none => rfl
  | some w =>
    have pass : w.pass < 2 ^ 8 := (hb.inFlight w hw).1.trans (by decide)
    simp only [place_of_lt pass]
    rfl

/-- The ring indices, the Command Engine's state and its urgent register (R159, R182). -/
theorem statusWord_ring (hb : s.Bounded) (hsize : s.life.params.cmdSize = 16 ∨ s.life.params.cmdSize = 64) :
    mkWord [place s.cmd.head 0 8, place s.cmd.tail 8 8, place s.cmd.engine.code 16 8,
        place (match s.cmd.urgent with | some u => u.code | none => 0) 24 8] =
      wordOfSum [s.cmd.head, 0x100 * s.cmd.tail, 0x10000 * s.cmd.engine.code,
        0x1000000 * (match s.cmd.urgent with | some u => u.code | none => 0)] := by
  obtain ⟨hhead, htail⟩ := hb.cmdRing (by omega)
  have head : s.cmd.head < 2 ^ 8 := by omega
  have tail : s.cmd.tail < 2 ^ 8 := by omega
  rw [place_of_lt head, place_of_lt tail, place_engine, pow_zero, one_mul]
  cases s.cmd.urgent with
  | none => rfl
  | some u =>
    simp only [place_urgent]
    rfl

/-- The event ring's indices and the lost count (R167, R182). -/
theorem statusWord_events (hb : s.Bounded) (hring : ∀ r, s.ev.ring = some r → r.size ≤ 256)
    (hset : s.ev.ring.isSome = true) :
    mkWord [place s.ev.producer 0 8, place s.ev.consumer 8 8, place s.ev.lost 16 16] =
      wordOfSum [s.ev.producer, 0x100 * s.ev.consumer, 0x10000 * s.ev.lost] := by
  obtain ⟨r, hr⟩ := Option.isSome_iff_exists.mp hset
  obtain ⟨hproducer, hconsumer⟩ := hb.evRing r hr
  have producer : s.ev.producer < 2 ^ 8 := hproducer.trans_le (hring r hr)
  have consumer : s.ev.consumer < 2 ^ 8 := hconsumer.trans_le (hring r hr)
  have lost : s.ev.lost < 2 ^ 16 := hb.lost.trans_lt (by decide)
  rw [place_of_lt producer, place_of_lt consumer, place_of_lt lost, pow_zero, one_mul]
  rfl

/-- The eligible cells and the length of the hot list (R148, R182). -/
theorem statusWord_hot (hb : s.Bounded) : mkWord [place s.hot.eligible 0 16, place s.hot.list.length 16 8] =
    wordOfSum [s.hot.eligible, 0x10000 * s.hot.list.length] := by
  have eligible : s.hot.eligible < 2 ^ 16 := hb.eligible.trans_lt (by decide)
  have ranks : s.hot.list.length < 2 ^ 8 := hb.hot.trans_lt (by decide)
  rw [place_of_lt eligible, place_of_lt ranks, pow_zero, one_mul]
  rfl

/-- The lifephase, the pins and the silent scanners (R46, R182). -/
theorem statusWord_flags (s : State) :
    mkWord [place s.life.phase.code 0 8, place s.life.lastResult.code 8 8, place (flag s.life.lock) 16 1,
        place s.life.params.threshold.code 17 2, place (flag s.life.params.routing) 19 1, place (flag s.alarm.alm) 20 1,
        place (flag s.intake.takeOk) 21 1, place (flag s.ev.evt) 22 1, place (flag s.ev.pathError) 23 1,
        place (silentFlags s) 24 8] =
      wordOfSum ([s.life.phase.code, 0x100 * s.life.lastResult.code, 0x10000 * one s.life.lock,
          0x20000 * s.life.params.threshold.code, 0x80000 * one s.life.params.routing, 0x100000 * one s.alarm.alm,
          0x200000 * one s.intake.takeOk, 0x400000 * one s.ev.evt, 0x800000 * one s.ev.pathError] ++
        (List.range 8).map fun i => 2 ^ (24 + i) * one (s.intake.scanners.get i).silent) := by
  simp only [place_phase, place_loadResult, place_threshold, place_flag, place_silentFlags, pow_zero, one_mul,
    Nat.reducePow]
  rw [mkWord, wordOfSum, List.sum_append]
  simp only [List.sum_cons, List.sum_nil, Nat.add_assoc, Nat.add_zero]

theorem statusWord_export (e : Export) : mkWord [place (flag e.job.isSome) 0 1, place e.outcome.code 8 8] =
    wordOfSum [one e.job.isSome, 0x100 * e.outcome.code] := by
  rw [place_flag, place_outcome, pow_zero, one_mul]
  rfl

end

/-- Settles O12: each record is the one its owning blocks hold, and each field fits its place. -/
theorem hotListHeaderAndStatusRecords : Obligations.HotListHeaderAndStatusRecords := by
  refine fun s => ⟨fun n hn => ?_, fun p hp hx hn => ?_, fun hb hsize hring hset => ?_⟩
  · have first := hotList_word (s := s) (k := 0) (by decide) hn
    have second := hotList_word (s := s) (k := 1) (by decide) hn
    refine ⟨fun e he hc => ?_, fun he => ?_⟩ <;> rw [he] at first second
    · exact ⟨first.trans (mkWord_cellMargin hc e.margin), second.trans (mkWord_sourceLevel ..)⟩
    · exact ⟨first, second⟩
  · rw [liveRecord_passHeader hx, passHeader_words hx hn]
    refine ⟨rfl, rfl, rfl, rfl, rfl, rfl, fun absent => ?_, fun c hc m hm least => ?_, rfl, rfl⟩
    · have worst : worstOf (fun c => (s.alarm.recs.get c).margin) none (passCells p _) = none := worstOf_none absent
      rw [worst]
      rfl
    · have worst : worstOf (fun c => (s.alarm.recs.get c).margin) none (passCells p _) = some (c, m) :=
        worstOf_least (passCells_sorted p _) hc hm least
      rw [worst]
      exact mkWord_cellMargin ((passCells_lt hp hn c hc).trans (by decide)) m
  · refine congrArg₂ List.cons (statusWord_flags s) (congrArg (List.cons _) (congrArg₂ List.cons (statusWord_queues hb)
      (congrArg₂ List.cons ?_ (congrArg₂ List.cons (statusWord_hot hb) (congrArg₂ List.cons (statusWord_ring hb hsize)
        (congrArg₂ List.cons (statusWord_events hb hring hset) (congrArg₂ List.cons (statusWord_export s.exp) rfl)))))))
    rw [← almCells_eq]
    exact statusWord_alarms (almCells_eq s)

end Sys2Proof.Machine
end

section
/-! ALM# is asserted exactly while its condition holds (O58): what R138 reads of the state, and the moves that write it. -/

namespace Sys2Proof.Machine

section
variable {s t : State}

/-! ### What ALM# depends on (R138) -/

/-- What R138 reads of a cell's alarm record. -/
def AlarmRec.almPart (r : AlarmRec) : Bool × Bool × Level := (r.levelUnack, r.rateUnack, r.peak)

/-- A cell holds ALM# asserted by that part of its record and the configuration in force alone. -/
theorem callsAlm_congr {c : Nat} (hp : t.life.params = s.life.params)
    (hr : (t.alarm.recs.get c).almPart = (s.alarm.recs.get c).almPart) : callsAlm t c ↔ callsAlm s c := by
  simp only [AlarmRec.almPart, Prod.mk.injEq] at hr
  obtain ⟨hlevel, hrate, hpeak⟩ := hr
  rw [callsAlm, callsAlm, hp, hlevel, hrate, hpeak]

/-- So ALM# stays true where the pin, those parts and the configuration stay. -/
theorem State.AlmTrue.of_parts (h : s.AlmTrue) (ha : t.alarm.alm = s.alarm.alm) (hp : t.life.params = s.life.params)
    (hr : ∀ c, (t.alarm.recs.get c).almPart = (s.alarm.recs.get c).almPart) : t.AlmTrue := by
  simp only [State.AlmTrue, callsAlm_congr hp (hr _), ha]
  exact h

theorem State.AlmTrue.congr (h : s.AlmTrue) (ha : t.alarm = s.alarm) (hp : t.life.params = s.life.params) : t.AlmTrue :=
  h.of_parts (by rw [ha]) hp fun _ => by rw [ha]

/-- Cleared records hold nothing, and the cleared pin is deasserted (R14). -/
theorem almTrue_of_cleared (ha : t.alarm = Alarm.cleared) : t.AlmTrue := by
  rw [State.AlmTrue, ha]
  refine iff_of_false Bool.false_ne_true ?_
  rintro ⟨c, hc, h⟩
  rw [callsAlm, ha, Alarm.cleared, Table.get_fill _ hc] at h
  obtain ⟨h, -⟩ | ⟨h, -⟩ := h <;> cases h

/-- Behind its evaluation ALM# is true, whatever stood before. -/
theorem evalAlm_almTrue (s : State) : (evalAlm s).AlmTrue := almTrue_of_evalAlm rfl rfl

/-! ### Records written without an evaluation (R111, R124, R129, R141, R146) -/

theorem State.AlmTrue.mapRecs (h : s.AlmTrue) {f : Nat → AlarmRec → AlarmRec} (hf : ∀ c r, (f c r).almPart = r.almPart) :
    (withRecs (s.alarm.recs.mapIdx f) s).AlmTrue :=
  h.of_parts rfl rfl fun c => Table.get_mapIdx_same AlarmRec.almPart hf _ c

theorem State.AlmTrue.setRec (h : s.AlmTrue) {c : Nat} {r : AlarmRec} (hr : r.almPart = (s.alarm.recs.get c).almPart) :
    (withRecs (s.alarm.recs.set c r) s).AlmTrue :=
  h.of_parts rfl rfl fun d => Table.get_set_same AlarmRec.almPart hr d

theorem State.AlmTrue.putAlarm (h : s.AlmTrue) {c : Nat} {out : AlarmRec × List EventData}
    (ho : out.1.almPart = (s.alarm.recs.get c).almPart) : (putAlarm c out s).AlmTrue := by
  refine h.of_parts (by simp) (by simp) fun d => ?_
  rw [putAlarm_recs]
  exact Table.get_set_same AlarmRec.almPart ho d

theorem alarmCellInhibit_almPart (c : Nat) (r : AlarmRec) : (alarmCellInhibit c r).1.almPart = r.almPart := by
  unfold alarmCellInhibit
  split <;> rfl

/-- A rate alarm that an entry to SPALL or DECOKE turns off leaves its unacknowledged flag (R129). -/
theorem State.AlmTrue.alarmInhibit (h : s.AlmTrue) (p : Nat) : (alarmInhibit p s).AlmTrue :=
  forIdx_keeps (P := State.AlmTrue) (fun _ _ hu => hu.putAlarm (alarmCellInhibit_almPart _ _)) h

theorem State.AlmTrue.alarmOosExit (h : s.AlmTrue) (p : Nat) : (alarmOosExit p s).AlmTrue :=
  h.mapRecs fun c r => by split <;> rfl

theorem State.AlmTrue.alarmLoadFail (h : s.AlmTrue) : (alarmLoadFail s).AlmTrue :=
  h.mapRecs fun c r => by split <;> rfl

theorem State.AlmTrue.resetExposureOf (h : s.AlmTrue) (c : Nat) : (resetExposureOf c s).AlmTrue :=
  State.AlmTrue.congr (h.setRec (c := c) (r := { s.alarm.recs.get c with exposureS := 0, exposureMs := 0 }) rfl) rfl rfl

/-! ### Commits and modes (R99, R108 to R111) -/

theorem State.AlmTrue.rebuildHot (h : s.AlmTrue) : (rebuildHot s).AlmTrue := h.congr (by simp) (by simp)

/-- A commit evaluates ALM# behind its alarm work (R142). -/
theorem commitPass_evaluatesAlm (w : Work) (s : State) : (commitPass w s).AlmTrue :=
  State.AlmTrue.rebuildHot (evalAlm_almTrue _)

/-- So does the entry to OOS (R135). -/
theorem enterOos_evaluatesAlm (p : Nat) (s : State) : (enterOos p s).AlmTrue := by
  have evaluated (u : State) : (alarmOosEntry p u).AlmTrue := evalAlm_almTrue _
  have advanced (u : State) (hu : u.AlmTrue) : (advanceGen p u).AlmTrue := hu.congr (by simp) (by simp)
  exact (advanced _ (evaluated _)).rebuildHot

theorem State.AlmTrue.exitOos (h : s.AlmTrue) (p : Nat) (m : Mode) : (exitOos p m s).AlmTrue := by
  have emptied : (emptyCells p .void (putMode p m s)).AlmTrue := h.congr (by simp) (by simp)
  exact (emptied.alarmOosExit p).congr (by simp [Machine.exitOos]) (by simp [Machine.exitOos])

theorem State.AlmTrue.switchMode (h : s.AlmTrue) (p : Nat) (m : Mode) : (switchMode p m s).AlmTrue := by
  have changed : (abandon p (putMode p m s)).AlmTrue := h.congr (by simp) (by simp)
  have inhibited : (if m = .spall ∨ m = .decoke then Machine.alarmInhibit p (abandon p (putMode p m s))
      else abandon p (putMode p m s)).AlmTrue := by
    split
    · exact changed.alarmInhibit p
    · exact changed
  unfold Machine.switchMode
  dsimp only
  split
  · exact inhibited.congr (by simp) (by simp)
  · exact inhibited

theorem State.AlmTrue.setModeEffect (h : s.AlmTrue) (p m : Byte) : (setModeEffect p m s).AlmTrue := by
  unfold Machine.setModeEffect changeMode
  split
  · split_ifs
    · exact h
    · exact enterOos_evaluatesAlm _ _
    · exact h.exitOos _ _
    · exact h.switchMode _ _
  · exact h

/-! ### Loads (R23, R145, R146) -/

/-- A load that ends OK evaluates ALM# under the configuration it adopts; any other end leaves what ALM# depends on. -/
theorem State.AlmTrue.endLoad (h : s.AlmTrue) (r : LoadResult) : (endLoad r s).AlmTrue := by
  have entered (j : LoadJob) : (loadEntered r j s).AlmTrue := h.congr (by simp) (by simp)
  refine endLoad_keeps (P := State.AlmTrue) h (fun j _ => adoptConfig_almTrue _ _ _) (fun j _ => ?_) (fun j _ => ?_)
  · have failed : (mapLoadFail (loadEntered r j s)).AlmTrue := (entered j).congr (by simp) (by simp)
    exact failed.alarmLoadFail.congr (by simp [failReload]) (by simp)
  · exact (entered j).congr (by simp [failFirstLoad]) (by simp)

/-- No record of a load touches the alarm records or the configuration in force (R22). -/
theorem RecordTaken.almTrue {ws : List W32} {j j' : LoadJob} (ht : RecordTaken ws j s j' t) (h : s.AlmTrue) :
    t.AlmTrue := by
  obtain ⟨-, -, ha, -⟩ := ht.frame
  refine h.congr ha ?_
  obtain ⟨-, c, -, -, hlife⟩ | ⟨-, hlife⟩ := ht.life <;> rw [hlife]

theorem State.AlmTrue.configFetched (h : s.AlmTrue) (reply : FetchReply) : (configFetched reply s).AlmTrue := by
  unfold Machine.configFetched
  split
  · exact h
  · split
    · exact h.endLoad _
    · exact takeRecords_induct (I := fun _ u => u.AlmTrue) (fun _ _ _ _ _ _ _ hi ht _ => ht.almTrue hi)
        (fun _ _ hi => hi.congr (by simp) (by simp)) (fun _ _ _ r hi _ => hi.endLoad r)
        (fun _ _ _ _ _ _ hi ht _ => (ht.almTrue hi).endLoad .ok) _ h

/-! ### Every move -/

theorem Move.almTrue (hm : Move s t) (h : s.AlmTrue) : t.AlmTrue := by
  cases hm
  case poweredOn => exact almTrue_of_cleared rfl
  case resetAsserted => exact almTrue_of_cleared rfl
  case reloadBegun => exact h.congr (by simp [beginReload]) (by simp [beginReload])
  case loadStopped => exact State.AlmTrue.endLoad (h.congr (by simp) (by simp)) _
  case configFetched reply => exact h.configFetched reply
  case recomputeCommitted w _ _ => exact commitPass_evaluatesAlm w _
  case referenceRetired c => exact h.setRec rfl
  case modeSet p m _ _ => exact h.setModeEffect p m
  case cellAcked => exact evalAlm_almTrue _
  case passAcked => exact evalAlm_almTrue _
  case exposureReset c _ _ => exact h.resetExposureOf _
  all_goals exact h.congr (by simp) (by simp)

end

/-- Settles O58: each move evaluates ALM# or leaves what it depends on, and so does each step. -/
theorem everyStepKeepsAlmTrue : Obligations.EveryStepKeepsAlmTrue := fun _ _ hs h =>
  step_keeps (P := State.AlmTrue) (fun _ _ hm hu => hm.almTrue hu) (fun _ _ hu => hu.congr rfl rfl) h hs

end Sys2Proof.Machine
end

section
/-! The level function by its bands, and what a commit makes of a cell's level (O37). -/

namespace Sys2Proof.Machine

/-! ### The bands of r(m) (R130) -/

section
variable {m m' a h : Int}

theorem levelFor_over (hm : m ≤ 0) : levelFor m a h = .over := if_pos hm

theorem levelFor_high (hm : 0 < m) (hh : m ≤ h) : levelFor m a h = .high := by
  rw [levelFor, if_neg (by omega), if_pos hh]

theorem levelFor_advise (hm : 0 < m) (hh : h < m) (ha : m ≤ a) : levelFor m a h = .advise := by
  rw [levelFor, if_neg (by omega), if_neg (by omega), if_pos ha]

theorem levelFor_normal (hm : 0 < m) (hh : h < m) (ha : a < m) : levelFor m a h = .normal := by
  rw [levelFor, if_neg (by omega), if_neg (by omega), if_neg (by omega)]

theorem levelFor_code (m a h : Int) :
    (levelFor m a h).code = if m ≤ 0 then 3 else if m ≤ h then 2 else if m ≤ a then 1 else 0 := by
  unfold levelFor
  split_ifs <;> rfl

/-- A smaller margin calls for no lower a level: its band is the same or a more severe one. -/
theorem levelFor_code_antitone (hle : m' ≤ m) : (levelFor m a h).code ≤ (levelFor m' a h).code := by
  rw [levelFor_code, levelFor_code]
  split_ifs <;> omega

/-- With A at H the ADVISE band is empty. -/
theorem levelFor_ne_advise (he : a = h) : levelFor m a h ≠ .advise := by
  intro hl
  have code := levelFor_code m a h
  rw [hl, he] at code
  split_ifs at code <;> cases code

/-- With H at 0 the HIGH band is empty. -/
theorem levelFor_ne_high (he : h = 0) : levelFor m a h ≠ .high := by
  intro hl
  have code := levelFor_code m a h
  rw [hl, he] at code
  split_ifs at code <;> cases code

end

/-! ### Rise, fall and stay (R131 to R134) -/

section
variable {i : AlarmIn} {r : AlarmRec} {m : Int}

/-- Without a margin the level stays and the count returns to 0 (R134). -/
theorem levelStep_none (hr : r.margin = none) : levelStep i r = ({ r with persist := 0 }, []) := by rw [levelStep, hr]

/-- A commit that calls for a higher level counts, and the P-th in a row raises the level (R131, R132). -/
theorem levelStep_higher (hr : r.margin = some m)
    (hu : r.level.code < (levelFor m i.cfg.advisory i.cfg.high).code) : levelStep i r =
      if i.cfg.persistence ≤ r.persist + 1 then levelRise i.cell (levelFor m i.cfg.advisory i.cfg.high) r
      else ({ r with persist := r.persist + 1 }, []) := by
  rw [levelStep, hr]
  exact if_pos (decide_eq_true hu)

/-- A commit that does not lowers the level as soon as the margin less the hysteresis calls for a lower one (R133). -/
theorem levelStep_not_higher (hr : r.margin = some m)
    (hu : (levelFor m i.cfg.advisory i.cfg.high).code ≤ r.level.code) : levelStep i r =
      if (levelFor (m - i.cfg.hysteresis) i.cfg.advisory i.cfg.high).code < r.level.code then
        levelFall i.cell (levelFor (m - i.cfg.hysteresis) i.cfg.advisory i.cfg.high) r
      else ({ r with persist := 0 }, []) := by
  rw [levelStep, hr]
  refine (if_neg fun hd => ?_).trans (if_congr decide_eq_true_iff rfl rfl)
  exact absurd (of_decide_eq_true hd) hu.not_gt

end

/-- Settles O37, band by band and then by what the margin calls for. -/
theorem levelFollowsTheMarginBands : Obligations.LevelFollowsTheMarginBands := by
  refine ⟨fun m a h hys => ⟨levelFor_over, levelFor_high, levelFor_advise, levelFor_normal, fun hh => ?_,
    levelFor_ne_advise, levelFor_ne_high, fun hh => ?_⟩, fun i r => ⟨levelStep_none, fun m hr => ⟨fun hu hp => ?_,
    fun hu hp => ?_, fun hu hd => ?_, fun hu hd => ?_⟩⟩⟩
  · exact levelFor_code_antitone (by omega)
  · rw [hh, Int.sub_zero]
  · rw [levelStep_higher hr hu, if_neg hp.not_ge]
  · rw [levelStep_higher hr hu, if_pos hp]
    rfl
  · rw [levelStep_not_higher hr hu, if_pos hd]
    rfl
  · rw [levelStep_not_higher hr hu, if_neg hd.not_gt]

end Sys2Proof.Machine
end

section
/-! A commit's work on one alarm record (O36): margin, rate and rate alarm, level, exposure, and what it credits. -/

namespace Sys2Proof.Machine

section
variable {i : AlarmIn} {r : AlarmRec}

/-! ### Margin (R123) -/

theorem effectiveLimit_eq (mode : Mode) (cfg : PassCfg) (limit : Int) :
    effectiveLimit mode cfg limit = if mode = .decoke then cfg.decokeLimit else limit := by
  cases mode <;> rfl

theorem marginStep_eq (i : AlarmIn) (r : AlarmRec) : marginStep i r = { r with
    margin := i.temp.map fun t => (if i.mode = .decoke then i.cfg.decokeLimit else i.limit) - t } := by
  simp only [marginStep, effectiveLimit_eq]

/-! ### Rate and rate alarm (R125, R126, R128) -/

/-- Above the limit the rate alarm turns on in NORMAL (R128). -/
theorem rateAlarmStep_on {rate : Int} (hl : i.cfg.rateLimit < rate) (hr : r.rateAlarm = false) (hm : i.mode = .normal) :
    rateAlarmStep i rate r = ({ r with rateAlarm := true, rateUnack := true },
      [(.alarmRateOn, subj i.cell, encInt rate, encInt i.cfg.rateLimit)]) := by
  rw [rateAlarmStep, if_pos hl, hr, if_neg Bool.false_ne_true, hm]

/-- Above the limit an active one stays on, and none turns on in another mode (R128, R129). -/
theorem rateAlarmStep_kept {rate : Int} (hl : i.cfg.rateLimit < rate) (h : r.rateAlarm = true ∨ i.mode ≠ .normal) :
    rateAlarmStep i rate r = (r, []) := by
  rw [rateAlarmStep, if_pos hl]
  split
  · rfl
  next hr =>
    split
    next hm => exact absurd hm (h.resolve_left hr)
    all_goals rfl

/-- At or below the limit an active one turns off (R128). -/
theorem rateAlarmStep_off {rate : Int} (hl : rate ≤ i.cfg.rateLimit) (hr : r.rateAlarm = true) :
    rateAlarmStep i rate r = ({ r with rateAlarm := false },
      [(.alarmRateOff, subj i.cell, encInt rate, encNat OffCause.fell.code)]) := by
  rw [rateAlarmStep, if_neg hl.not_gt, if_pos hr]

theorem rateAlarmStep_quiet {rate : Int} (hl : rate ≤ i.cfg.rateLimit) (hr : r.rateAlarm = false) :
    rateAlarmStep i rate r = (r, []) := by
  rw [rateAlarmStep, if_neg hl.not_gt, hr, if_neg Bool.false_ne_true]

/-- A computed rate stands whatever its alarm does. -/
theorem rateAlarmStep_rate (i : AlarmIn) (rate : Int) (r : AlarmRec) : (rateAlarmStep i rate r).1.rate = r.rate := by
  unfold rateAlarmStep
  split
  · split
    · rfl
    · split <;> rfl
  · split <;> rfl

/-- A cell without a live source does no rate work (R125). -/
theorem rateStep_dead (hl : i.source.live = false) : rateStep i r = (r, []) := by
  rw [rateStep, hl]

section
variable {t : Int} (hl : i.source.live = true) (ht : i.temp = some t)
include hl ht

theorem rateStep_first (hr : r.ref = none) : rateStep i r = ({ r with ref := some ⟨t, i.clock⟩ }, []) := by
  rw [rateStep, hl, ht, hr]

theorem rateStep_within {ref : RateRef} (hr : r.ref = some ref)
    (hw : (i.clock - ref.time).toNat < i.cfg.rateWindowS * 1000) : rateStep i r = (r, []) := by
  rw [rateStep, hl, ht, hr]
  exact if_pos hw

/-- Once the rate window has passed, the rate is computed, its alarm evaluated and the reference taken anew (R126). -/
theorem rateStep_measured {ref : RateRef} (hr : r.ref = some ref)
    (hw : i.cfg.rateWindowS * 1000 ≤ (i.clock - ref.time).toNat) :
    let rate := saturate (-32767) 32767 (q ((t - ref.temp) * 60000) (i.clock - ref.time).toNat)
    let out := rateAlarmStep i rate { r with rate := some rate }
    rateStep i r = ({ out.1 with ref := some ⟨t, i.clock⟩ }, out.2) := by
  rw [rateStep, hl, ht, hr]
  exact if_neg hw.not_gt

end

/-! ### What each stage of the work leaves alone (R142) -/

/-- The record with the rate part of another: reference, rate, rate alarm and its unacknowledged flag. -/
def AlarmRec.withRate (r x : AlarmRec) : AlarmRec :=
  { r with ref := x.ref, rate := x.rate, rateAlarm := x.rateAlarm, rateUnack := x.rateUnack }

theorem rateAlarmStep_eq (i : AlarmIn) (rate : Int) (r : AlarmRec) :
    (rateAlarmStep i rate r).1 = r.withRate (rateAlarmStep i rate r).1 := by
  unfold rateAlarmStep
  split
  · split
    · rfl
    · split <;> rfl
  · split <;> rfl

/-- Rate work writes the rate part alone. -/
theorem rateStep_eq (i : AlarmIn) (r : AlarmRec) : (rateStep i r).1 = r.withRate (rateStep i r).1 := by
  unfold rateStep
  split
  · split
    · rfl
    · split
      · rfl
      · dsimp only
        rw [rateAlarmStep_eq]
        rfl
  · rfl
  · rfl

/-- The level's evaluation neither reads nor writes the rate part. -/
theorem levelStep_withRate (i : AlarmIn) (r x : AlarmRec) :
    levelStep i (r.withRate x) = ((levelStep i r).1.withRate x, (levelStep i r).2) := by
  unfold levelStep
  cases hm : r.margin with
  | none => simp only [AlarmRec.withRate, hm]
  | some m =>
    simp only [AlarmRec.withRate, hm]
    split
    · split <;> simp [levelRise, hm]
    · split <;> simp [levelFall, hm]

/-- The level's evaluation leaves margin and exposure. -/
theorem levelStep_frame (i : AlarmIn) (r : AlarmRec) :
    (levelStep i r).1.margin = r.margin ∧ (levelStep i r).1.exposureS = r.exposureS ∧
      (levelStep i r).1.exposureMs = r.exposureMs := by
  unfold levelStep
  split
  · exact ⟨rfl, rfl, rfl⟩
  · dsimp only
    split
    · split <;> exact ⟨rfl, rfl, rfl⟩
    · split <;> exact ⟨rfl, rfl, rfl⟩

/-- Exposure work writes the exposure alone. -/
theorem exposureStep_eq (i : AlarmIn) (r : AlarmRec) : exposureStep i r =
    { r with exposureS := (exposureStep i r).exposureS, exposureMs := (exposureStep i r).exposureMs } := by
  unfold exposureStep addExposure
  split
  · split
    · split <;> rfl
    · rfl
  · rfl
  · rfl

/-- The work on one cell, block by block: the level part of the level's evaluation, the rate part of the rate work, and
the exposure behind both; the rate alarm's event ahead of the level's (R142). -/
theorem alarmCell_eq (i : AlarmIn) (r : AlarmRec) : alarmCell i r =
    (exposureStep i ((levelStep i (marginStep i r)).1.withRate (rateStep i (marginStep i r)).1),
      (rateStep i (marginStep i r)).2 ++ (levelStep i (marginStep i r)).2) := by
  rw [alarmCell, rateStep_eq i (marginStep i r), levelStep_withRate]
  rfl

theorem alarmCell_events (i : AlarmIn) (r : AlarmRec) :
    (alarmCell i r).2 = (rateStep i (marginStep i r)).2 ++ (levelStep i (marginStep i r)).2 := by rw [alarmCell_eq]

theorem alarmCell_level (i : AlarmIn) (r : AlarmRec) :
    (alarmCell i r).1.margin = (marginStep i r).margin ∧
      (alarmCell i r).1.level = (levelStep i (marginStep i r)).1.level ∧
      (alarmCell i r).1.persist = (levelStep i (marginStep i r)).1.persist ∧
      (alarmCell i r).1.peak = (levelStep i (marginStep i r)).1.peak ∧
      (alarmCell i r).1.levelUnack = (levelStep i (marginStep i r)).1.levelUnack := by
  rw [alarmCell_eq, exposureStep_eq]
  exact ⟨(levelStep_frame i _).1, rfl, rfl, rfl, rfl⟩

theorem alarmCell_rate (i : AlarmIn) (r : AlarmRec) :
    (alarmCell i r).1.ref = (rateStep i (marginStep i r)).1.ref ∧
      (alarmCell i r).1.rate = (rateStep i (marginStep i r)).1.rate ∧
      (alarmCell i r).1.rateAlarm = (rateStep i (marginStep i r)).1.rateAlarm ∧
      (alarmCell i r).1.rateUnack = (rateStep i (marginStep i r)).1.rateUnack := by
  rw [alarmCell_eq, exposureStep_eq]
  exact ⟨rfl, rfl, rfl, rfl⟩

/-! ### Exposure (R139, R140) -/

/-- Exposure in milliseconds, the remainder with the seconds. -/
def AlarmRec.exposure (r : AlarmRec) : Nat := 1000 * r.exposureS + r.exposureMs

/-- Milliseconds are added up to the end of the count (R140). -/
theorem addExposure_exposure (ms : Nat) (r : AlarmRec) :
    (addExposure ms r).exposure = min (r.exposure + ms) 4294967295999 ∧ (addExposure ms r).exposureMs ≤ 999 := by
  unfold addExposure AlarmRec.exposure exposureMax
  split <;> dsimp only <;> omega

section
variable {m : Int}

theorem exposureStep_dead (hl : i.source.live = false) : exposureStep i r = r := by rw [exposureStep, hl]

theorem exposureStep_above (h : ∀ m, r.margin = some m → i.cfg.advisory < m) : exposureStep i r = r := by
  unfold exposureStep
  split
  next m _ hm => exact if_neg (h m hm).not_ge
  all_goals rfl

theorem exposureStep_credits (hl : i.source.live = true) (hm : r.margin = some m) (ha : m ≤ i.cfg.advisory) :
    exposureStep i r = addExposure i.credit r := by
  rw [exposureStep, hl, hm]
  exact if_pos ha

/-- Without a live source, and above the advisory margin, a commit keeps the exposure (R139). -/
theorem alarmCell_uncredited (h : i.source.live = false ∨ ∀ m, (marginStep i r).margin = some m → i.cfg.advisory < m) :
    (alarmCell i r).1.exposureS = r.exposureS ∧ (alarmCell i r).1.exposureMs = r.exposureMs := by
  obtain ⟨hmargin, hs, hms⟩ := levelStep_frame i (marginStep i r)
  have kept : (alarmCell i r).1 = (levelStep i (marginStep i r)).1.withRate (rateStep i (marginStep i r)).1 := by
    rw [alarmCell_eq]
    obtain hl | ha := h
    · exact exposureStep_dead hl
    · exact exposureStep_above fun m hm => ha m (hmargin.symm.trans hm)
  rw [kept]
  exact ⟨hs, hms⟩

/-- A commit credits a live cell at or below the advisory margin (R139). -/
theorem alarmCell_credited (hl : i.source.live = true) (hm : (marginStep i r).margin = some m)
    (ha : m ≤ i.cfg.advisory) : (alarmCell i r).1.exposure = min (r.exposure + i.credit) 4294967295999 ∧
      (alarmCell i r).1.exposureMs ≤ 999 := by
  obtain ⟨hmargin, hs, hms⟩ := levelStep_frame i (marginStep i r)
  have before : ((levelStep i (marginStep i r)).1.withRate (rateStep i (marginStep i r)).1).exposure = r.exposure :=
    congrArg₂ (fun s ms => 1000 * s + ms) hs hms
  have after : (alarmCell i r).1 = addExposure i.credit _ :=
    (congrArg Prod.fst (alarmCell_eq i r)).trans (exposureStep_credits hl (hmargin.trans hm) ha)
  rw [after, ← before]
  exact addExposure_exposure ..

end

/-- A pass that has not committed credits nothing (R139). -/
theorem exposureCredit_first {p : Pass} (clock : W32) (h : p.lastCommit = none) : exposureCredit p clock = 0 := by
  rw [exposureCredit, h]

/-- The time since the last commit is credited up to the hold limit, which an aged commit credits whole (R139). -/
theorem exposureCredit_later {p : Pass} {t : W32} {age : Nat} (clock : W32) (ht : p.lastCommit = some t)
    (ha : p.commitAge = some age) : exposureCredit p clock =
      if 3600 ≤ age then p.cfg.holdS * 1000 else min (clock - t).toNat (p.cfg.holdS * 1000) := by
  rw [exposureCredit, ht, ha]
  rfl

/-! ### The rate part of the whole work (R125 to R128, R142) -/

/-- Rate work that at most takes a reference leaves rate and rate alarm, and hands no event. -/
theorem alarmCell_quiet {ref : Option RateRef}
    (h : rateStep i (marginStep i r) = ({ marginStep i r with ref := ref }, [])) :
    ((alarmCell i r).1.rate = r.rate ∧ (alarmCell i r).1.rateAlarm = r.rateAlarm ∧
      (alarmCell i r).1.rateUnack = r.rateUnack ∧ (alarmCell i r).2 = (levelStep i (marginStep i r)).2) ∧
    (alarmCell i r).1.ref = ref := by
  obtain ⟨href, hrate, halarm, hunack⟩ := alarmCell_rate i r
  rw [href, hrate, halarm, hunack, alarmCell_events, h]
  exact ⟨⟨rfl, rfl, rfl, rfl⟩, rfl⟩

/-- The record that the rate alarm is evaluated on: margin and rate are the new ones. -/
def AlarmRec.measured (i : AlarmIn) (rate : Int) (r : AlarmRec) : AlarmRec := { marginStep i r with rate := some rate }

/-- Rate work that measures a rate leaves what the rate alarm's evaluation at it leaves. -/
theorem alarmCell_measured {t rate : Int} (h : rateStep i (marginStep i r) =
      ({ (rateAlarmStep i rate (r.measured i rate)).1 with ref := some ⟨t, i.clock⟩ },
        (rateAlarmStep i rate (r.measured i rate)).2)) :
    ((alarmCell i r).1.rate = some rate ∧ (alarmCell i r).1.ref = some ⟨t, i.clock⟩) ∧
      (alarmCell i r).1.rateAlarm = (rateAlarmStep i rate (r.measured i rate)).1.rateAlarm ∧
      (alarmCell i r).1.rateUnack = (rateAlarmStep i rate (r.measured i rate)).1.rateUnack ∧
      (alarmCell i r).2 = (rateAlarmStep i rate (r.measured i rate)).2 ++ (levelStep i (marginStep i r)).2 := by
  obtain ⟨href, hrate, halarm, hunack⟩ := alarmCell_rate i r
  rw [href, hrate, halarm, hunack, alarmCell_events, h]
  exact ⟨⟨rateAlarmStep_rate .., rfl⟩, rfl, rfl, rfl⟩

end

/-- Settles O36: each clause by the stage of the work that it speaks of. -/
theorem commitsWorkTheAlarmRecord : Obligations.CommitsWorkTheAlarmRecord := by
  refine ⟨fun i r => ?_, fun p clock => ⟨exposureCredit_first clock, fun t age => exposureCredit_later clock⟩⟩
  intro margin level out quiet uncredited
  have measures : marginStep i r = { r with margin := margin } := marginStep_eq i r
  have levels : levelStep i (marginStep i r) = level := congrArg (levelStep i) measures
  have margins : (marginStep i r).margin = margin := congrArg AlarmRec.margin measures
  have quietly {ref : Option RateRef} (h : rateStep i (marginStep i r) = ({ marginStep i r with ref := ref }, [])) :
      quiet ∧ out.1.ref = ref := by
    have still := alarmCell_quiet h
    rwa [levels] at still
  refine ⟨?_, fun hl => ?_, fun t hl ht => ⟨fun hr => quietly (rateStep_first hl ht hr), fun ref hr =>
    ⟨fun hw => quietly (ref := some ref) ?_, fun hw => ?_⟩, fun ha => ?_, fun m hm ha _ _ => ?_⟩⟩
  · rw [← levels, ← margins]
    exact alarmCell_level i r
  · obtain ⟨still, href⟩ := quietly (ref := r.ref) (rateStep_dead hl)
    exact ⟨still, href, alarmCell_uncredited (.inl hl)⟩
  · rw [rateStep_within (r := marginStep i r) hl ht hr hw, ← hr]
    rfl
  · obtain ⟨⟨hrate, href⟩, halarm, hunack, hev⟩ := alarmCell_measured (rateStep_measured (r := marginStep i r) hl ht hr hw)
    rw [levels] at hev
    refine ⟨hrate, href, fun hlimit => ⟨fun hoff hmode => ?_, fun hkept => ?_⟩, fun hlimit => ?_⟩
    · rw [rateAlarmStep_on (r := r.measured i _) hlimit hoff hmode] at halarm hunack hev
      exact ⟨halarm, hunack, hev⟩
    · rw [rateAlarmStep_kept (r := r.measured i _) hlimit hkept] at halarm hunack hev
      exact ⟨halarm, hunack, hev⟩
    · cases active : r.rateAlarm with
      | false =>
        rw [rateAlarmStep_quiet (r := r.measured i _) hlimit active] at halarm hunack hev
        exact ⟨halarm.trans active, hunack, nofun, fun _ => hev⟩
      | true =>
        rw [rateAlarmStep_off (r := r.measured i _) hlimit active] at halarm hunack hev
        exact ⟨halarm, hunack, fun _ => hev, nofun⟩
  · exact alarmCell_uncredited (.inr fun m hm => ha m (margins.symm.trans hm))
  · exact alarmCell_credited hl (margins.trans hm) ha

end Sys2Proof.Machine
end

section
/-! ACK, ACK PASS and RESET EXPOSURE (O38). -/

namespace Sys2Proof.Machine

section
variable {s t u : State} {c : Nat} {op : Nat} {check : State → Option Reason} {act : State → State}

/-! ### Entries that touch alarm records and events alone (R161) -/

/-- The end of an entry whose effect left the Command Engine, the Life Controller and the path alone. -/
theorem finishEntry_of_frame (h : entryFetched s) (hc : u.cmd = s.cmd) (hl : u.life = s.life)
    (hp : u.path = (freePort s).path) : finishEntry u = entryEnded s u :=
  finishEntry_eq_entryEnded h.2 hc hl (by rw [hp]; rfl)

/-- An entry that runs in HALT too and passes its command's checks ends with its effect. -/
theorem haltEntry_acts (hp : s.life.phase = .run ∨ s.life.phase = .halt) (h : entryFetched s)
    (hc : check (freePort s) = none) :
    ringEntry (executeEntry op true check act) s = .next (finishEntry (act (freePort s))) := by
  rw [ringEntry_of h.1, executeEntry_runs (s := freePort s) hp, checkedEffect_acts hc]

/-- The end of an entry leaves what ALM# depends on (R138). -/
theorem entryEnded_almTrue (hu : u.AlmTrue) (s : State) : (entryEnded s u).AlmTrue := hu

/-! ### ACK and ACK PASS (R136, R137) -/

theorem cellCheck_ok {cell : W16} (h : cell.toNat ≤ 511) (s : State) : cellCheck cell s = none := if_neg (by omega)

theorem ackPassCheck_ok {pass : Byte} (h : pass.toNat ≤ 7) (s : State) : ackPassCheck pass s = none := if_neg (by omega)

theorem exec_ack {cell : W16} (hp : s.life.phase = .run ∨ s.life.phase = .halt) (h : entryFetched s)
    (hc : cell.toNat ≤ 511) : exec (.ack cell) s = .next (entryEnded s (ackCell cell.toNat (freePort s))) := by
  refine (haltEntry_acts hp h (cellCheck_ok hc _)).trans (congrArg _ ?_)
  exact finishEntry_of_frame h (by simp) (by simp) (by simp)

theorem exec_ackPass {pass : Byte} (hp : s.life.phase = .run ∨ s.life.phase = .halt) (h : entryFetched s)
    (hc : pass.toNat ≤ 7) : exec (.ackPass pass) s = .next (entryEnded s (ackPassCells pass.toNat (freePort s))) := by
  refine (haltEntry_acts hp h (ackPassCheck_ok hc _)).trans (congrArg _ ?_)
  exact finishEntry_of_frame h (by simp) (by simp) (by simp)

/-- ACK acknowledges its cell's record and no other (R136). -/
theorem ackCell_rec {cell : Nat} (hc : c < 512) : (ackCell cell s).alarm.recs.get c =
    if c = cell then ackRec (s.alarm.recs.get c) else s.alarm.recs.get c := by
  rw [ackCell, evalAlm_recs, withRecs, Table.get_modify]
  obtain rfl | hne := eq_or_ne c cell
  · rw [if_pos ⟨rfl, hc⟩, if_pos rfl]
  · rw [if_neg (fun h => hne h.1), if_neg hne]

/-- ACK PASS acknowledges the records of the pass's 64 positions (R137). -/
theorem ackPassCells_rec {p : Nat} (hc : c < 512) : (ackPassCells p s).alarm.recs.get c =
    if c / 64 = p then ackRec (s.alarm.recs.get c) else s.alarm.recs.get c :=
  Table.get_mapIdx _ _ hc

/-! ### RESET EXPOSURE (R141) -/

theorem exposureCheck_ok {cell : W16} (hl : s.life.lock = false) (h : cell.toNat ≤ 511) : exposureCheck cell s = none := by
  rw [exposureCheck, hl, if_neg Bool.false_ne_true, cellCheck_ok h]

theorem exposureCheck_locked {cell : W16} (hl : s.life.lock = true) : exposureCheck cell s = some .locked := if_pos hl

theorem exec_resetExposure {cell : W16} (hp : s.life.phase = .run) (h : entryFetched s) (hl : s.life.lock = false)
    (hc : cell.toNat ≤ 511) :
    exec (.resetExposure cell) s = .next (entryEnded s (resetExposureOf cell.toNat (freePort s))) := by
  refine (runEntry_acts hp h (exposureCheck_ok (s := freePort s) hl hc)).trans (congrArg _ ?_)
  exact finishEntry_of_frame h (by simp) (by simp) (by simp)

end

/-- Settles O38: each entry ends with its effect, whose records and ALM# are read off. -/
theorem alarmCommandsActOnTheirCells : Obligations.AlarmCommandsActOnTheirCells := by
  refine ⟨fun s hp h => ⟨fun cell hc => ?_, fun pass hc => ?_⟩, fun cell s hp h => ⟨fun hl hc => ?_, fun hl => ?_⟩⟩
  · exact ⟨_, exec_ack hp h hc, rfl, entryEnded_almTrue (evalAlm_almTrue _) s, fun c hlt => ackCell_rec hlt⟩
  · exact ⟨_, exec_ackPass hp h hc, rfl, entryEnded_almTrue (evalAlm_almTrue _) s, fun c hlt => ackPassCells_rec hlt⟩
  · exact exec_resetExposure hp h hl hc
  · exact runEntry_refused hp h (r := .locked) (exposureCheck_locked (s := freePort s) hl)

end Sys2Proof.Machine
end

section
/-! The hot list: the order that a rebuild ranks it in (O39), and that every step keeps (O60). -/

namespace Sys2Proof.Machine

/-! ### Eligible cells (R149) -/

section
variable {s : State} {c : Nat} {e : HotEntry}

/-- The eligible cells are the live ones of passes in service (R149). -/
theorem hotEntry_isSome (s : State) (c : Nat) : (hotEntry s c).isSome =
    ((s.map.cells.get c).source.live && decide ((s.map.passes.get (c / 64)).mode ≠ .oos)) := by
  rw [decide_not]
  unfold hotEntry
  dsimp only
  split
  next eligible => exact eligible.symm
  next other => exact (Bool.eq_false_iff.mpr other).symm

/-- An entry is formed of its cell's source and alarm record (R148, R150). -/
theorem hotEntry_fields (h : hotEntry s c = some e) :
    e = ⟨c, (s.alarm.recs.get c).margin.getD 0, (s.alarm.recs.get c).level, (s.map.cells.get c).source⟩ := by
  unfold hotEntry at h
  dsimp only at h
  split at h
  · exact (Option.some.inj h).symm
  · cases h

theorem hotEntry_cell (h : hotEntry s c = some e) : e.cell = c := by rw [hotEntry_fields h]

theorem mem_eligibleEntries : e ∈ eligibleEntries s ↔ e.cell < 512 ∧ hotEntry s e.cell = some e := by
  rw [eligibleEntries, List.mem_filterMap]
  constructor
  · rintro ⟨c, hc, h⟩
    rw [hotEntry_cell h]
    exact ⟨List.mem_range.mp hc, h⟩
  · exact fun ⟨hc, h⟩ => ⟨e.cell, List.mem_range.mpr hc, h⟩

theorem hotOf_eligible (s : State) : (hotOf s).eligible = ((List.range 512).filter fun c =>
    (s.map.cells.get c).source.live && decide ((s.map.passes.get (c / 64)).mode ≠ .oos)).length := by
  rw [hotOf, eligibleEntries, List.length_filterMap_eq_countP, List.countP_eq_length_filter]
  simp only [hotEntry_isSome]

/-- The eligible cells are read off the tables one after another, so each gives one entry. -/
theorem eligibleEntries_pairwise (s : State) : (eligibleEntries s).Pairwise fun a b => a.cell ≠ b.cell :=
  List.pairwise_lt_range.filterMap _ fun c d hcd a ha b hb => by
    rw [hotEntry_cell ha, hotEntry_cell hb]
    exact hcd.ne

end

/-! ### The order of R150 -/

theorem HotEntry.aheadB_iff {a b : HotEntry} : a.aheadB b = true ↔ a.ahead b := by simp [aheadB, ahead]

theorem HotEntry.ahead_total (a b : HotEntry) : a.ahead b ∨ b.ahead a := by
  unfold ahead
  omega

theorem HotEntry.ahead_trans {a b c : HotEntry} (hab : a.ahead b) (hbc : b.ahead c) : a.ahead c := by
  unfold ahead at *
  omega

/-- The strict order of R150. -/
def HotEntry.before (a b : HotEntry) : Prop := a.margin < b.margin ∨ (a.margin = b.margin ∧ a.cell < b.cell)

/-- Between entries of different cells the order of R150 is strict. -/
theorem HotEntry.before_of_ahead {a b : HotEntry} (h : a.ahead b) (hne : a.cell ≠ b.cell) : a.before b :=
  h.imp_right fun ⟨hm, hc⟩ => ⟨hm, hc.lt_of_ne hne⟩

theorem insertEntry_eq_orderedInsert (e : HotEntry) (l : List HotEntry) :
    insertEntry e l = l.orderedInsert (fun a b => a.aheadB b) e := by
  induction l with
  | nil => rfl
  | cons x l ih => rw [insertEntry, List.orderedInsert_cons, ih]

theorem rankEntries_eq_insertionSort (l : List HotEntry) :
    rankEntries l = l.insertionSort fun a b => a.aheadB b := by
  induction l with
  | nil => rfl
  | cons e l ih => rw [rankEntries, ih, insertEntry_eq_orderedInsert, List.insertionSort_cons]

/-- The ranking drops no entry and doubles none. -/
theorem rankEntries_perm (l : List HotEntry) : (rankEntries l).Perm l := by
  rw [rankEntries_eq_insertionSort]
  exact List.perm_insertionSort _ l

/-- Ranked entries stand in the order of R150. -/
theorem rankEntries_pairwise (l : List HotEntry) : (rankEntries l).Pairwise HotEntry.ahead := by
  have total : Std.Total fun a b : HotEntry => a.aheadB b = true :=
    ⟨fun a b => by simpa only [HotEntry.aheadB_iff] using a.ahead_total b⟩
  have trans : IsTrans HotEntry fun a b => a.aheadB b = true :=
    ⟨fun a b c => by simpa only [HotEntry.aheadB_iff] using HotEntry.ahead_trans⟩
  rw [rankEntries_eq_insertionSort]
  exact (List.pairwise_insertionSort _ l).imp HotEntry.aheadB_iff.mp

/-! ### A rebuild (R150, R151) -/

section
variable {s : State} {e x : HotEntry}

/-- The hot list is the front of the eligible entries as ranked. -/
theorem hotOf_list (s : State) : (hotOf s).list = (rankEntries (eligibleEntries s)).take Config.hotListMax := by
  rw [hotOf]

theorem rankedEligible_apart (s : State) : (rankEntries (eligibleEntries s)).Pairwise fun a b => a.cell ≠ b.cell :=
  (eligibleEntries_pairwise s).perm (rankEntries_perm _).symm Ne.symm

/-- No two of one cell, the ranked eligible entries stand in strict order. -/
theorem rankedEligible_pairwise (s : State) : (rankEntries (eligibleEntries s)).Pairwise HotEntry.before :=
  ((rankEntries_pairwise _).and (rankedEligible_apart s)).imp fun ⟨ahead, apart⟩ => HotEntry.before_of_ahead ahead apart

theorem hotOf_pairwise (s : State) : (hotOf s).list.Pairwise HotEntry.before := by
  rw [hotOf_list]
  exact (rankedEligible_pairwise s).take

theorem hotOf_cells_nodup (s : State) : ((hotOf s).list.map HotEntry.cell).Nodup := by
  rw [hotOf_list]
  exact List.pairwise_map.mpr (rankedEligible_apart s).take

theorem hotOf_length (s : State) : (hotOf s).list.length = min 16 (hotOf s).eligible := by
  rw [hotOf_list, List.length_take, (rankEntries_perm _).length_eq, Config.hotListMax, hotOf]

/-- The hot list holds eligible cells alone. -/
theorem eligible_of_mem_hotOf (h : e ∈ (hotOf s).list) : e ∈ eligibleEntries s := by
  rw [hotOf_list] at h
  exact (rankEntries_perm _).mem_iff.mp (List.mem_of_mem_take h)

/-- An eligible cell left out of the hot list ranks behind every cell in it. -/
theorem behind_of_not_mem_hotOf (he : e ∈ eligibleEntries s) (hout : e ∉ (hotOf s).list) (hx : x ∈ (hotOf s).list) :
    x.before e := by
  rw [hotOf_list] at hout hx
  have ranked := rankedEligible_pairwise s
  have place := (rankEntries_perm _).mem_iff.mpr he
  rw [← List.take_append_drop Config.hotListMax (rankEntries _)] at ranked place
  obtain ⟨-, -, across⟩ := List.pairwise_append.mp ranked
  exact across x hx e ((List.mem_append.mp place).resolve_left hout)

end

/-- Settles O39: the rebuild takes the front of the eligible entries as ranked. -/
theorem hotListHoldsTheClosestCells : Obligations.HotListHoldsTheClosestCells := by
  refine fun s => ⟨hotOf_eligible s, hotOf_length s, hotOf_pairwise s, fun e he => ?_,
    fun c hc e he hout x hx => ?_, fun c _ e he => ?_⟩
  · exact mem_eligibleEntries.mp (eligible_of_mem_hotOf he)
  · obtain rfl := hotEntry_cell he
    exact behind_of_not_mem_hotOf (mem_eligibleEntries.mpr ⟨hc, he⟩) hout hx
  · rw [hotEntry_fields he]
    exact ⟨rfl, rfl, rfl, fun m hm => by rw [hm, Option.getD_some]⟩

/-! ### Every step (R148, R151) -/

section
variable {s t u : State}

/-- The hot list of `t` is that of `s`, or one that a rebuild has formed. -/
def HotListFrom (s t : State) : Prop := t.hot = s.hot ∨ ∃ u, t.hot = hotOf u

/-- No cell of the cleared tables is eligible (R148). -/
theorem hotOf_cleared : hotOf State.cleared = ⟨[], 0⟩ :=
  hotOf_empty fun _ hc => congrArg (fun x : Cell => x.source.live) (Table.get_fill _ hc)

/-- Every end of a load rebuilds the list (R153). -/
theorem endLoad_hotListFrom (r : LoadResult) (h : u.hot = s.hot) : HotListFrom s (endLoad r u) := by
  refine endLoad_keeps (P := HotListFrom s) (.inl h) (fun j _ => ?_) (fun j _ => ?_) (fun j _ => ?_)
  · exact .inr ⟨State.cleared, (adoptConfig_hot _ _ _).trans hotOf_cleared.symm⟩
  · exact .inr ⟨alarmLoadFail (mapLoadFail (loadEntered r j u)), by simp [failReload_eq]⟩
  · exact .inr ⟨clearTables (loadEntered r j u), by simp [failFirstLoad]⟩

/-- The records of a load leave the list to the load's end (R22, R153). -/
theorem configFetched_hotListFrom (reply : FetchReply) (s : State) : HotListFrom s (configFetched reply s) := by
  unfold configFetched
  split
  · exact .inl rfl
  · split
    · exact endLoad_hotListFrom _ rfl
    · refine takeRecords_induct (I := fun _ u => u.hot = s.hot) (fun _ _ _ _ _ _ _ hi ht _ => ?_)
        (fun _ _ hi => .inl (by simpa using hi)) (fun _ _ _ r hi _ => endLoad_hotListFrom r hi)
        (fun _ _ _ _ _ _ hi ht _ => endLoad_hotListFrom .ok ?_) _ rfl
      all_goals
        obtain ⟨-, -, -, hh, -⟩ := ht.frame
        exact hh.trans hi

/-- The exit from OOS rebuilds the list behind its writes (R152). -/
theorem exitOos_rebuilds (p : Nat) (m : Mode) (s : State) : (exitOos p m s).hot =
    hotOf (advanceGen p (alarmOosExit p (emptyCells p .void (putMode p m s)))) := by simp [exitOos]

/-- A change to or from OOS rebuilds the list; one between the modes in service leaves it (R152). -/
theorem setModeEffect_hotListFrom (p m : Byte) (s : State) : HotListFrom s (setModeEffect p m s) := by
  unfold setModeEffect changeMode
  split
  · split_ifs
    · exact .inl rfl
    · exact .inr ⟨_, enterOos_hot _ _⟩
    · exact .inr ⟨_, exitOos_rebuilds _ _ _⟩
    · exact .inl (by simp)
  · exact .inl rfl

/-- What a move does to the hot list: power-on and RESET# clear it, commits, changes to or from OOS and load ends rebuild
it (R151 to R153), and nothing else touches it. -/
theorem Move.hotListFrom (hm : Move s t) : HotListFrom s t := by
  cases hm
  case poweredOn => exact .inr ⟨State.cleared, hotOf_cleared.symm⟩
  case resetAsserted => exact .inr ⟨State.cleared, hotOf_cleared.symm⟩
  case loadStopped => exact endLoad_hotListFrom _ (by simp)
  case configFetched reply => exact configFetched_hotListFrom reply s
  case recomputeCommitted w _ _ => exact .inr ⟨_, rebuildHot_hot _⟩
  case modeSet p m _ _ => exact setModeEffect_hotListFrom p m s
  all_goals exact .inl (by simp)

/-- What a rebuild forms is ranked (R150), and what is ranked stays so. -/
theorem State.Ranked.of_hotListFrom (h : s.Ranked) (ht : HotListFrom s t) : t.Ranked := by
  obtain kept | ⟨u, rebuilt⟩ := ht
  · rw [State.Ranked, kept]
    exact h
  · rw [State.Ranked, rebuilt]
    exact ⟨hotOf_pairwise u, hotOf_cells_nodup u⟩

end

/-- Settles O60: each move keeps the hot list or leaves one that a rebuild ranks. -/
theorem everyStepKeepsTheRanking : Obligations.EveryStepKeepsTheRanking := fun _ _ hs h =>
  step_keeps (P := State.Ranked) (fun _ _ hm hu => hu.of_hotListFrom hm.hotListFrom) (fun _ _ hu => hu) h hs

end Sys2Proof.Machine
end

section
/-! The Event Writer: events taken, written and published, a ring adopted (O48), and what the consumer word and the
coalesce timer make of EVT# (O49). -/

namespace Sys2Proof.Machine

section
variable {s : State} {w : EventWriter} {r a : EvRing} {e : Event}

/-! ### The unconsumed count (R167) -/

theorem EvRing.Legal.size_pos (h : r.Legal) : 0 < r.size := by
  obtain ⟨-, low, high⟩ := h
  omega

/-- The unconsumed count is (producer − consumer) mod ring size (R167). -/
theorem cast_unconsumed (h : w.ring = some r) (hr : r.Legal) :
    (unconsumed w : Int) = ((w.producer : Int) - w.consumer) % r.size := by
  have below : w.consumer % r.size < r.size := Nat.mod_lt _ hr.size_pos
  have split : (w.consumer : Int) = (w.consumer % r.size : Nat) + r.size * (w.consumer / r.size : Nat) :=
    mod_cast (Nat.mod_add_div w.consumer r.size).symm
  have shifted : ((w.producer + r.size - w.consumer % r.size : Nat) : Int) =
      w.producer - w.consumer + r.size * (1 + (w.consumer / r.size : Nat)) := by
    rw [Nat.cast_sub (by omega), mul_add]
    push_cast at split ⊢
    linarith
  simp only [unconsumed, h]
  rw [Int.natCast_emod, shifted, Int.add_mul_emod_self_left]

theorem unconsumed_eq_zero_iff (h : w.ring = some r) (hr : r.Legal) :
    unconsumed w = 0 ↔ ((w.producer : Int) - w.consumer) % r.size = 0 := by
  rw [← cast_unconsumed h hr, Nat.cast_eq_zero]

/-- The ring is full at one entry less than its size (R168). -/
theorem ringFull_iff (h : w.ring = some r) (hr : r.Legal) :
    ringFull w = true ↔ ((w.producer : Int) - w.consumer) % r.size = r.size - 1 := by
  rw [← cast_unconsumed h hr]
  simp only [ringFull, h, decide_eq_true_eq]
  omega

/-- EVT# is asserted at the threshold, or when the coalesce timer has expired (R171). -/
theorem evtCondition_eq (h : w.ring = some r) (hr : r.Legal) : evtCondition w =
    (decide ((r.threshold : Int) ≤ ((w.producer : Int) - w.consumer) % r.size) || w.expired) := by
  rw [evtCondition_of h, ← cast_unconsumed h hr]
  simp only [Nat.cast_le]

/-- EVT# evaluated after a change of the Event Writer (R171). -/
theorem evalEvt_withEv (h : w.ring = some r) (hr : r.Legal) (s : State) : evalEvt (withEv w s) = { s with ev := { w with
    evt := decide ((r.threshold : Int) ≤ ((w.producer : Int) - w.consumer) % r.size) || w.expired } } := by
  rw [← evtCondition_eq h hr]
  rfl

/-- An expired timer asserts EVT# (R171). -/
theorem evalEvt_expired (h : w.ring.isSome = true) (he : w.expired = true) (s : State) :
    evalEvt (withEv w s) = { s with ev := { w with evt := true } } := by
  obtain ⟨r, hr⟩ := Option.isSome_iff_exists.mp h
  have asserted : evtCondition w = true := by rw [evtCondition_of hr, he, Bool.or_true]
  exact congrArg (fun b => withEv { w with evt := b } s) asserted

/-! ### Events handed over (R167) -/

theorem EventKind.cls_le (k : EventKind) : k.cls ≤ 11 := by cases k <;> decide

theorem EventWriter.take_suppressed (h : w.ring = some r) (hm : r.mask.getLsbD e.kind.cls = true) (hc : e.kind.cls ≠ 11) :
    w.take e = w := by
  have named : e.kind.cls < 11 := Nat.lt_of_le_of_ne e.kind.cls_le hc
  simp [EventWriter.take, h, hm, named]

theorem EventWriter.take_unsuppressed (h : w.ring = some r) (hm : r.mask.getLsbD e.kind.cls = false ∨ e.kind.cls = 11) :
    w.take e = if 8 ≤ w.pending.length then { w with lost := satAdd 65535 w.lost 1 }
      else { w with pending := w.pending ++ [e] } := by
  have heard : (r.mask.getLsbD e.kind.cls && decide (e.kind.cls < 11)) = false := by
    obtain hm | hc := hm
    · rw [hm, Bool.false_and]
    · rw [hc, Bool.and_comm]; rfl
  simp only [EventWriter.take, h, heard, Config.pendingEventsMax, Bool.false_eq_true, if_false]

/-! ### Records (R168, R181) -/

/-- The first word of an event record: class, code and subject (R181). -/
theorem recordWords_eq (e : Event) : recordWords e =
    [wordOfSum [e.kind.cls, 0x100 * e.kind.code, 0x10000 * e.subject.toNat], e.time, e.a, e.b] := by
  have class_fits : e.kind.cls < 2 ^ 8 := e.kind.cls_le.trans_lt (by decide)
  have code_fits : e.kind.code < 2 ^ 8 := by cases e.kind <;> decide
  rw [recordWords, place_of_lt class_fits, place_of_lt code_fits, place_word16, pow_zero, one_mul]
  rfl

/-- The LOST/COUNT record (R168, R181). -/
theorem recordWords_lost (t : W32) (n : Nat) :
    recordWords ⟨.lostCount, 0, t, encNat n, 0⟩ = [0x0000010B, t, BitVec.ofNat 32 n, 0] := by
  have head : wordOfSum [11, 0x100 * 1, 0x10000 * 0] = 0x0000010B := by decide
  rw [← head, recordWords_eq]
  rfl

section
variable (hw : s.ev.ring = some r)
include hw

/-- A full ring costs the oldest pending event (R168). -/
theorem exec_eventWriterAction_full {rest : List Event} (ho : outstanding s .eventWriter = false)
    (hf : ringFull s.ev = true) (hq : s.ev.pending = e :: rest) : exec .eventWriterAction s =
      .next (withEv { s.ev with pending := rest, lost := satAdd 65535 s.ev.lost 1 } s) := by
  simp only [exec, execEventWriterAction, ho, hw, hf, hq, Bool.false_eq_true, if_false, if_true]

/-- With room, a lost count is written first (R168). -/
theorem exec_eventWriterAction_lost (ho : outstanding s .eventWriter = false) (hf : ¬ringFull s.ev = true)
    (hl : 0 < s.ev.lost) : exec .eventWriterAction s = .next (post ⟨.eventRecord true,
      eventRecordAddr r s.ev.producer, recordWords ⟨.lostCount, 0, now s, encNat s.ev.lost, 0⟩⟩ s) := by
  simp only [exec, execEventWriterAction, ho, hw, hf, hl, Bool.false_eq_true, if_false, if_true]

/-- With room and nothing lost, the oldest pending event is written (R168). -/
theorem exec_eventWriterAction_event {rest : List Event} (ho : outstanding s .eventWriter = false)
    (hf : ¬ringFull s.ev = true) (hl : s.ev.lost = 0) (hq : s.ev.pending = e :: rest) : exec .eventWriterAction s =
      .next (post ⟨.eventRecord false, eventRecordAddr r s.ev.producer, recordWords e⟩
        (withEv { s.ev with pending := rest } s)) := by
  simp only [exec, execEventWriterAction, ho, hw, hf, hl, hq, lt_irrefl, Bool.false_eq_true, if_false]

/-- A record published: the producer index advances and its word is posted (R168). -/
theorem recordWritten_ok (lost : Bool) : recordWritten false lost s =
    post (producerWrite r (decide (unconsumed s.ev = 0)) ((s.ev.producer + 1) % r.size))
      (withEv { s.ev with
        producer := (s.ev.producer + 1) % r.size, pathError := false, lost := if lost then 0 else s.ev.lost } s) := by
  simp only [recordWritten, hw, Bool.false_eq_true, if_false]

/-- The Event Writer after a record write that failed (R169). -/
theorem recordWritten_error (lost : Bool) : recordWritten true lost s =
    eventWriteEnded (withEv { s.ev with
      pathError := true, lost := if lost then s.ev.lost else satAdd 65535 s.ev.lost 1 } s) := by
  simp only [recordWritten, hw, if_true]

/-- The Event Writer after a write to the producer word, before EVT# is evaluated (R169, R171). -/
theorem producerWritten_eq (error first : Bool) : producerWritten error first s =
    eventWriteEnded (evalEvt (withEv { s.ev with
      pathError := s.ev.pathError || error
      coalesce := if first then some ⟨s.life.clock, r.coalesceMs⟩ else s.ev.coalesce } s)) := by
  simp only [producerWritten, coalesceTimer, hw, Option.map_some]
  rfl

end

/-! ### The end of a write (R172) -/

theorem eventWriteEnded_none (h : s.ev.adopt = none) : eventWriteEnded s = s := by
  simp only [eventWriteEnded, h]

theorem eventWriteEnded_some (h : s.ev.adopt = some a) : eventWriteEnded s = evalEvt (adoptRing a s) := by
  simp only [eventWriteEnded, h]

/-- A ring of the same base and size is adopted with its indices, timer and flag, and EVT# under its threshold (R172). -/
theorem evalEvt_adoptRing_kept (hw : s.ev.ring = some r) (ha : a.Legal) (hk : a.base = r.base ∧ a.size = r.size) :
    evalEvt (adoptRing a s) = { s with ev := { s.ev with
      ring := some a, adopt := none
      evt := decide ((a.threshold : Int) ≤ ((s.ev.producer : Int) - s.ev.consumer) % a.size) || s.ev.expired } } := by
  rw [adoptRing_kept ⟨r, hw, hk.1.symm, hk.2.symm⟩, evalEvt_withEv (by rfl) ha]

/-- Another ring is adopted empty: its threshold being at least 1, EVT# is deasserted (R172). -/
theorem evalEvt_adoptRing_new (hw : s.ev.ring = some r) (ha : a.Legal) (hk : ¬(a.base = r.base ∧ a.size = r.size)) :
    evalEvt (adoptRing a s) = { s with
      ev := { s.ev with
        ring := some a, adopt := none, producer := 0, consumer := 0, coalesce := none, expired := false, evt := false }
      path := { s.path with evOut := s.path.evOut ++ [producerWrite a false 0] } } := by
  have other : ¬∃ o, s.ev.ring = some o ∧ o.base = a.base ∧ o.size = a.size := by
    rintro ⟨o, ho, hb, hz⟩
    obtain rfl : r = o := Option.some.inj (hw.symm.trans ho)
    exact hk ⟨hb.symm, hz.symm⟩
  have quiet : decide ((a.threshold : Int) ≤ ((0 : Nat) - (0 : Nat) : Int) % a.size) = false := by
    obtain ⟨-, low, -⟩ := ha
    simp
    omega
  rw [adoptRing_new other, evalEvt, evtCondition_eq (r := a) (by simp) ha]
  simp only [post_ev, withEv_ev, quiet, Bool.or_false]
  rfl

/-- The adoption evaluates EVT# anew, whatever it was before (R172). -/
theorem evalEvt_adoptRing_evalEvt (a : EvRing) (s : State) :
    evalEvt (adoptRing a (evalEvt s)) = evalEvt (adoptRing a s) := by
  unfold adoptRing
  rw [evalEvt_ev_ring]
  dsimp only
  split_ifs <;> rfl

/-! ### The completions of the Event Writer's writes (R13) -/

theorem exec_eventRecordWriteComplete {lost : Bool} (h : onPortKind s (.eventRecord lost)) (error : Bool) :
    exec (.eventRecordWriteComplete error) s = .next (recordWritten error lost (freePort s)) := by
  obtain ⟨q, hk, hq⟩ := h
  refine congrArg Host.Outcome.next ((complete_of hq (by simp [isEventRecord, hk])).trans ?_)
  cases lost <;> simp [hk]

theorem exec_producerWordWriteComplete {first : Bool} (h : onPortKind s (.producerWord first)) (error : Bool) :
    exec (.producerWordWriteComplete error) s = .next (producerWritten error first (freePort s)) := by
  obtain ⟨q, hk, hq⟩ := h
  refine congrArg Host.Outcome.next ((complete_of hq (by simp [isProducerWord, hk])).trans ?_)
  cases first <;> simp [hk]

/-- A host write to the consumer word, the event window being active (R5). -/
theorem exec_consumerWordWrite (h : (ringWindows s).isSome = true) (v : W32) :
    exec (.consumerWordWrite v) s = .next (consumerWrite v s) := by
  obtain ⟨x, hx⟩ := Option.isSome_iff_exists.mp h
  simp only [exec, execConsumerWordWrite, hx]

theorem consumerWrite_eq (hw : s.ev.ring = some r) (v : W32) : consumerWrite v s =
    evalEvt (withEv { s.ev with
      consumer := v.toNat % r.size, expired := false
      coalesce := if unconsumed { s.ev with consumer := v.toNat % r.size } = 0 then none
        else some ⟨s.life.clock, r.coalesceMs⟩ } s) := by
  simp only [consumerWrite, coalesceTimer, hw, Option.map_some]
  rfl

theorem exec_coalesceTimerExpiry {tm : Timer} (h : s.ev.coalesce = some tm) : exec .coalesceTimerExpiry s =
    if tm.len ≤ (s.life.clock - tm.start).toNat then
      .next (evalEvt (withEv { s.ev with coalesce := none, expired := true } s))
    else .next s := by
  simp only [exec, execCoalesceTimerExpiry, h, timerDue, Timer.due, decide_eq_true_eq]
  rfl

/-- The Event Writer as the end of a write that publishes no record leaves it, before a waiting ring is adopted and EVT#
is evaluated: after a record write that failed, and after any write to the producer word (R169, R171). -/
def EndsWrite (c : Instr) (s : State) (r : EvRing) (w : EventWriter) : Prop :=
  (∃ lost, c = .eventRecordWriteComplete true ∧ onPortKind s (.eventRecord lost) ∧ w = { s.ev with
      pathError := true
      lost := if lost = true then s.ev.lost else if 65535 ≤ s.ev.lost + 1 then 65535 else s.ev.lost + 1 }) ∨
    ∃ error first, c = .producerWordWriteComplete error ∧ onPortKind s (.producerWord first) ∧ w = { s.ev with
      pathError := s.ev.pathError || error
      coalesce := if first = true then some ⟨s.life.clock, r.coalesceMs⟩ else s.ev.coalesce }

/-- Where a ring waits, such an end adopts it (R172). -/
theorem exec_endsWrite {c : Instr} (hw : s.ev.ring = some r) (ha : s.ev.adopt = some a) (h : EndsWrite c s r w) :
    exec c s = .next (evalEvt (adoptRing a (withEv w (freePort s)))) := by
  obtain ⟨lost, rfl, hp, rfl⟩ | ⟨error, first, rfl, hp, rfl⟩ := h
  · rw [exec_eventRecordWriteComplete hp, recordWritten_error (by exact hw), eventWriteEnded_some (by exact ha)]
    rfl
  · rw [exec_producerWordWriteComplete hp, producerWritten_eq (by exact hw), eventWriteEnded_some (by exact ha),
      evalEvt_adoptRing_evalEvt]
    rfl

end

/-- Settles O48: events taken, the writer's action, and the ends of its two writes without and with a ring that
waits. -/
theorem eventsAreWrittenAndPublished : Obligations.EventsAreWrittenAndPublished := by
  refine ⟨fun e w => ⟨fun hn => w.take_no_ring hn e, fun r hr => ⟨w.take_suppressed hr, fun hm => ?_⟩⟩, ?_,
    fun r lost s hc hr hp => ?_, fun error first r s hc hr ha hp => ?_, fun c w a r s hc hr ha he => ?_⟩
  · rw [w.take_unsuppressed hr hm]
    exact ⟨fun hl => if_pos hl, fun hl => if_neg (Nat.not_le.mpr hl)⟩
  · intro r s hc hr ho full
    have isFull : ringFull s.ev = true ↔ full := ringFull_iff hr (hc.ring r hr)
    refine ⟨fun e rest hf hq => ?_, fun hf hl => ?_, fun e rest hf hl hq => ?_⟩
    · exact exec_eventWriterAction_full hr ho (isFull.mpr hf) hq
    · rw [exec_eventWriterAction_lost hr ho (mt isFull.mp hf) hl, recordWords_lost]
      rfl
    · rw [exec_eventWriterAction_event hr ho (mt isFull.mp hf) hl hq, recordWords_eq]
      rfl
  · rw [exec_eventRecordWriteComplete hp, exec_eventRecordWriteComplete hp]
    refine ⟨?_, fun ha => ?_⟩
    · rw [recordWritten_ok (by exact hr)]
      simp only [← unconsumed_eq_zero_iff hr (hc.ring r hr)]
      rfl
    · rw [recordWritten_error (by exact hr), eventWriteEnded_none (by exact ha)]
      rfl
  · rw [exec_producerWordWriteComplete hp, producerWritten_eq (by exact hr), eventWriteEnded_none (by exact ha),
      evalEvt_withEv (by exact hr) (hc.ring r hr)]
    rfl
  · have indices : w.ring = some r ∧ w.producer = s.ev.producer ∧ w.consumer = s.ev.consumer ∧
        w.expired = s.ev.expired := by
      obtain ⟨_, -, -, rfl⟩ | ⟨_, _, -, -, rfl⟩ := he <;> exact ⟨hr, rfl, rfl, rfl⟩
    obtain ⟨hw, producer, consumer, expired⟩ := indices
    rw [exec_endsWrite hr ha he, ← producer, ← consumer, ← expired]
    refine ⟨fun hk => ?_, fun hk => ?_⟩
    · rw [evalEvt_adoptRing_kept (by exact hw) (hc.adopt a ha) hk]
      rfl
    · rw [evalEvt_adoptRing_new (by exact hw) (hc.adopt a ha) hk]
      rfl

/-- Settles O49: both rows evaluate EVT#, the expiry with its flag set. -/
theorem consumerAndCoalesceDriveEvt : Obligations.ConsumerAndCoalesceDriveEvt := by
  refine ⟨fun v r s hw hc hr => ?_, fun tm s ht hr => ?_⟩
  · have empty := unconsumed_eq_zero_iff (w := { s.ev with consumer := v.toNat % r.size }) hr (hc.ring r hr)
    have reduced : ((s.ev.producer : Int) - (v.toNat % r.size : Nat)) % r.size = (s.ev.producer - v.toNat) % r.size := by
      rw [Int.natCast_emod, Int.sub_emod_emod]
    rw [exec_consumerWordWrite hw, consumerWrite_eq hr, evalEvt_withEv (by exact hr) (hc.ring r hr)]
    simp only [empty, reduced, Bool.or_false]
  · rw [exec_coalesceTimerExpiry ht]
    refine ⟨fun hd => (if_pos hd).trans ?_, fun hd => if_neg (Nat.not_le.mpr hd)⟩
    rw [evalEvt_expired (by exact hr) rfl]

end Sys2Proof.Machine
end

section
/-! The Command Engine's EXPORT (O45), and an urgent code that waits for an entry's end (O46). -/

namespace Sys2Proof.Machine

section
variable {s t : State} {mask : Byte} {list : W32}

/-! ### EXPORT begins its job (R173 to R175, R184) -/

/-- A mask that names configured passes alone passes its check (R173). -/
theorem exportCheck_args (ha : list.toNat % 16 = 0)
    (hm : ∀ p < 8, mask.getLsbD p = true → p < s.life.params.passCount) :
    exportCheck mask list s = if s.exp.job.isSome = true then some .busy else none := by
  have configured : maskOk mask (passCount s) ≠ false := by
    rw [Ne, maskOk_eq_false]
    rintro ⟨p, hp, hbit, hle⟩
    exact absurd (hm p hp hbit) (Nat.not_lt.mpr hle)
  exact if_neg (not_or.mpr ⟨not_not.mpr ha, configured⟩)

/-- The header piece: start time, pass mask, hot-list flag, and words of 0 (R184). -/
theorem headerPiece_eq (t : W32) (mask : Byte) (hot : Bool) : headerPiece t mask hot =
    [t, wordOfSum [mask.toNat, 0x100 * one hot], 0, 0, 0, 0, 0, 0] := by
  have fits : flag hot < 2 ^ 8 := by cases hot <;> decide
  rw [headerPiece, place_byte, place_of_lt fits, pow_zero, one_mul]
  rfl

/-- The job that EXPORT begins: nothing captured but its header, no entry reached (R173 to R175). -/
def exportBegun (mask : Byte) (hot : Bool) (list : W32) (clock : W32) : ExportJob :=
  { mask := mask, hotFlag := hot, listAddr := list, cursor := 0, reached := 0, held := none, region := none
    lastUsed := false
    turns := ((List.range 8).filter fun p => mask.getLsbD p).map Turn.pass ++ (if hot then [.hotList] else []) ++
      [.trailer]
    buf := [clock, wordOfSum [mask.toNat, 0x100 * one hot], 0, 0, 0, 0, 0, 0]
    start := clock, gens := Table.fill 8 0 }

/-- EXPORT begins with the fetch of its list's first pair (R174). -/
theorem beginExport_eq (mask : Byte) (hot : Bool) (list : W32) (s : State) : beginExport mask hot list s = { s with
    exp := { s.exp with job := some (exportBegun mask hot list s.life.clock), bytes := 0 }
    path := { s.path with expOut := s.path.expOut ++ [⟨.listFetch, list, []⟩] } } := by
  have first : list + BitVec.ofNat 32 (16 * (0 / 2)) = list := BitVec.add_zero list
  rw [exportBegun, ← headerPiece_eq]
  nth_rw 2 [← first]
  rfl

/-! ### A code pending at an entry's end (R161, R165) -/

/-- What an entry's execution leaves for its end: the Command Engine with its requests, the lifephase, the ring in force
and the memory port. -/
structure EntryKept (s t : State) : Prop where
  cmd : t.cmd = s.cmd
  phase : t.life.phase = s.life.phase
  params : t.life.params = s.life.params
  cmdOut : t.path.cmdOut = s.path.cmdOut
  memPort : t.path.memPort = s.path.memPort

theorem EntryKept.of_blocks (h : t.cmd = s.cmd ∧ t.life = s.life ∧ t.path = s.path) : EntryKept s t := by
  obtain ⟨cmd, life, path⟩ := h
  exact ⟨cmd, by rw [life], by rw [life], by rw [path], by rw [path]⟩

/-- An entry leaves what its end needs where its effect does; a refusal does (R163). -/
theorem executeEntry_entryKept {op : Nat} {inHalt : Bool} {check : State → Option Reason} {act : State → State}
    (h : EntryKept s (act s)) : EntryKept s (executeEntry op inHalt check act s) := by
  obtain ⟨r, e⟩ | ⟨-, -, e⟩ := executeEntry_cases op inHalt check act s
  · rw [e]
    exact .of_blocks ⟨rfl, rfl, rfl⟩
  · rw [e]
    exact h

/-- Every ring command but RELOAD is an entry whose execution leaves what its end needs (R161, R163). -/
theorem exec_ringCommand {c : Instr} (hc : isRingCommand c) (hw : c.wellFormed = true) (hr : c ≠ .reload) :
    ∃ entry, (∀ s, exec c s = ringEntry entry s) ∧ ∀ s, EntryKept s (entry s) := by
  have entry {op : Nat} {inHalt : Bool} {check : State → Option Reason} {act : State → State}
      (he : ∀ s, exec c s = ringEntry (executeEntry op inHalt check act) s) (ha : ∀ s, EntryKept s (act s)) :
      ∃ entry, (∀ s, exec c s = ringEntry entry s) ∧ ∀ s, EntryKept s (entry s) :=
    ⟨_, he, fun s => executeEntry_entryKept (ha s)⟩
  cases c
  case unknownOpcode op =>
    have unnamed : ¬op.toNat < 14 := by simpa [Instr.wellFormed, opcodeNamed] using hw
    exact ⟨_, fun s => if_neg unnamed, fun s => .of_blocks ⟨rfl, rfl, rfl⟩⟩
  case nop => exact entry (fun _ => rfl) fun _ => .of_blocks ⟨rfl, rfl, rfl⟩
  case freeze mask | thaw mask | setMode pass mode | forceRefresh mask | clearFaults first last |
      setOffset channel value | calibrateView view | ack cell | ackPass pass | resetExposure cell =>
    exact entry (fun _ => rfl) fun _ => .of_blocks (by simp)
  case exportStart mask hotFlag list =>
    refine entry (fun _ => rfl) fun s => ?_
    rw [beginExport_eq]
    exact ⟨rfl, rfl, rfl, rfl, rfl⟩
  case lock => exact entry (fun _ => rfl) fun _ => ⟨rfl, rfl, rfl, rfl, rfl⟩
  case reload => exact absurd rfl hr
  all_goals exact absurd hc (by simp [isRingCommand, encodeRecord])

/-- An accepted code leaves the Command Engine's requests to the clearing write that follows it (R116, R165, R177). -/
theorem carryOutUrgent_cmdOut (u : Urgent) (s : State) : (carryOutUrgent u s).path.cmdOut = s.path.cmdOut := by
  unfold carryOutUrgent
  cases s.life.phase
  case run =>
    cases u
    case freezeAll => simp
    case thawAll => simp
    case abortExport =>
      dsimp only [abortExportJob, endExport]
      cases s.exp.job <;> rfl
  all_goals rfl

/-- A pending code accepted outside LOAD: the register empty, the note clear, the clearing write posted (R165). -/
theorem acceptUrgent_taken {c : Urgent} (hu : s.cmd.urgent = some c) (hl : s.life.phase ≠ .load) :
    (acceptUrgent s).cmd = { s.cmd with urgent := none, note := false } ∧
      (acceptUrgent s).path.cmdOut = s.path.cmdOut ++ [clearWrite s] ∧
      (acceptUrgent s).path.memPort = s.path.memPort := by
  have clearing (u : State) : (clearWrite u).kind.owner = .commandEngine := rfl
  have base (x : Cmd) (c : Urgent) : clearWrite (carryOutUrgent c (withCmd x s)) = clearWrite s := by
    simp [clearWrite, cmdBase]
  simp only [acceptUrgent, hl, hu, if_false, post_cmdOut _ _ (clearing _), carryOutUrgent_cmdOut, base, post_cmd,
    post_path_memPort, carryOutUrgent_frame, withCmd_cmd, withCmd_path, and_self]

/-- The end of an entry with a code pending (R161, R165). -/
theorem finishEntry_taken {c : Urgent} (hu : s.cmd.urgent = some c) (hl : s.life.phase ≠ .load) :
    (finishEntry s).cmd = { s.cmd with head := nextHead s, urgent := none, note := false } ∧
      (finishEntry s).path.cmdOut = s.path.cmdOut ++
        [nextHeadWrite s, ⟨.urgentClear, s.life.params.cmdBase + 0xF08, [0]⟩] ∧
      (finishEntry s).path.memPort = s.path.memPort := by
  let moved := withCmd { s.cmd with head := (s.cmd.head + 1) % cmdSize s } s
  obtain ⟨cmd, cmdOut, memPort⟩ := acceptUrgent_taken (s := post (headWrite moved) moved) (c := c) hu hl
  have posted : (post (headWrite moved) moved).path.cmdOut = s.path.cmdOut ++ [nextHeadWrite s] := rfl
  rw [posted, List.append_assoc] at cmdOut
  exact ⟨cmd, cmdOut, memPort⟩

end

/-- Settles O45: its check passed EXPORT begins its job, and with one in flight it is refused. -/
theorem exportStartsOrIsBusy : Obligations.ExportStartsOrIsBusy := by
  intro mask hotFlag list s hp h ha hm
  refine ⟨fun hj => ?_, fun hj => ?_⟩
  · have passes : exportCheck mask list (freePort s) = none :=
      (exportCheck_args (s := freePort s) ha hm).trans (by simp [hj])
    refine (runEntry_acts hp h passes).trans (congrArg _ ?_)
    rw [beginExport_eq, finishEntry_eq_entryEnded (s := s) (by exact h.2) (by rfl) (by rfl) (by rfl), exportBegun]
    simp only [decide_eq_true_eq]
    rfl
  · exact runEntry_refused hp h (r := .busy) ((exportCheck_args (s := freePort s) ha hm).trans (if_pos hj))

/-- Settles O46: the entry's execution leaves what its end needs, and the end accepts the code. -/
theorem pendingCodeIsAcceptedAtEntryEnd : Obligations.PendingCodeIsAcceptedAtEntryEnd := by
  intro c u s hc hw hr hp hu hph
  obtain ⟨entry, he, kept⟩ := exec_ringCommand hc hw hr
  obtain ⟨cmd, phase, params, cmdOut, memPort⟩ := kept (freePort s)
  have awake : (entry (freePort s)).life.phase ≠ .load := by
    rw [phase]
    obtain hph | hph := hph <;> simp [hph]
  have ended := finishEntry_taken (c := u) (by rw [cmd]; exact hu) awake
  refine ⟨_, (he s).trans (ringEntry_of hp), ?_⟩
  rw [nextHeadWrite, nextHead, cmd, params, cmdOut, memPort] at ended
  exact ended

end Sys2Proof.Machine
end

section
/-! The Export Engine: list fetches and stream bursts (O50), and the turns and regions that follow one another (O51). -/

namespace Sys2Proof.Machine

section
variable {s : State} {j j' : ExportJob} {r : Region} {e : W32 × W32} {o : ExportOutcome}

/-! ### How a job goes on or ends (R174 to R177) -/

/-- The Export Engine goes on with this job, a request posted behind the engine's others (R12). -/
def exportGoesOn (j : ExportJob) (q : BridgeReq) (s : State) : State :=
  { s with exp := { s.exp with job := some j }, path := { s.path with expOut := s.path.expOut ++ [q] } }

/-- The job has ended, this many entries reached: its requests are withdrawn and EXPORT/END handed over (R176,
R177). -/
def exportEnded (o : ExportOutcome) (reached : Nat) (s : State) : State :=
  { s with
    exp := { s.exp with job := none, outcome := o }
    path := { s.path with expOut := [] }
    ev := s.ev.take ⟨.exportEnd, BitVec.ofNat 16 reached, s.life.clock, BitVec.ofNat 32 o.code,
      BitVec.ofNat 32 s.exp.bytes⟩ }

theorem endExport_of (h : s.exp.job = some j) (o : ExportOutcome) : endExport o s = exportEnded o j.reached s := by
  simp only [endExport, h]
  rfl

theorem endExport_withJob (o : ExportOutcome) (j : ExportJob) (s : State) :
    endExport o (withJob j s) = exportEnded o j.reached s := endExport_of (s := withJob j s) rfl o

theorem postStream_withJob (r : Region) (j : ExportJob) (s : State) :
    postStream r j (withJob j s) = exportGoesOn j ⟨.stream, r.addr, j.buf.take 4⟩ s := rfl

/-! ### Entries of the region list (R174) -/

/-- The length field, 0 standing for 65,536 bytes (spec 10, Region list). -/
theorem regionLength_eq (w : W32) : regionLength w = if w.toNat % 65536 = 0 then 65536 else w.toNat % 65536 := by
  simp only [regionLength, bits, pow_zero, Nat.div_one, Nat.reducePow]

theorem entryValid_iff (a l : W32) : entryValid (a, l) = true ↔ a.toNat % 16 = 0 ∧ l.toNat % 16 = 0 := by
  simp only [entryValid, regionLength_eq, Bool.and_eq_true, decide_eq_true_eq]
  split <;> omega

/-- The job with an entry reached that passes its checks: its region is the current one. -/
def entryReached (a l : W32) (j : ExportJob) : ExportJob :=
  { j with
    cursor := j.cursor + 1, reached := j.reached + 1
    region := some ⟨a, if l.toNat % 65536 = 0 then 65536 else l.toNat % 65536, l.getLsbD 31⟩, lastUsed := l.getLsbD 31 }

theorem reachEntry_valid {a l : W32} (ha : a.toNat % 16 = 0) (hl : l.toNat % 16 = 0) (j : ExportJob) (s : State) :
    reachEntry (a, l) j s = exportGoesOn (entryReached a l j) ⟨.stream, a, j.buf.take 4⟩ s := by
  simp only [reachEntry, (entryValid_iff a l).mpr ⟨ha, hl⟩, if_true, regionLength_eq, bit_eq_getLsbD, postStream_withJob]
  rfl

theorem reachEntry_invalid {a l : W32} (h : a.toNat % 16 ≠ 0 ∨ l.toNat % 16 ≠ 0) (j : ExportJob) (s : State) :
    reachEntry (a, l) j s = exportEnded .listError (j.reached + 1) s := by
  have bad : entryValid (a, l) = false := by
    rw [← Bool.not_eq_true, entryValid_iff]
    omega
  simp only [reachEntry, bad, Bool.false_eq_true, if_false, endExport_withJob]

/-! ### The need for a region (R174) -/

theorem needRegion_ends (h : noMoreRegions j = some o) (s : State) : needRegion j s = exportEnded o j.reached s := by
  simp only [needRegion, h, endExport_withJob]

theorem needRegion_held (h : noMoreRegions j = none) (hh : j.held = some e) (s : State) :
    needRegion j s = reachEntry e { j with held := none } s := by
  simp only [needRegion, h, hh]

theorem needRegion_fetches (h : noMoreRegions j = none) (hh : j.held = none) (s : State) : needRegion j s =
    exportGoesOn j ⟨.listFetch, j.listAddr + BitVec.ofNat 32 (16 * (j.cursor / 2)), []⟩ s := by
  simp only [needRegion, h, hh]
  rfl

theorem noMoreRegions_within (hc : j.cursor ≤ 31) :
    noMoreRegions j = if j.lastUsed = true then some .truncated else none := if_neg (Nat.not_lt.mpr hc)

theorem noMoreRegions_beyond (hc : 31 < j.cursor) : noMoreRegions j =
    if j.lastUsed = true then some (if Config.lastEntryTruncates then .truncated else .listError) else some .listError :=
  if_pos hc

/-! ### A burst written (R175, R176) -/

/-- A burst counted (R175). -/
def burstCounted (s : State) : State := { s with exp := { s.exp with bytes := s.exp.bytes + 16 } }

theorem exec_listFetchComplete (h : onPortKind s .listFetch) (reply : FetchReply) :
    exec (.listFetchComplete reply) s = .next (listFetched reply (freePort s)) := by
  obtain ⟨q, hk, hq⟩ := h
  exact congrArg Host.Outcome.next (complete_of hq (by simp [isKind, hk]))

theorem exec_streamWriteComplete (h : onPortKind s .stream) (error : Bool) :
    exec (.streamWriteComplete error) s = .next (streamWritten error (freePort s)) := by
  obtain ⟨q, hk, hq⟩ := h
  exact congrArg Host.Outcome.next (complete_of hq (by simp [isKind, hk]))

theorem listFetched_words (hj : s.exp.job = some j) (a l a' l' : W32) : listFetched (.words a l a' l') s =
    reachEntry (a, l) { j with held := some (a', l') } s := by
  simp only [listFetched, hj]

theorem listFetched_error (hj : s.exp.job = some j) : listFetched .error s = exportEnded .busError j.reached s := by
  simp only [listFetched, hj, endExport_of hj]

theorem streamWritten_error (hj : s.exp.job = some j) : streamWritten true s = exportEnded .busError j.reached s := by
  simp only [streamWritten, hj, if_true, endExport_of hj]

/-- After an abort the burst is counted still (R177). -/
theorem streamWritten_aborted (hj : s.exp.job = none) : streamWritten false s = burstCounted s := by
  rw [streamWritten, hj]
  rfl

/-- The job after a burst into its region (R175). -/
theorem advanceStream_eq (hr : j.region = some r) : advanceStream j =
    { j with region := some { r with addr := r.addr + 16, left := r.left - 16 }, buf := j.buf.drop 4 } := by
  rw [advanceStream, hr, Option.map_some]

/-- The job goes on within its turn, or with the next turn captured (R175). -/
theorem streamWritten_continues (hj : s.exp.job = some j)
    (h : (advanceStream j).buf ≠ [] ∧ j' = advanceStream j ∨
      (advanceStream j).buf = [] ∧ captureTurn (burstCounted s) (advanceStream j) = some j') :
    streamWritten false s = continueStream j' (burstCounted s) := by
  rw [streamWritten, hj]
  obtain ⟨hb, rfl⟩ | ⟨hb, hc⟩ := h
  · obtain ⟨w, rest, hb⟩ := List.exists_cons_of_ne_nil hb
    simp only [hb, Bool.false_eq_true, if_false]
    rfl
  · rw [burstCounted] at hc
    simp only [hb, hc, Bool.false_eq_true, if_false]
    rfl

/-- The trailer's last burst ends the job (R176). -/
theorem streamWritten_done (hj : s.exp.job = some j) (hb : (advanceStream j).buf = []) (ht : j.turns = []) :
    streamWritten false s = exportEnded (doneOutcome (advanceStream j)) j.reached (burstCounted s) := by
  have ended (u : State) : captureTurn u (advanceStream j) = none := by
    simp only [captureTurn, advanceStream, ht]
  rw [streamWritten, hj]
  simp only [hb, ended, Bool.false_eq_true, if_false, endExport_withJob]
  rfl

/-- DONE_EXACT exactly where the burst used up a LAST region (R176). -/
theorem doneOutcome_eq (hr : j.region = some r) : doneOutcome (advanceStream j) =
    if r.left ≤ 16 ∧ r.last = true then .doneExact else .doneShort := by
  rw [advanceStream_eq hr]
  simp only [doneOutcome, Nat.sub_eq_zero_iff_le]

/-- The stream goes on in its region while that has bytes left (R175). -/
theorem continueStream_more (hr : j.region = some r) (hl : r.left ≠ 0) (s : State) :
    continueStream j s = exportGoesOn j ⟨.stream, r.addr, j.buf.take 4⟩ s := by
  simp only [continueStream, hr, hl, if_false, postStream_withJob]

/-- A region used up: the next one is needed (R174). -/
theorem continueStream_usedUp (hr : j.region = some r) (hl : r.left = 0) (s : State) :
    continueStream j s = needRegion { j with region := none } s := by
  simp only [continueStream, hr, hl, if_true]

end

/-- Settles O50: the two completions case by case. -/
theorem listFetchesAndStreamBurstsAct : Obligations.ListFetchesAndStreamBurstsAct := by
  refine ⟨fun j s hp hj => ⟨fun a l a' l' ha hl => ?_, fun a l a' l' hb => ?_, ?_⟩,
    fun s hp => ⟨fun j r w rest hj hr hb hl => ?_, fun j r hj hr hb ht => ?_, fun j hj => ?_, fun hj => ?_⟩⟩
  · rw [exec_listFetchComplete hp, listFetched_words (by exact hj), reachEntry_valid ha hl]
    rfl
  · rw [exec_listFetchComplete hp, listFetched_words (by exact hj), reachEntry_invalid hb]
    rfl
  · rw [exec_listFetchComplete hp, listFetched_error (by exact hj)]
    rfl
  · have more : (advanceStream j).buf ≠ [] := hb.trans_ne (List.cons_ne_nil w rest)
    rw [exec_streamWriteComplete hp, streamWritten_continues (by exact hj) (.inl ⟨more, rfl⟩), advanceStream_eq hr, hb,
      continueStream_more rfl (by simpa using Nat.sub_ne_zero_of_lt hl)]
    rfl
  · rw [exec_streamWriteComplete hp, streamWritten_done (by exact hj) hb ht, doneOutcome_eq hr]
    split <;> rfl
  · rw [exec_streamWriteComplete hp, streamWritten_error (by exact hj)]
    rfl
  · rw [exec_streamWriteComplete hp, streamWritten_aborted (by exact hj)]
    rfl

section
variable {s : State} {j j' : ExportJob} {r : Region} {p : Nat} {turns : List Turn}

/-! ### Captures (R175, R184) -/

/-- The spot snapshot's word: brightness, presence, freshness, and whether a last direct time is present (R184). -/
def snapWord (c : Cell) : W32 :=
  match c.snap with
  | some x => wordOfSum [(x.brightness % 65536).toNat, 0x10000, 0x20000 * one x.fresh, 0x40000 * one c.lastDirect.isSome]
  | none => wordOfSum [0x40000 * one c.lastDirect.isSome]

/-- The words of a cell piece behind its cell record (R184). -/
def cellTail (c : Cell) : List W32 :=
  [wordOfSum [half c.tcComp, 0x10000 * half (c.snap.map Snapshot.value)], snapWord c,
    (match c.snap with | some x => BitVec.ofNat 32 x.age | none => 0), encTime c.lastDirect]

theorem cellPiece_eq (s : State) (c : Nat) :
    cellPiece s c = liveRecord s (.cellRec c) ++ cellTail (s.map.cells.get c) := by
  have absent (n : Nat) : mkWord [place 0 0 16, place (flag false) 16 1, place (flag false) 17 1, n] = wordOfSum [n] := by
    simp [mkWord, wordOfSum, place, flag]
  unfold cellPiece cellTail snapWord
  dsimp only
  cases (s.map.cells.get c).snap with
  | none =>
    simp only [Option.isSome_none, Option.map_none, absent]
    simp only [place_encOpt16, place_flag, pow_zero, one_mul, Nat.reducePow]
    rfl
  | some x =>
    simp only [Option.isSome_some, Option.map_some, place_encOpt16, place_enc16, place_flag, pow_zero, one_mul,
      Nat.reducePow]
    rfl

/-- The trailer piece: the generations captured, four to a word, and the end time (R184). -/
theorem trailerPiece_eq (gens : Table Byte 8) (stop : W32) : trailerPiece gens stop =
    [wordOfSum [(gens.get 0).toNat, 0x100 * (gens.get 1).toNat, 0x10000 * (gens.get 2).toNat,
        0x1000000 * (gens.get 3).toNat],
      wordOfSum [(gens.get 4).toNat, 0x100 * (gens.get 5).toNat, 0x10000 * (gens.get 6).toNat,
        0x1000000 * (gens.get 7).toNat], stop, 0, 0, 0, 0, 0] := by
  simp only [trailerPiece, packBytes, place_byte, pow_zero, one_mul]
  rfl

/-- What the map window serves of a pass, a cell or the hot list depends neither on the Export Engine nor on the memory
port. -/
theorem liveRecord_burstCounted (s : State) {id : RecordId} (h : id ≠ .status) :
    liveRecord (burstCounted (freePort s)) id = liveRecord s id := by
  cases id
  case status => exact absurd rfl h
  all_goals rfl

/-- The job with this turn captured from the state that stands (R175, R184). -/
def turnCaptured (s : State) (j : ExportJob) (rest : List Turn) : Turn → ExportJob
  | .pass p => { j with
      turns := rest, gens := j.gens.set p (s.map.passes.get p).gen
      buf := liveRecord s (.passHeader p) ++ (List.range (s.map.passes.get p).cfg.cellCount).flatMap fun k =>
        liveRecord s (.cellRec (p * 64 + k)) ++ cellTail (s.map.cells.get (p * 64 + k)) }
  | .hotList => { j with turns := rest, buf := liveRecord s .hotList }
  | .trailer => { j with
      turns := rest
      buf := [wordOfSum [(j.gens.get 0).toNat, 0x100 * (j.gens.get 1).toNat, 0x10000 * (j.gens.get 2).toNat,
          0x1000000 * (j.gens.get 3).toNat],
        wordOfSum [(j.gens.get 4).toNat, 0x100 * (j.gens.get 5).toNat, 0x10000 * (j.gens.get 6).toNat,
          0x1000000 * (j.gens.get 7).toNat], s.life.clock, 0, 0, 0, 0, 0] }

theorem captureTurn_eq {turn : Turn} {rest : List Turn} (h : j.turns = turn :: rest) :
    captureTurn (burstCounted (freePort s)) j = some (turnCaptured s j rest turn) := by
  cases turn with
  | pass p =>
    have pieces : passTurn (burstCounted (freePort s)) p = liveRecord s (.passHeader p) ++
        (List.range (s.map.passes.get p).cfg.cellCount).flatMap fun k =>
          liveRecord s (.cellRec (p * 64 + k)) ++ cellTail (s.map.cells.get (p * 64 + k)) := by
      simp only [passTurn, cellPiece_eq, liveRecord_burstCounted s (id := .passHeader p) nofun]
      rfl
    simp only [captureTurn, h, pieces]
    rfl
  | hotList =>
    simp only [captureTurn, h, liveRecord_burstCounted s (id := .hotList) nofun]
    rfl
  | trailer =>
    simp only [captureTurn, h, trailerPiece_eq]
    rfl

/-- The job with what is to be written next: the rest of its buffer, or the next turn, captured (R175). -/
def WritesNext (s : State) (j j' : ExportJob) : Prop :=
  (∃ w rest, j.buf.drop 4 = w :: rest ∧ j' = { j with buf := w :: rest }) ∨
    (j.buf.drop 4 = [] ∧ ∃ turn rest, j.turns = turn :: rest ∧ j' = turnCaptured s j rest turn)

/-- What is to be written next does not touch the job's place in its region list. -/
theorem WritesNext.place (h : WritesNext s j j') : j'.listAddr = j.listAddr ∧ j'.cursor = j.cursor ∧
    j'.reached = j.reached ∧ j'.held = j.held ∧ j'.lastUsed = j.lastUsed := by
  obtain ⟨w, rest, -, rfl⟩ | ⟨-, turn, rest, -, rfl⟩ := h
  · exact ⟨rfl, rfl, rfl, rfl, rfl⟩
  · cases turn <;> exact ⟨rfl, rfl, rfl, rfl, rfl⟩

/-- A burst counted, the stream goes on with what is to be written next, 16 bytes further in its region (R175). -/
theorem exec_streamWriteComplete_continues (hp : onPortKind s .stream) (hj : s.exp.job = some j) (hr : j.region = some r)
    (h : WritesNext s j j') : exec (.streamWriteComplete false) s = .next (continueStream
      { j' with region := some { r with addr := r.addr + 16, left := r.left - 16 } } (burstCounted (freePort s))) := by
  rw [exec_streamWriteComplete hp]
  refine congrArg _ (streamWritten_continues (s := freePort s) hj ?_)
  rw [advanceStream_eq hr]
  obtain ⟨w, rest, hb, rfl⟩ | ⟨hb, turn, rest, ht, rfl⟩ := h
  · exact .inl ⟨hb.trans_ne (List.cons_ne_nil w rest), by rw [hb]⟩
  · refine .inr ⟨hb, ?_⟩
    rw [captureTurn_eq (by exact ht)]
    cases turn <;> rfl

/-- The region has bytes left: the next burst follows in it (R175). -/
theorem exec_streamWriteComplete_more (hp : onPortKind s .stream) (hj : s.exp.job = some j) (hr : j.region = some r)
    (h : WritesNext s j j') (hl : 16 < r.left) : exec (.streamWriteComplete false) s = .next (exportGoesOn
      { j' with region := some { r with addr := r.addr + 16, left := r.left - 16 } }
      ⟨.stream, r.addr + 16, j'.buf.take 4⟩ (burstCounted (freePort s))) := by
  rw [exec_streamWriteComplete_continues hp hj hr h, continueStream_more rfl (Nat.sub_ne_zero_of_lt hl)]

/-- The region is used up: another is needed (R174). -/
theorem exec_streamWriteComplete_usedUp (hp : onPortKind s .stream) (hj : s.exp.job = some j) (hr : j.region = some r)
    (h : WritesNext s j j') (hl : r.left ≤ 16) : exec (.streamWriteComplete false) s =
      .next (needRegion { j' with region := none } (burstCounted (freePort s))) := by
  rw [exec_streamWriteComplete_continues hp hj hr h, continueStream_usedUp rfl (Nat.sub_eq_zero_of_le hl)]

/-- Whether the region list has more does not depend on what is to be written next (R174). -/
theorem WritesNext.noMoreRegions (h : WritesNext s j j') :
    noMoreRegions { j' with region := none } = Machine.noMoreRegions j := by
  obtain ⟨-, cursor, -, -, lastUsed⟩ := h.place
  simp only [Machine.noMoreRegions, cursor, lastUsed]

end

/-- Settles O51: what is to be written next, then the region it goes to. -/
theorem exportRegionsAndTurnsFollow : Obligations.ExportRegionsAndTurnsFollow := by
  intro j r s hp hj hr piece gen next j' hn ended goes
  have writes : WritesNext s j j' := by
    refine hn.imp id fun ⟨hb, turn, rest, ht, hc⟩ => ⟨hb, turn, rest, ht, ?_⟩
    cases turn <;> exact hc
  obtain ⟨listAddr, cursor, reached, held, -⟩ := writes.place
  refine ⟨exec_streamWriteComplete_more hp hj hr writes, fun hl => ?_⟩
  have needed := exec_streamWriteComplete_usedUp hp hj hr writes hl
  have ends (o : ExportOutcome) (h : noMoreRegions j = some o) :
      exec (.streamWriteComplete false) s = .next (ended o j.reached o.code) := by
    rw [needed, needRegion_ends (writes.noMoreRegions.trans h), ← reached]
    rfl
  refine ⟨fun hc hu => ends .listError ?_, fun hc hu => ends .truncated ?_, fun hc hu => ?_, fun hc hu => ?_⟩
  · rw [noMoreRegions_beyond hc, hu]
    rfl
  · rw [noMoreRegions_within hc, hu]
    rfl
  · rw [ends _ ((noMoreRegions_beyond hc).trans (if_pos hu))]
    split <;> rfl
  · have more : noMoreRegions { j' with region := none } = none := by
      rw [writes.noMoreRegions, noMoreRegions_within hc, hu]
      rfl
    rw [needed]
    refine ⟨fun a l hh ha hl => ?_, fun a l hh hb => ?_, fun hh => ?_⟩
    · rw [needRegion_held more (held.trans hh), reachEntry_valid ha hl, ← cursor, ← reached]
      rfl
    · rw [needRegion_held more (held.trans hh), reachEntry_invalid hb, ← reached]
      rfl
    · rw [needRegion_fetches more (held.trans hh), ← cursor, ← listAddr]
      rfl

end Sys2Proof.Machine
end

section
/-! The command records of the ring: what the fields of an encoded record read back as, and that it decodes to the command
that it encodes (O52). -/

namespace Sys2Proof.Machine

/-! ### The fields of an encoded record (R180) -/

section
variable (op : Nat) (a b : Byte) (x : W16) (l : W32)

@[simp] theorem arg0_mkRecord : (mkRecord op a b x l).arg0 = a := by
  apply BitVec.eq_of_toNat_eq
  simp only [CmdRecord.arg0, mkRecord, mkWord, place, bits, List.sum_cons, List.sum_nil, BitVec.toNat_ofNat]
  omega

@[simp] theorem arg1_mkRecord : (mkRecord op a b x l).arg1 = b := by
  apply BitVec.eq_of_toNat_eq
  simp only [CmdRecord.arg1, mkRecord, mkWord, place, bits, List.sum_cons, List.sum_nil, BitVec.toNat_ofNat]
  omega

@[simp] theorem short_mkRecord : (mkRecord op a b x l).short = x := by
  apply BitVec.eq_of_toNat_eq
  simp only [CmdRecord.short, mkRecord, mkWord, place, bits, List.sum_cons, List.sum_nil, BitVec.toNat_ofNat]
  omega

@[simp] theorem long_mkRecord : (mkRecord op a b x l).long = l := rfl

end

/-! ### Decoding by the opcode (R163, R180) -/

/-- An opcode that names no command decodes to UNKNOWN_OPCODE with it (R163). -/
theorem decodeRecord_of_unnamed {r : CmdRecord} (h : opcodeNamed r.opcode = false) :
    decodeRecord r = .unknownOpcode r.opcode := by
  have unnamed : 14 ≤ r.opcode.toNat := by simpa [opcodeNamed] using h
  unfold decodeRecord
  split
  case h_15 => rfl
  all_goals omega

/-- Settles O52: by the command; the opcode of its record selects its row, whose arguments read back. -/
theorem recordsDecodeAsEncoded : Obligations.RecordsDecodeAsEncoded := by
  intro c r hw hr
  cases c
  case unknownOpcode op =>
    obtain rfl : mkRecord op.toNat 0 0 0 0 = r := Option.some.inj hr
    have readsBack : (mkRecord op.toNat 0 0 0 0).opcode = op := BitVec.eq_of_toNat_eq (opcode_mkRecord op.isLt ..)
    have unnamed : opcodeNamed op = false := by simpa [Instr.wellFormed] using hw
    rw [decodeRecord_of_unnamed (readsBack.symm ▸ unnamed), readsBack]
  case nop | freeze | thaw | setMode | forceRefresh | clearFaults | setOffset | calibrateView | ack | ackPass |
      resetExposure | exportStart | reload | lock =>
    simp only [encodeRecord, Option.some.injEq] at hr
    subst hr
    simp (disch := decide) only [decodeRecord, opcode_mkRecord, arg0_mkRecord, arg1_mkRecord, short_mkRecord,
      long_mkRecord]
  all_goals exact nomatch hr

end Sys2Proof.Machine
end
